-- ==== Sys2Proof/Word.lean ====
section
/-! DEFINITION. The word types of the LG48's interfaces and the port number. -/

namespace Sys2Proof

/-- One byte of a lane record or of a management frame (R181). -/
abbrev Byte := BitVec 8

/-- A two-byte field: a stamp, a room id, a probe tag (R3, R63, R181). -/
abbrev Half := BitVec 16

/-- A four-byte field: the slot count and the second count (R1). -/
abbrev Word := BitVec 32

/-- A station address (R47). -/
abbrev Address := BitVec 48

/-- One of the 40 ports of the guarded switch, numbered 0 to 39 (00_scope.md, Terms). -/
abbrev Port := Fin 40

end Sys2Proof
end

