-- ==== Sys2Proof/Config.lean ====
section
/-! DEFINITION. What the spec leaves to the board, and the two identity numbers of the part. The spec leaves no value of
the behaviour undefined, so there is no free value here. -/

namespace Sys2Proof.Config

/-- BAUD1 and BAUD0 as they stand in `State.reset`, before any POWER_ON command has sampled them (R155).
DESIGN CHOICE (log 6), unsafe: the spec gives the straps no value. -/
def resetStraps : BitVec 2 := 0

/-- The part code of the STATUS reply (R166). -/
def partCode : Half := 0x4C30

/-- The revision of the STATUS reply (R166). -/
def revision : Byte := 1

end Sys2Proof.Config
end

