-- ==== Sys2Proof/Syntax.lean ====
section
/-! DEFINITION. The commands of the LG48: one constructor of `Instr` per row of spec/opcode_table.json, with the row's
operands. Request rows carry the tag of the request and the fields of its body as they stand on the wire, so that a value
that the rules refuse or clamp can be sent. -/

namespace Sys2Proof

/-- What the slot expiry samples on the input pins: the raw level of each key, true while the key is pressed (R146), and
whether ML_RXD was low throughout the slot just closed (R163). -/
structure SlotLines where
  relDown : Bool
  silDown : Bool
  rxLow   : Bool
  deriving DecidableEq, Repr

/-- Where, at one slot expiry, the events it brings about are taken: before the step reports and the admission, between
the two, after both, or not within SLOT_EXPIRY, so that each is taken by the command of its own row (R1, R67, R97, log 3).
An ended probe entry concludes before the admission in every place (R69, log 25). -/
inductive EventPlace where
  | before
  | between
  | after
  | ownRows
  deriving DecidableEq, Repr

/-- The order of the works of one slot expiry that the spec does not order among themselves (R1, R67, R97, R127, R154):
the place of the events, and whether the admission of R66 comes before the step reports of R30. -/
structure ExpiryOrder where
  events     : EventPlace
  admitFirst : Bool
  deriving DecidableEq, Repr

/-- One role's thresholds as METER SET carries them, each a signed 16-bit number (R42). -/
structure ThresholdBlock where
  limit : Half
  block : Half
  calm  : Half
  ceil  : Half
  deriving DecidableEq, Repr

/-- The meter block of METER SET (R42, section 12.4). -/
structure MeterBlock where
  cls    : Byte
  window : Byte
  shape  : Byte
  shift  : Byte
  desk   : ThresholdBlock
  trunk  : ThresholdBlock
  deriving DecidableEq, Repr

/-- The profile block of PROFILE SET: sixteen fields and forty role codes (R176, section 12.4). -/
structure ProfileBlock where
  roomId        : Half
  probeTimeout  : Byte
  sweepPeriod   : Half
  sweepSpacing  : Byte
  holdOffBase   : Byte
  strikeLimit   : Byte
  decayPeriod   : Byte
  calmHold      : Half
  confirmCount  : Byte
  flapWindow    : Half
  flapLimit     : Byte
  stationAge    : Half
  panelDuty     : Byte
  buzzTime      : Byte
  authoriseTime : Byte
  keyMode       : Byte
  roles         : Vector Byte 40
  deriving DecidableEq, Repr

/-- The commands: one constructor per row of the opcode table, in the table's order. -/
inductive Instr where
  /-- POWER_ON (R178): RST_N returns high; `straps` is BAUD1, BAUD0. -/
  | powerOn (straps : BitVec 2)
  /-- SLOT_EXPIRY (R1). -/
  | slotExpiry (lines : SlotLines) (order : ExpiryOrder)
  /-- SECOND_EXPIRY (R2). -/
  | secondExpiry
  /-- SIGHTING_RECORD_RECEIVE (R4): the whole bytes that SL_FRM framed, and the bit periods beyond the last whole byte. -/
  | sightingRecordReceive (bytes : List Byte) (extraBits : Nat)
  /-- FABRIC_LOST (R10). -/
  | fabricLost
  /-- TALLY_DISPATCH (R12). -/
  | tallyDispatch
  /-- SAMPLE_DISPATCH (R49). -/
  | sampleDispatch
  /-- PROBE_DISPATCH (R70). -/
  | probeDispatch
  /-- LINK_DISPATCH (R90). -/
  | linkDispatch
  /-- SLOT_MARK_GRANT (R15). -/
  | slotMarkGrant
  /-- GATE_CHANGE_GRANT (R17). -/
  | gateChangeGrant
  /-- EMIT_GRANT (R18). -/
  | emitGrant
  /-- REFRESH_GATE_GRANT (R19). -/
  | refreshGateGrant
  /-- CALM_HOLD_REACHED (R95). -/
  | calmHoldReached (port : Port)
  /-- PROBE_EXPIRY (R69): the ended entry of one origin port. -/
  | probeExpiry (origin : Port)
  /-- RETIRE_PERIOD_END (R83). -/
  | retirePeriodEnd
  /-- HOLD_OFF_EXPIRY (R101). -/
  | holdOffExpiry (port : Port)
  /-- STRIKE_DECAY (R104). -/
  | strikeDecay (port : Port)
  /-- GRACE_EXPIRY (R41). -/
  | graceExpiry
  /-- AUTO_SWEEP_TIMER_EXPIRY (R121). -/
  | autoSweepTimerExpiry
  /-- SWEEP_TAKE_PORT (R123). -/
  | sweepTakePort
  /-- SIL_PRESS (R148). -/
  | silPress
  /-- REL_PRESS (R149). -/
  | relPress
  /-- REL_RELEASE (R149). -/
  | relRelease
  /-- KEY_RELEASE_SIL (R148). -/
  | keyReleaseSil
  /-- TWO_KEY_ROOM_RELEASE (R150). -/
  | twoKeyRoomRelease
  /-- BUZZER_EXPIRY (R152). -/
  | buzzerExpiry
  /-- ML_CHARACTER_RECEIVE (R155, R156): the byte, and whether the stop bit was high. -/
  | mlCharacterReceive (byte : Byte) (stopHigh : Bool)
  /-- FRAME_TIMEOUT (R157). -/
  | frameTimeout
  /-- LINK_BREAK (R163). -/
  | linkBreak
  /-- BREAK_WAIT_END (R163). -/
  | breakWaitEnd
  /-- REQUEST_TAKE (R158). -/
  | requestTake
  /-- REPLY_SENT (R158). -/
  | replySent
  /-- NOTICE_SEND (R171). -/
  | noticeSend
  /-- STATUS (R166). -/
  | status (tag option : Byte)
  /-- PROFILE_GET (R175). -/
  | profileGet (tag : Byte)
  /-- PROFILE_SET (R176). -/
  | profileSet (tag : Byte) (block : ProfileBlock)
  /-- METER_GET (R45). -/
  | meterGet (tag cls : Byte)
  /-- METER_SET (R42). -/
  | meterSet (tag : Byte) (block : MeterBlock)
  /-- BASELINE_SET (R39). -/
  | baselineSet (tag port cls : Byte) (value : Half)
  /-- GRACE (R40). -/
  | grace (tag : Byte) (duration : Half)
  /-- PORT_GET (R115). -/
  | portGet (tag port : Byte)
  /-- PORT_ROLE (R109). -/
  | portRole (tag port role : Byte)
  /-- BLOCK (R106). -/
  | block (tag port : Byte)
  /-- RELEASE (R107). -/
  | release (tag port : Byte)
  /-- ROOM_RELEASE (R108). -/
  | roomRelease (tag : Byte)
  /-- TRIP_LIST (R113). -/
  | tripList (tag : Byte)
  /-- CHECK (R79). -/
  | check (tag port : Byte)
  /-- SWEEP (R122). -/
  | sweep (tag first last : Byte)
  /-- ABORT (R126). -/
  | abort (tag : Byte)
  /-- EVIDENCE_GET (R136). -/
  | evidenceGet (tag port : Byte)
  /-- EVIDENCE_CLEAR (R137). -/
  | evidenceClear (tag port : Byte)
  /-- STATION_FIND (R57). -/
  | stationFind (tag : Byte) (address : Address)
  /-- STATION_PIN (R58). -/
  | stationPin (tag : Byte) (address : Address) (port : Byte)
  /-- STATION_UNPIN (R59). -/
  | stationUnpin (tag : Byte) (address : Address)
  /-- STATION_FLUSH (R60). -/
  | stationFlush (tag port : Byte)
  /-- PANEL_SET (R144): bit n of the mask is cell n. -/
  | panelSet (tag : Byte) (mask : BitVec 80) (value : Byte)
  /-- PANEL_RETURN (R145): bit n of the mask is cell n. -/
  | panelReturn (tag : Byte) (mask : BitVec 80)
  /-- NOTICE_MASK (R172): bit j enables notice code 0x40 + j. -/
  | noticeMask (tag : Byte) (mask : Half)
  /-- RESTART (R179). -/
  | restart (tag mode : Byte)
  /-- NOTICE_FRAME_END (R161). -/
  | noticeFrameEnd
  /-- SCAN_NEXT_COMMON (R139). -/
  | scanNextCommon
  deriving DecidableEq, Repr

end Sys2Proof
end

