-- ==== Sys2Proof/WellFormed.lean ====
section
/-! DEFINITION. Which commands are well formed. The operand types bound every field but one, so there is one check. -/

namespace Sys2Proof

/-- The bit periods of a sighting record beyond its last whole byte number fewer than eight: eight would be one more byte
(R4: "anything other than ten whole bytes"). Every other operand is bounded by its type. -/
def Instr.wellFormed : Instr → Bool
  | .sightingRecordReceive _ extraBits => extraBits < 8
  | _ => true

end Sys2Proof
end

