-- ==== Sys2Proof/Decode.lean ====
section
/-! DEFINITION. The command that a word of opcode-table bits spells. The table of this block gives no row any bits, so no
word spells a command (log 17). -/

namespace Sys2Proof

/-- The command spelled by `w` in `nbits` bits: none, since no row of the table has bits (log 17). -/
def decodeTableWord (nbits w : Nat) : Option Instr :=
  match nbits, w with
  | _, _ => none

end Sys2Proof
end

