-- ==== Sys2Proof/Machine/Types.lean ====
section
/-! DEFINITION. The state of each block of the LG48 as plain data, block by block in the order of the manual's chapters. -/

namespace Sys2Proof.Machine

/-! ### Slot timer and fabric link (chapter 1) -/

/-- The slot timer (R1). `first` is true while the slot in progress is the slot 0 that follows power-on or RESTART, the one
slot that no slot precedes (R13). `position` is 0..999; it stands at 1000 only between a slot expiry whose events are left
to their own rows and the SECOND_EXPIRY of that expiry. -/
structure SlotTimer where
  slotCount   : Word
  secondCount : Word
  position    : Nat
  first       : Bool
  deriving DecidableEq, Repr

/-- The three metered classes (chapter 2), in the order BCAST, MCAST, FLOOD in which R94 chooses among them. -/
inductive TrafficClass where
  | bcast
  | mcast
  | flood
  deriving DecidableEq, Repr

/-- One value for each traffic class. -/
structure PerClass (α : Type) where
  bcast : α
  mcast : α
  flood : α
  deriving DecidableEq, Repr

/-- A sighting record that has passed the screen of R5 and R7. The origin of a PROBE record is not screened. -/
inductive SightingRecord where
  | tally (port : Port) (slot : Byte) (counts : PerClass Nat)
  | sample (port : Port) (address : Address)
  | probe (arrival : Port) (room : Half) (origin : Byte) (tag : Half)
  | link (port : Port) (up : Bool)
  deriving DecidableEq, Repr

/-- The sighting receiver: its state, its FIFO head first (R8), the hunt-slot counter and the mark that FABRIC_LOST has
been raised in the episode (R10). -/
structure Receiver where
  synced    : Bool
  fifo      : List SightingRecord
  huntSlots : Nat
  reported  : Bool
  deriving DecidableEq, Repr

/-- The content of a full pending tally (R12). -/
structure Tally where
  slot   : Byte
  counts : PerClass Nat
  deriving DecidableEq, Repr

/-- A port's pending tally, last counts and held-slot count (R12). -/
structure PortTally where
  pending : Option Tally
  last    : PerClass Nat
  held    : Nat
  deriving DecidableEq, Repr

/-- The forwarding order of a port (R88). -/
inductive Gate where
  | pass
  | limit
  | shut
  deriving DecidableEq, Repr

/-- An EMIT order (R18). -/
structure EmitOrder where
  room   : Half
  origin : Port
  tag    : Half
  deriving DecidableEq, Repr

/-- A record granted the control lane (section 1.4). -/
inductive ControlRecord where
  | slotMark (slot : Byte)
  | gate (port : Port) (gate : Gate)
  | emit (order : EmitOrder)
  deriving DecidableEq, Repr

/-- The control transmitter (R15 to R19): the record budget of the slot, whether the SLOT mark still waits, the pending GATE
change of each port, the EMIT queue head first, the refresh pointer, whether this slot's refresh has been granted, and the
record granted last (log 11). -/
structure Control where
  budget      : Nat
  markWaiting : Bool
  pendingGate : Vector (Option Gate) 40
  emitQueue   : List EmitOrder
  refreshPtr  : Port
  refreshed   : Bool
  lane        : Option ControlRecord
  deriving DecidableEq, Repr

/-! ### Storm Meter Array (chapter 2) -/

/-- The shape of a class's window (R22). -/
inductive Shape where
  | box
  | triangle
  deriving DecidableEq, Repr

/-- One threshold set (R22). -/
structure Thresholds where
  limit : Int
  block : Int
  calm  : Int
  ceil  : Int
  deriving DecidableEq, Repr

/-- The room meter setup and the two threshold sets of one class (R22). -/
structure ClassSetup where
  window : Nat
  shape  : Shape
  shift  : Nat
  desk   : Thresholds
  trunk  : Thresholds
  deriving DecidableEq, Repr

/-- One meter (R21). Rings are oldest first. `storm`, `severe` and `calm` are the condition set of the latest step. -/
structure Meter where
  h1        : List Nat
  s1        : Nat
  h2        : List Nat
  s2        : Nat
  level     : Nat
  base      : Nat
  excess    : Int
  storm     : Bool
  severe    : Bool
  calm      : Bool
  stormRun  : Nat
  severeRun : Nat
  priming   : Nat
  deriving DecidableEq, Repr

/-- One class's part of a step report (R30). -/
structure ClassReport where
  level           : Nat
  base            : Nat
  excess          : Int
  storm           : Bool
  severe          : Bool
  calm            : Bool
  stormConfirmed  : Bool
  severeConfirmed : Bool
  priming         : Nat
  deriving DecidableEq, Repr

/-- The step report of a port (R30). -/
structure StepReport where
  classes : PerClass ClassReport
  held    : Bool
  grace   : Bool
  deriving DecidableEq, Repr

/-! ### Station Table (chapter 3) -/

/-- One sighting of a station away from its home (R47). -/
structure Move where
  port  : Port
  stamp : Half
  deriving DecidableEq, Repr

/-- A station entry with the position it occupies (R47, R48). Moves are newest first. -/
structure StationEntry where
  position : Nat
  address  : Address
  home     : Port
  lastSeen : Word
  pinned   : Bool
  moves    : List Move
  deriving DecidableEq, Repr

/-! ### Probe Engine (chapter 4) -/

/-- A set of purposes, each present at most once, with the sweep number of SWEEP and the host request tag of HOST (R62).
`linkupBroken` and `recoverBroken` record that the port has left PRIMING, or TESTING, since that purpose was set (R77,
log 8). -/
structure Purposes where
  linkup        : Bool
  linkupBroken  : Bool
  storm         : Bool
  flap          : Bool
  sweep         : Option Byte
  recover       : Bool
  recoverBroken : Bool
  host          : Option Byte
  deriving DecidableEq, Repr

/-- A purpose as a block sets it (R62). -/
inductive Want where
  | linkup
  | storm
  | flap
  | sweep (number : Byte)
  | recover
  | host (tag : Byte)
  deriving DecidableEq, Repr

/-- A probe list entry (R63). `expiry` is none while the entry is QUEUED and its expiry stamp while it is SENT. -/
structure ProbeEntry where
  tag      : Half
  origin   : Port
  purposes : Purposes
  expiry   : Option Half
  deriving DecidableEq, Repr

/-- The outcome delivered to a purpose (R77). -/
inductive ProbeOutcome where
  | clear
  | contained
  | looped
  | void
  deriving DecidableEq, Repr

/-- A retired room id and the slot expiries left of its retire period (R83). -/
structure RetiredRoom where
  room : Half
  left : Nat
  deriving DecidableEq, Repr

/-- The Probe Engine (R63 to R65, R83, R84). The recent-tag window is oldest first. -/
structure ProbeEngine where
  list       : List ProbeEntry
  tagCounter : Half
  recent     : List Half
  pointer    : Port
  retired    : Option RetiredRoom
  stale      : Nat
  unknown    : Nat
  foreign    : Nat
  deriving DecidableEq, Repr

/-! ### Port Controller (chapter 5) -/

/-- The guarding role of a port (R86). -/
inductive Role where
  | off
  | desk
  | trunk
  deriving DecidableEq, Repr

/-- The states of a port (section 5.2); `opened` is OPEN. -/
inductive PortState where
  | unguarded
  | down
  | priming
  | opened
  | limited
  | blocked
  | testing
  | held
  deriving DecidableEq, Repr

/-- The linkup result; `unset` is NONE (R86). -/
inductive LinkupResult where
  | unset
  | clear
  | contained
  | looped
  deriving DecidableEq, Repr

/-- The cause of a trip (R130). -/
inductive Cause where
  | limit (cls : TrafficClass)
  | severe (cls : TrafficClass)
  | loop
  | selfLoop
  | trunkLoop
  | foreign
  | retestLoop
  | retestSevere
  | host
  deriving DecidableEq, Repr

/-- A port record (R86). The gate and the trip-list position are views of the state and of the trip list (log 12). -/
structure PortRecord where
  role    : Role
  state   : PortState
  linkUp  : Bool
  strikes : Nat
  holdOff : Nat
  calm    : Nat
  decay   : Nat
  wants   : Purposes
  linkup  : LinkupResult
  deriving DecidableEq, Repr

/-- An item of the trip list (R111). -/
structure TripItem where
  port    : Port
  cause   : Cause
  partner : Option Port
  deriving DecidableEq, Repr

/-! ### Sweep Scheduler (chapter 6) -/

/-- The sweep in progress (R117). `host` is none for an AUTO sweep and the host tag for a HOST sweep. -/
structure SweepRecord where
  host      : Option Byte
  number    : Byte
  first     : Port
  last      : Port
  next      : Nat
  pacing    : Nat
  admitted  : Nat
  clear     : Nat
  contained : Nat
  looped    : Nat
  skipped   : Nat
  deriving DecidableEq, Repr

/-- How a sweep ends (R120). -/
inductive SweepEnd where
  | done
  | aborted
  | preempted
  deriving DecidableEq, Repr

/-- The Sweep Scheduler (R117, R118, R121). -/
structure SweepScheduler where
  record : Option SweepRecord
  number : Byte
  timer  : Nat
  deriving DecidableEq, Repr

/-! ### Evidence Store (chapter 7) -/

/-- The N, B and E of one class as a trip records them (R130). -/
structure ClassValue where
  level  : Nat
  base   : Nat
  excess : Int
  deriving DecidableEq, Repr

/-- The capture of a trip (R130). -/
structure Capture where
  cause    : Cause
  entered  : PortState
  partner  : Option Port
  foreign  : Option Half
  second   : Word
  stamp    : Half
  strikes  : Nat
  values   : PerClass ClassValue
  held     : Bool
  deriving DecidableEq, Repr

/-- An evidence record: latched exactly when it holds a capture (R130). -/
structure EvidenceRecord where
  capture : Option Capture
  repeats : Nat
  deriving DecidableEq, Repr

/-! ### Panel Controller (chapter 8) -/

/-- What a cell shows (R143). -/
inductive CellValue where
  | off
  | on
  | slow
  | fast
  deriving DecidableEq, Repr

/-- A cell record (R141). -/
structure Cell where
  hostOwned : Bool
  value     : CellValue
  deriving DecidableEq, Repr

/-- A key filter (R146). -/
structure KeyFilter where
  pressed : Bool
  run     : Nat
  deriving DecidableEq, Repr

/-- A SOUNDING buzzer (R152). -/
structure Buzzer where
  remaining : Nat
  elapsed   : Nat
  deriving DecidableEq, Repr

/-- The panel scan: the common driven, the panel duty of the pass in progress, and the segment lines driven, bit s being
SEGs (R139, log 14). -/
structure Scan where
  common   : Nat
  duty     : Nat
  segments : BitVec 10
  deriving DecidableEq, Repr

/-- The key mode (R151). -/
inductive KeyMode where
  | full
  | silenceOnly
  deriving DecidableEq, Repr

/-- The Panel Controller (R139, R141, R146, R149, R150, R152). -/
structure Panel where
  cells        : Vector Cell 80
  rel          : KeyFilter
  sil          : KeyFilter
  pressCounter : Nat
  comboMark    : Bool
  comboCounter : Nat
  doneMark     : Bool
  buzzer       : Option Buzzer
  scan         : Scan
  deriving DecidableEq, Repr

/-! ### Notices (chapter 10) -/

/-- The action of a PANEL notice (R148 to R150). -/
inductive PanelAction where
  | silence (wasSounding : Bool)
  | release (port : Option Port)
  | roomRelease (count : Nat)
  deriving DecidableEq, Repr

/-- A notice with its body (R167). -/
inductive Notice where
  | trip (port : Port) (cause : Cause) (entered : PortState) (partner : Option Port) (strikes : Nat) (second : Word)
  | foreign (arrival : Port) (room : Half) (second : Word)
  | trunkLoop (origin arrival : Port) (second : Word)
  | fabricLost (second : Word)
  | fabricBack (huntSlots : Nat) (second : Word)
  | recovered (port : Port) (left : PortState) (strikes : Nat) (second : Word)
  | checkDone (port : Port) (tag : Byte) (outcome : ProbeOutcome) (arrival : Option Port) (second : Word)
  | sweepDone (sweep : SweepRecord) (outcome : SweepEnd) (second : Word)
  | flap (moved partner : Port) (address : Address) (second : Word)
  | panel (action : PanelAction) (second : Word)
  | graceEnd (expired : Bool) (second : Word)
  deriving DecidableEq, Repr

/-- The priority classes (R167). -/
inductive NoticeClass where
  | urgent
  | fabric
  | result
  | info
  deriving DecidableEq, Repr

/-- A queued notice with its repeat field; its queue age is its place in the queue (R168). -/
structure QueuedNotice where
  notice  : Notice
  repeats : Nat
  deriving DecidableEq, Repr

/-! ### Management Link Controller (chapter 9) -/

/-- The frame receiver (R156). In IN_FRAME it holds the bytes taken after the start byte, and the frame age. -/
inductive FrameReceiver where
  | hunting
  | inFrame (bytes : List Byte) (age : Nat)
  | breakWait
  deriving DecidableEq, Repr

/-- A good frame in the request queue (R158). -/
structure Frame where
  kind : Byte
  tag  : Byte
  body : List Byte
  deriving DecidableEq, Repr

/-- A reply in the reply slot; `flush` marks the reply to a RESTART that was taken, whose end empties the notice queue
(R173). -/
structure Reply where
  kind  : Byte
  tag   : Byte
  body  : List Byte
  flush : Bool
  deriving DecidableEq, Repr

/-- What ML_TXD carries: nothing, the reply of the reply slot, or a notice; with the bytes of the frame (R161, log 11). -/
inductive Line where
  | idle
  | reply (frame : List Byte)
  | notice (frame : List Byte)
  deriving DecidableEq, Repr

/-- The seven flags (R165). -/
structure Flags where
  tripped       : Bool
  overrun       : Bool
  hunted        : Bool
  tallyHeld     : Bool
  noticeDropped : Bool
  requestError  : Bool
  key           : Bool
  deriving DecidableEq, Repr

/-- The Management Link Controller (R155 to R165, R168, R172). Queues are head first; the notice queue is oldest first. -/
structure Mgmt where
  straps     : BitVec 2
  receiver   : FrameReceiver
  breakCount : Nat
  requests   : List Frame
  reply      : Option Reply
  line       : Line
  talking    : Bool
  queue      : List QueuedNotice
  mask       : Half
  flags      : Flags
  lost       : Nat
  discarded  : Nat
  dropped    : Nat
  deriving DecidableEq, Repr

/-! ### Room profile (chapter 11) -/

/-- The room profile without the roles, which stand in the port records (R174, log 12). -/
structure Profile where
  roomId        : Half
  probeTimeout  : Nat
  sweepPeriod   : Nat
  sweepSpacing  : Nat
  holdOffBase   : Nat
  strikeLimit   : Nat
  decayPeriod   : Nat
  calmHold      : Nat
  confirmCount  : Nat
  flapWindow    : Nat
  flapLimit     : Nat
  stationAge    : Nat
  panelDuty     : Nat
  buzzTime      : Nat
  authoriseTime : Nat
  keyMode       : KeyMode
  meters        : PerClass ClassSetup
  deriving DecidableEq, Repr

/-! ### Events of an expiry -/

/-- An event that a slot expiry or a second expiry has brought about and that has not been taken yet (log 3):
`probeExpired` is the end of the entry of an origin port whose expiry stamp was reached (R69, log 25), `reports` the step
reports of the ports above the one named, which wait behind its reopening (R30, log 4), and `admission` the admission of
the expiry (R66). -/
inductive Event where
  | second
  | fabricLost
  | calmHold (port : Port)
  | probeExpired (origin : Port)
  | retireEnd
  | holdOff (port : Port)
  | strikeDecay (port : Port)
  | grace
  | autoSweep
  | sweepTake
  | silPress
  | relPress
  | relRelease
  | silRelease
  | twoKey
  | buzzer
  | frameTimeout
  | linkBreak
  | reports (after : Port)
  | admission
  deriving DecidableEq, Repr

end Sys2Proof.Machine
end

