-- ==== Sys2Proof/Machine/Factory.lean ====
section
/-! DEFINITION. The factory room profile and the power-on value of every block. -/

namespace Sys2Proof.Machine

/-- A PerClass value that is the same for the three classes. -/
def PerClass.same {α : Type} (a : α) : PerClass α := ⟨a, a, a⟩

/-- The empty purpose set (R62). -/
def Purposes.empty : Purposes :=
  { linkup := false, linkupBroken := false, storm := false, flap := false, sweep := none, recover := false,
    recoverBroken := false, host := none }

/-- The factory meter setups and thresholds (R22). -/
def factoryMeters : PerClass ClassSetup :=
  { bcast := { window := 16, shape := .box, shift := 4, desk := ⟨600, 2000, 150, 300⟩, trunk := ⟨2400, 16320, 600, 1200⟩ }
    mcast := { window := 16, shape := .box, shift := 4, desk := ⟨1200, 4000, 300, 600⟩, trunk := ⟨4800, 16320, 1200, 2400⟩ }
    flood := { window := 16, shape := .box, shift := 4, desk := ⟨800, 2400, 200, 400⟩, trunk := ⟨3200, 16320, 800, 1600⟩ } }

/-- The factory room profile (R174). -/
def factoryProfile : Profile :=
  { roomId := 0, probeTimeout := 40, sweepPeriod := 30, sweepSpacing := 5, holdOffBase := 5, strikeLimit := 4,
    decayPeriod := 10, calmHold := 2000, confirmCount := 3, flapWindow := 1000, flapLimit := 3, stationAge := 300,
    panelDuty := 8, buzzTime := 5, authoriseTime := 2, keyMode := .full, meters := factoryMeters }

/-- The factory role of a port: 0..35 DESK, 36..39 TRUNK (R87, R174). -/
def factoryRole (p : Port) : Role := if p.val < 36 then .desk else .trunk

/-- The factory roles of the forty ports (R174). -/
def factoryRoles : Vector Role 40 := Vector.ofFn factoryRole

/-- The slot timer when slot 0 begins (R1). -/
def SlotTimer.start : SlotTimer := { slotCount := 0, secondCount := 0, position := 0, first := true }

/-- The sighting receiver after power-on and RESTART (R4, R8). -/
def Receiver.start : Receiver := { synced := false, fifo := [], huntSlots := 0, reported := false }

/-- A port's tally state after power-on and RESTART, and while the port is UNGUARDED (R12, R13). -/
def PortTally.start : PortTally := { pending := none, last := PerClass.same 0, held := 0 }

/-- The priming length of a class setup: W for BOX, 2W - 1 for TRIANGLE (R32). -/
def ClassSetup.primingLength (c : ClassSetup) : Nat :=
  match c.shape with
  | .box => c.window
  | .triangle => 2 * c.window - 1

/-- A restarted meter with the given baseline (R33). -/
def Meter.restartedWith (c : ClassSetup) (base : Nat) : Meter :=
  { h1 := List.replicate c.window 0, s1 := 0, h2 := List.replicate c.window 0, s2 := 0, level := 0, base := base,
    excess := -(base : Int), storm := false, severe := false, calm := false, stormRun := 0, severeRun := 0,
    priming := c.primingLength }

/-- The meters of a port after power-on and RESTART: restarted, with baselines of 0 (R21). -/
def startMeters (c : PerClass ClassSetup) : PerClass Meter :=
  ⟨Meter.restartedWith c.bcast 0, Meter.restartedWith c.mcast 0, Meter.restartedWith c.flood 0⟩

/-- The Probe Engine after power-on and RESTART (R85). -/
def ProbeEngine.start : ProbeEngine :=
  { list := [], tagCounter := 0, recent := [], pointer := 39, retired := none, stale := 0, unknown := 0, foreign := 0 }

/-- The Sweep Scheduler after power-on and RESTART, its timer loaded with the sweep period (R129). -/
def SweepScheduler.start (period : Nat) : SweepScheduler := { record := none, number := 0, timer := period }

/-- The state of a port of the given role after power-on and RESTART (R87). -/
def startState : Role → PortState
  | .off => .unguarded
  | .desk => .down
  | .trunk => .down

/-- The record of a port of the given role after power-on and RESTART (R87). -/
def PortRecord.start (r : Role) : PortRecord :=
  { role := r, state := startState r, linkUp := false, strikes := 0, holdOff := 0, calm := 0, decay := 0,
    wants := Purposes.empty, linkup := .unset }

/-- The gate of a state: PASS for OPEN and UNGUARDED, LIMIT for LIMITED, SHUT otherwise (R88). -/
def gateOf : PortState → Gate
  | .unguarded => .pass
  | .opened => .pass
  | .limited => .limit
  | .down => .shut
  | .priming => .shut
  | .blocked => .shut
  | .testing => .shut
  | .held => .shut

/-- An unlatched evidence record (R130). -/
def EvidenceRecord.empty : EvidenceRecord := { capture := none, repeats := 0 }

/-- An AUTO cell (R141). -/
def Cell.auto : Cell := { hostOwned := false, value := .off }

/-- A filter at RELEASED with no change run (R146). -/
def KeyFilter.released : KeyFilter := { pressed := false, run := 0 }

/-- The Panel Controller after power-on and RESTART (R139, R141, R146, R149, R150, R152). Every cell shows OFF then, since
every port is DOWN or UNGUARDED (R142), so no segment of common 0 is driven. -/
def Panel.start (duty : Nat) : Panel :=
  { cells := Vector.replicate 80 Cell.auto, rel := .released, sil := .released, pressCounter := 0, comboMark := false,
    comboCounter := 0, doneMark := false, buzzer := none, scan := { common := 0, duty := duty, segments := 0 } }

/-- No flag set (R165). -/
def Flags.clear : Flags :=
  { tripped := false, overrun := false, hunted := false, tallyHeld := false, noticeDropped := false,
    requestError := false, key := false }

/-- The mask that enables every notice kind, codes 0x40 to 0x4A (R172). -/
def fullMask : Half := 0x07FF

/-- The Management Link Controller after power-on with the given straps: the state after a break, with the receiver
HUNTING (R164, R155). -/
def Mgmt.start (straps : BitVec 2) : Mgmt :=
  { straps := straps, receiver := .hunting, breakCount := 0, requests := [], reply := none, line := .idle,
    talking := false, queue := [], mask := fullMask, flags := Flags.clear, lost := 0, discarded := 0, dropped := 0 }

/-- The control transmitter after power-on and RESTART for ports with the given gates, with the given record on the lane: a
GATE change pending for every port, carrying the gate of its state (R15, R17 to R19). -/
def Control.start (gates : Vector Gate 40) (lane : Option ControlRecord) : Control :=
  { budget := 16, markWaiting := true, pendingGate := Vector.ofFn fun p => some gates[p], emitQueue := [],
    refreshPtr := 0, refreshed := false, lane := lane }

end Sys2Proof.Machine
end

