-- ==== Sys2Proof/Machine/State.lean ====
section
/-! DEFINITION. The state of the machine, the reasons a step can stop, and the state right after reset. -/

namespace Sys2Proof.Machine

/-- The whole state of the LG48, block by block, with two fields of the model's own: `due`, the events of the latest
expiry that are still to be taken (log 3), and `pending`, the commands that are waiting, first in first out (log 17). -/
structure State where
  timer    : SlotTimer
  receiver : Receiver
  tallies  : Vector PortTally 40
  control  : Control
  meters   : Vector (PerClass Meter) 40
  reports  : Vector (Option StepReport) 40
  grace    : Nat
  stations : List StationEntry
  probes   : ProbeEngine
  sweep    : SweepScheduler
  ports    : Vector PortRecord 40
  trips    : List TripItem
  evidence : Vector EvidenceRecord 40
  panel    : Panel
  mgmt     : Mgmt
  profile  : Profile
  due      : List Event
  pending  : List Instr
  deriving DecidableEq, Repr

/-- The faults of a step. The spec gives the block none: what goes wrong is kept in flags, counters, status codes and
notices (R159, R165), so the type has no constructor. -/
inductive Fault where
  deriving DecidableEq, Repr

/-- The refusals of a step. -/
inductive Refusal where
  /-- Raised by nobody: it would stand in an arm of `exec` whose command has no meaning yet, and every command has one.
  Safe: it stops the machine. -/
  | notModelled (mnemonic : String)
  deriving DecidableEq, Repr

/-- The state of the part with the given straps, roles, profile and waiting commands right after RST_N returns high, each
block in its power-on state (R178). -/
def State.start (straps : BitVec 2) (roles : Vector Role 40) (profile : Profile) (pending : List Instr) : State :=
  { timer := SlotTimer.start
    receiver := Receiver.start
    tallies := Vector.replicate 40 PortTally.start
    control := Control.start (Vector.ofFn fun p => gateOf (startState roles[p])) none
    meters := Vector.replicate 40 (startMeters profile.meters)
    reports := Vector.replicate 40 none
    grace := 0
    stations := []
    probes := ProbeEngine.start
    sweep := SweepScheduler.start profile.sweepPeriod
    ports := Vector.ofFn fun p => PortRecord.start roles[p]
    trips := []
    evidence := Vector.replicate 40 EvidenceRecord.empty
    panel := Panel.start profile.panelDuty
    mgmt := Mgmt.start straps
    profile := profile
    due := []
    pending := pending }

/-- The machine right after reset: power-on with the factory profile (R178) and an empty command queue. The straps are a
DESIGN CHOICE (log 6). -/
def State.reset : State := State.start Config.resetStraps factoryRoles factoryProfile []

end Sys2Proof.Machine
end

