-- ==== Sys2Proof/Machine/Wire.lean ====
section
/-! DEFINITION. The byte layouts of chapter 12: the check, field encodings, lane records, management frames and notices. -/

namespace Sys2Proof.Machine

/-! ### The check -/

/-- One shift of the CRC-8 register (R181). -/
def crcShift (r : Byte) : Byte := if r.msb then (r <<< 1) ^^^ 0x07 else r <<< 1

/-- The CRC-8 register after one more byte (R181). -/
def crcByte (r b : Byte) : Byte :=
  crcShift (crcShift (crcShift (crcShift (crcShift (crcShift (crcShift (crcShift (r ^^^ b))))))))

/-- The CRC-8 of a run of bytes (R181). -/
def crc8 (bytes : List Byte) : Byte := bytes.foldl crcByte 0

/-! ### Multi-byte fields, most significant byte first (R181) -/

/-- A two-byte field. -/
def halfBytes (x : Half) : List Byte := [x.extractLsb' 8 8, x.extractLsb' 0 8]

/-- A four-byte field. -/
def wordBytes (x : Word) : List Byte :=
  [x.extractLsb' 24 8, x.extractLsb' 16 8, x.extractLsb' 8 8, x.extractLsb' 0 8]

/-- A six-byte station address. -/
def addressBytes (x : Address) : List Byte :=
  [x.extractLsb' 40 8, x.extractLsb' 32 8, x.extractLsb' 24 8, x.extractLsb' 16 8, x.extractLsb' 8 8, x.extractLsb' 0 8]

/-- A count in one byte (R183; log 21). -/
def natByte (n : Nat) : Byte := BitVec.ofNat 8 n

/-- A count in two bytes (R183; log 21). -/
def natBytes (n : Nat) : List Byte := halfBytes (BitVec.ofNat 16 n)

/-- A signed value in two bytes, two's complement (R181). -/
def intBytes (i : Int) : List Byte := halfBytes (BitVec.ofInt 16 i)

/-- A yes-or-no field. -/
def boolByte (b : Bool) : Byte := if b then 1 else 0

/-- A port. -/
def portByte (p : Port) : Byte := BitVec.ofNat 8 p.val

/-- An optional port: 0xFF when absent (section 12.3). -/
def partnerByte : Option Port → Byte
  | some p => portByte p
  | none => 0xFF

/-- An optional tag or number: 0 when absent (R183). -/
def optByte (b : Option Byte) : Byte := b.getD 0

/-- Byte `i` of a list, zero beyond its end. -/
def byteAt (b : List Byte) (i : Nat) : Byte := b.getD i 0

/-- The two-byte field at offset `i`. -/
def halfAt (b : List Byte) (i : Nat) : Half := byteAt b i ++ byteAt b (i + 1)

/-- The six-byte address at offset `i`. -/
def addressAt (b : List Byte) (i : Nat) : Address :=
  byteAt b i ++ byteAt b (i + 1) ++ byteAt b (i + 2) ++ byteAt b (i + 3) ++ byteAt b (i + 4) ++ byteAt b (i + 5)

/-- The cell mask at offset 0: cell 8k + j is the bit of value 2^j in byte k (section 12.3). -/
def cellMaskAt (b : List Byte) : BitVec 80 :=
  byteAt b 9 ++ byteAt b 8 ++ byteAt b 7 ++ byteAt b 6 ++ byteAt b 5 ++ byteAt b 4 ++ byteAt b 3 ++ byteAt b 2 ++
    byteAt b 1 ++ byteAt b 0

/-- The ten bytes of a cell mask (section 12.3). -/
def cellMaskBytes (m : BitVec 80) : List Byte := (List.range 10).map fun k => m.extractLsb' (8 * k) 8

/-! ### Codes (section 12.3) -/

/-- The state codes. -/
def stateCode : PortState → Byte
  | .unguarded => 0
  | .down => 1
  | .priming => 2
  | .opened => 3
  | .limited => 4
  | .blocked => 5
  | .testing => 6
  | .held => 7

/-- The role codes. -/
def roleCode : Role → Byte
  | .off => 0
  | .desk => 1
  | .trunk => 2

/-- The gate codes. -/
def gateCode : Gate → Byte
  | .pass => 0
  | .limit => 1
  | .shut => 2

/-- The linkup result codes. -/
def linkupCode : LinkupResult → Byte
  | .unset => 0
  | .clear => 1
  | .contained => 2
  | .looped => 3

/-- The shape codes. -/
def shapeCode : Shape → Byte
  | .box => 0
  | .triangle => 1

/-- The class codes. -/
def classCode : TrafficClass → Byte
  | .bcast => 0
  | .mcast => 1
  | .flood => 2

/-- The key mode codes. -/
def keyModeCode : KeyMode → Byte
  | .full => 0
  | .silenceOnly => 1

/-- The cause codes, as numbers 1..13. -/
def causeNumber : Cause → Nat
  | .limit .bcast => 1
  | .limit .mcast => 2
  | .limit .flood => 3
  | .severe .bcast => 4
  | .severe .mcast => 5
  | .severe .flood => 6
  | .loop => 7
  | .selfLoop => 8
  | .trunkLoop => 9
  | .foreign => 10
  | .retestLoop => 11
  | .retestSevere => 12
  | .host => 13

/-- The cause codes. -/
def causeCode (c : Cause) : Byte := natByte (causeNumber c)

/-- The probe outcome codes. -/
def outcomeCode : ProbeOutcome → Byte
  | .clear => 0
  | .contained => 1
  | .looped => 2
  | .void => 3

/-- The sweep outcome codes. -/
def sweepEndCode : SweepEnd → Byte
  | .done => 0
  | .aborted => 1
  | .preempted => 2

/-- The purpose set code: LINKUP 1, STORM 2, FLAP 4, SWEEP 8, RECOVER 16, HOST 32. -/
def purposeCode (p : Purposes) : Byte :=
  natByte ((if p.linkup then 1 else 0) + (if p.storm then 2 else 0) + (if p.flap then 4 else 0) +
    (if p.sweep.isSome then 8 else 0) + (if p.recover then 16 else 0) + (if p.host.isSome then 32 else 0))

/-- The flags byte: TRIPPED 1, OVERRUN 2, HUNTED 4, TALLY_HELD 8, NOTICE_DROPPED 16, REQUEST_ERROR 32, KEY 64. -/
def flagsByte (f : Flags) : Byte :=
  natByte ((if f.tripped then 1 else 0) + (if f.overrun then 2 else 0) + (if f.hunted then 4 else 0) +
    (if f.tallyHeld then 8 else 0) + (if f.noticeDropped then 16 else 0) + (if f.requestError then 32 else 0) +
    (if f.key then 64 else 0))

/-! ### Lane records (section 12.2) -/

/-- What the receiver reads from a group whose check passed. -/
inductive ParsedRecord where
  | fill
  | good (r : SightingRecord)
  | bad
  deriving DecidableEq, Repr

/-- The check of a sighting group: exactly ten whole bytes, byte 9 the CRC-8 of bytes 0 to 8 (R4). -/
def checkPasses (bytes : List Byte) (extraBits : Nat) : Bool :=
  bytes.length == 10 && extraBits == 0 && crc8 (bytes.take 9) == byteAt bytes 9

/-- Whether bytes `i` to 8 are all zero (R182). -/
def zeroFrom (bytes : List Byte) (i : Nat) : Bool := ((bytes.take 9).drop i).all (· == 0)

/-- The content of a ten-byte group, its kind, port and content screened by R7 and R182. -/
def parseRecord (b : List Byte) : ParsedRecord :=
  let port := (byteAt b 1).toNat
  match (byteAt b 0).toNat with
  | 0x0F => if byteAt b 1 = 0xFF then .fill else .bad
  | 0x01 =>
    if h : port < 40 then
      if zeroFrom b 6 then
        .good (.tally ⟨port, h⟩ (byteAt b 2) ⟨(byteAt b 3).toNat, (byteAt b 4).toNat, (byteAt b 5).toNat⟩)
      else .bad
    else .bad
  | 0x02 =>
    if h : port < 40 then
      if zeroFrom b 8 then .good (.sample ⟨port, h⟩ (addressAt b 2)) else .bad
    else .bad
  | 0x03 =>
    if h : port < 40 then
      if zeroFrom b 7 then .good (.probe ⟨port, h⟩ (halfAt b 2) (byteAt b 4) (halfAt b 5)) else .bad
    else .bad
  | 0x04 =>
    if h : port < 40 then
      if zeroFrom b 3 && ((byteAt b 2).toNat < 2) then .good (.link ⟨port, h⟩ (byteAt b 2 == 1)) else .bad
    else .bad
  | _ => .bad

/-- Bytes 0 to 8 of a control record, its zero bytes at 0 (section 12.2, R182). -/
def controlBody : ControlRecord → List Byte
  | .slotMark n => [0x11, 0xFF, n, 0, 0, 0, 0, 0, 0]
  | .gate p g => [0x12, portByte p, gateCode g, 0, 0, 0, 0, 0, 0]
  | .emit o => [0x13, portByte o.origin] ++ halfBytes o.room ++ halfBytes o.tag ++ [0, 0, 0]

/-- The ten bytes of a control record as they leave on CL_DAT (section 12.2, R181). -/
def controlBytes (r : ControlRecord) : List Byte := controlBody r ++ [crc8 (controlBody r)]

/-! ### Management frames (section 12.3) -/

/-- A frame: start byte, length, kind, tag, body, check (R181, section 12.3). -/
def frameBytes (kind tag : Byte) (body : List Byte) : List Byte :=
  let inner := natByte body.length :: kind :: tag :: body
  0xC3 :: inner ++ [crc8 inner]

/-! ### Notices (R167, section 12.4) -/

/-- The notice's kind as its code less 0x40. -/
def kindIndex : Notice → Nat
  | .trip .. => 0
  | .foreign .. => 1
  | .trunkLoop .. => 2
  | .fabricLost .. => 3
  | .fabricBack .. => 4
  | .recovered .. => 5
  | .checkDone .. => 6
  | .sweepDone .. => 7
  | .flap .. => 8
  | .panel .. => 9
  | .graceEnd .. => 10

/-- The action and argument bytes of a PANEL body (section 12.4). -/
def panelBytes : PanelAction → List Byte
  | .silence was => [0, boolByte was]
  | .release p => [1, partnerByte p]
  | .roomRelease n => [2, natByte n]

/-- The counts of a sweep as the SWEEP_DONE body, the ABORT reply and the BUSY reply carry them. -/
def sweepCounts (r : SweepRecord) : List Byte :=
  [natByte r.admitted, natByte r.clear, natByte r.contained, natByte r.looped, natByte r.skipped]

/-- The origin and host tag of a sweep: 0 AUTO with tag 0, 1 HOST with its tag (R120, section 12.3). -/
def sweepOrigin (r : SweepRecord) : List Byte := [boolByte r.host.isSome, optByte r.host]

/-- The body of a notice before its repeat byte (section 12.4). -/
def noticeBody : Notice → List Byte
  | .trip p c e q n t => [portByte p, causeCode c, stateCode e, partnerByte q, natByte n] ++ wordBytes t
  | .foreign x r t => portByte x :: halfBytes r ++ wordBytes t
  | .trunkLoop o x t => [portByte o, portByte x] ++ wordBytes t
  | .fabricLost t => wordBytes t
  | .fabricBack n t => natBytes n ++ wordBytes t
  | .recovered p l n t => [portByte p, stateCode l, natByte n] ++ wordBytes t
  | .checkDone p g o a t => [portByte p, g, outcomeCode o, partnerByte a] ++ wordBytes t
  | .sweepDone r e t =>
    sweepOrigin r ++ [r.number, portByte r.first, portByte r.last, sweepEndCode e] ++ sweepCounts r ++ wordBytes t
  | .flap p q a t => [portByte p, portByte q] ++ addressBytes a ++ wordBytes t
  | .panel a t => panelBytes a ++ wordBytes t
  | .graceEnd x t => boolByte x :: wordBytes t

/-- The frame of a queued notice: tag 0, its body and then its repeat field (R167). -/
def noticeFrame (q : QueuedNotice) : List Byte :=
  frameBytes (natByte (0x40 + kindIndex q.notice)) 0 (noticeBody q.notice ++ [natByte q.repeats])

end Sys2Proof.Machine
end

