-- ==== Sys2Proof/Machine/Operands.lean ====
section
/-! DEFINITION. How the operands of a request are read: the codes of enumerated fields, port numbers and clamps (R160), and
the status codes (R159). -/

namespace Sys2Proof.Machine

/-! ### Status codes (R159) -/

def stOk : Byte := 0
def stClamped : Byte := 1
def stBadKind : Byte := 2
def stBadLength : Byte := 3
def stBadPort : Byte := 4
def stWrongState : Byte := 5
def stBusy : Byte := 6
def stInFlight : Byte := 7
def stFull : Byte := 8
def stNotFound : Byte := 9
def stBadValue : Byte := 10

/-- CLAMPED when a field was clamped, OK otherwise (R160). -/
def clampStatus (clamped : Bool) : Byte := if clamped then stClamped else stOk

/-! ### Enumerated fields -/

/-- A port number: 0..39 (R160). -/
def portOf (b : Byte) : Option Port := if h : b.toNat < 40 then some ⟨b.toNat, h⟩ else none

/-- A class code of METER GET and METER SET (R42, R45). -/
def classOf (b : Byte) : Option TrafficClass :=
  match b.toNat with
  | 0 => some .bcast
  | 1 => some .mcast
  | 2 => some .flood
  | _ => none

/-- The classes that a class code of BASELINE SET names: one, or ALL (R39). -/
def classesOf (b : Byte) : Option (List TrafficClass) :=
  match b.toNat with
  | 0 => some [.bcast]
  | 1 => some [.mcast]
  | 2 => some [.flood]
  | 3 => some [.bcast, .mcast, .flood]
  | _ => none

/-- A role code (R109). -/
def roleOf (b : Byte) : Option Role :=
  match b.toNat with
  | 0 => some .off
  | 1 => some .desk
  | 2 => some .trunk
  | _ => none

/-- A shape code (R42). -/
def shapeOf (b : Byte) : Option Shape :=
  match b.toNat with
  | 0 => some .box
  | 1 => some .triangle
  | _ => none

/-- A window: one of 4, 8, 16, 32 and 64, never clamped (R42). -/
def windowOf (b : Byte) : Option Nat :=
  if b.toNat ∈ [4, 8, 16, 32, 64] then some b.toNat else none

/-- A cell value code (R144). -/
def cellValueOf (b : Byte) : Option CellValue :=
  match b.toNat with
  | 0 => some .off
  | 1 => some .on
  | 2 => some .slow
  | 3 => some .fast
  | _ => none

/-- A key mode code (R176). -/
def keyModeOf (b : Byte) : Option KeyMode :=
  match b.toNat with
  | 0 => some .full
  | 1 => some .silenceOnly
  | _ => none

/-! ### Clamps -/

/-- A value clamped to `lo..hi` (R160). -/
def clampNat (lo hi x : Nat) : Nat := if x < lo then lo else if hi < x then hi else x

/-- A signed value clamped to `lo..hi` (R160). -/
def clampInt (lo hi x : Int) : Int := if x < lo then lo else if hi < x then hi else x

/-! ### The blocks of PROFILE SET and METER SET (section 12.4) -/

/-- The profile block of a body of 61 bytes. -/
def profileBlockAt (b : List Byte) : ProfileBlock :=
  { roomId := halfAt b 0, probeTimeout := byteAt b 2, sweepPeriod := halfAt b 3, sweepSpacing := byteAt b 5,
    holdOffBase := byteAt b 6, strikeLimit := byteAt b 7, decayPeriod := byteAt b 8, calmHold := halfAt b 9,
    confirmCount := byteAt b 11, flapWindow := halfAt b 12, flapLimit := byteAt b 14, stationAge := halfAt b 15,
    panelDuty := byteAt b 17, buzzTime := byteAt b 18, authoriseTime := byteAt b 19, keyMode := byteAt b 20,
    roles := Vector.ofFn fun p => byteAt b (21 + p.val) }

/-- One role's thresholds at an offset of the meter block. -/
def thresholdBlockAt (b : List Byte) (i : Nat) : ThresholdBlock :=
  { limit := halfAt b i, block := halfAt b (i + 2), calm := halfAt b (i + 4), ceil := halfAt b (i + 6) }

/-- The meter block of a body of 20 bytes. -/
def meterBlockAt (b : List Byte) : MeterBlock :=
  { cls := byteAt b 0, window := byteAt b 1, shape := byteAt b 2, shift := byteAt b 3, desk := thresholdBlockAt b 4,
    trunk := thresholdBlockAt b 12 }

/-- The thresholds as METER SET takes them, clamped in the order of R43, each clamp using the values taken before it. -/
def takeThresholds (t : ThresholdBlock) : Thresholds :=
  let limit := clampInt 1 16320 t.limit.toInt
  { limit := limit
    block := clampInt limit 16320 t.block.toInt
    calm := clampInt (-16320) (limit - 1) t.calm.toInt
    ceil := clampInt 0 16320 t.ceil.toInt }

/-- Whether a clamp changed one of a role's thresholds (R43). -/
def thresholdsClamped (t : ThresholdBlock) : Bool :=
  takeThresholds t != { limit := t.limit.toInt, block := t.block.toInt, calm := t.calm.toInt, ceil := t.ceil.toInt }

/-- The sixteen fields as PROFILE SET takes them, each clamped to its range (R174, R176); the meter setups are kept. -/
def takeProfile (b : ProfileBlock) (mode : KeyMode) (meters : PerClass ClassSetup) : Profile :=
  { roomId := b.roomId
    probeTimeout := clampNat 10 250 b.probeTimeout.toNat
    sweepPeriod := clampNat 0 600 b.sweepPeriod.toNat
    sweepSpacing := clampNat 1 100 b.sweepSpacing.toNat
    holdOffBase := clampNat 1 60 b.holdOffBase.toNat
    strikeLimit := clampNat 1 15 b.strikeLimit.toNat
    decayPeriod := clampNat 1 60 b.decayPeriod.toNat
    calmHold := clampNat 100 10000 b.calmHold.toNat
    confirmCount := clampNat 1 32 b.confirmCount.toNat
    flapWindow := clampNat 100 5000 b.flapWindow.toNat
    flapLimit := clampNat 2 4 b.flapLimit.toNat
    stationAge := clampNat 10 3600 b.stationAge.toNat
    panelDuty := clampNat 4 8 b.panelDuty.toNat
    buzzTime := clampNat 0 30 b.buzzTime.toNat
    authoriseTime := clampNat 1 8 b.authoriseTime.toNat
    keyMode := mode
    meters := meters }

/-- The numeric fields of a profile block as sent, for comparison with the values taken (R176). -/
def sentProfile (b : ProfileBlock) (mode : KeyMode) (meters : PerClass ClassSetup) : Profile :=
  { roomId := b.roomId, probeTimeout := b.probeTimeout.toNat, sweepPeriod := b.sweepPeriod.toNat,
    sweepSpacing := b.sweepSpacing.toNat, holdOffBase := b.holdOffBase.toNat, strikeLimit := b.strikeLimit.toNat,
    decayPeriod := b.decayPeriod.toNat, calmHold := b.calmHold.toNat, confirmCount := b.confirmCount.toNat,
    flapWindow := b.flapWindow.toNat, flapLimit := b.flapLimit.toNat, stationAge := b.stationAge.toNat,
    panelDuty := b.panelDuty.toNat, buzzTime := b.buzzTime.toNat, authoriseTime := b.authoriseTime.toNat,
    keyMode := mode, meters := meters }

/-- The roles that a profile block names, when every role code names one (R176). -/
def rolesOf (b : ProfileBlock) : Option (Vector Role 40) :=
  if (List.finRange 40).all fun p => (roleOf b.roles[p]).isSome then
    some (Vector.ofFn fun p => (roleOf b.roles[p]).getD .off)
  else none

end Sys2Proof.Machine
end

