-- ==== Sys2Proof/Machine/MeterOps.lean ====
section
/-! DEFINITION. The meter arithmetic of chapter 2 and the tally consumption of section 1.3, as operations on one port's data. -/

namespace Sys2Proof.Machine

/-! ### Per-class values -/

/-- The value of one class. -/
def PerClass.get {α : Type} (v : PerClass α) : TrafficClass → α
  | .bcast => v.bcast
  | .mcast => v.mcast
  | .flood => v.flood

/-- The value of one class replaced. -/
def PerClass.set {α : Type} (v : PerClass α) (c : TrafficClass) (a : α) : PerClass α :=
  match c with
  | .bcast => { v with bcast := a }
  | .mcast => { v with mcast := a }
  | .flood => { v with flood := a }

/-- Every class's value mapped. -/
def PerClass.map {α β : Type} (f : α → β) (v : PerClass α) : PerClass β := ⟨f v.bcast, f v.mcast, f v.flood⟩

/-- A value for every class. -/
def PerClass.build {α : Type} (f : TrafficClass → α) : PerClass α := ⟨f .bcast, f .mcast, f .flood⟩

/-- The first class, in the order BCAST, MCAST, FLOOD, for which the test holds (R94). -/
def PerClass.first {α : Type} (f : α → Bool) (v : PerClass α) : Option TrafficClass :=
  if f v.bcast then some .bcast else if f v.mcast then some .mcast else if f v.flood then some .flood else none

/-- The test holds for every class. -/
def PerClass.all {α : Type} (f : α → Bool) (v : PerClass α) : Bool := f v.bcast && f v.mcast && f v.flood

/-! ### Tally consumption (R13, R14) -/

/-- What the consumption of a port's pending tally gives the meter step. -/
structure TallyUse where
  counts : PerClass Nat
  tally  : PortTally
  late   : Bool
  held   : Bool
  deriving DecidableEq, Repr

/-- The counts of a slot without a usable tally (R14): the last counts for up to four slots, zeros from the fifth on. -/
def PortTally.hold (late : Bool) (t : PortTally) : TallyUse :=
  if t.held < 4 then
    { counts := t.last, tally := { pending := none, last := t.last, held := t.held + 1 }, late := late, held := true }
  else
    { counts := PerClass.same 0, tally := { pending := none, last := PerClass.same 0, held := t.held }, late := late,
      held := false }

/-- The consumption of a guarded port's pending tally for the slot with the given number (R13). -/
def PortTally.consume (slot : Byte) (t : PortTally) : TallyUse :=
  match t.pending with
  | none => t.hold false
  | some p =>
    if p.slot = slot then
      { counts := p.counts, tally := { pending := none, last := p.counts, held := 0 }, late := false, held := false }
    else t.hold true

/-! ### The meter step (R24 to R29) -/

/-- A value enters a ring: the oldest leaves, the new one becomes the newest (R24). -/
def pushRing (ring : List Nat) (x : Nat) : List Nat := ring.tail ++ [x]

/-- A run goes up by one while its condition holds, saturating at 32, and is 0 otherwise (R29). -/
def stepRun (cond : Bool) (run : Nat) : Nat := if cond then min (run + 1) 32 else 0

/-- The threshold set of a role (R22). OFF ports run no step; the DESK set stands for them. -/
def ClassSetup.thresholds (c : ClassSetup) : Role → Thresholds
  | .trunk => c.trunk
  | .desk => c.desk
  | .off => c.desk

/-- Rings and sums after the count `count` has entered (R24, R25); H2 and S2 are held at zero in the BOX shape. -/
def Meter.enterCount (c : ClassSetup) (count : Nat) (m : Meter) : Meter :=
  let h1 := pushRing m.h1 count
  let s1 := h1.sum
  match c.shape with
  | .box => { m with h1 := h1, s1 := s1 }
  | .triangle =>
    let h2 := pushRing m.h2 s1
    { m with h1 := h1, s1 := s1, h2 := h2, s2 := h2.sum }

/-- The level L of the rings (R25). -/
def Meter.rawLevel (c : ClassSetup) (m : Meter) : Nat :=
  match c.shape with
  | .box => m.s1
  | .triangle => m.s2 / c.window

/-- One meter step with the count `count` (R23 to R29, R32). -/
def Meter.step (c : ClassSetup) (th : Thresholds) (count : Nat) (m : Meter) : Meter :=
  let m1 := m.enterCount c count
  let level := m1.rawLevel c * (64 / c.window)
  let excess : Int := (level : Int) - (m.base : Int)
  let judged : Bool := m.priming == 0
  let storm : Bool := judged && decide (th.limit ≤ excess)
  let severe : Bool := judged && decide (th.block ≤ excess)
  let calm : Bool := judged && decide (excess ≤ th.calm)
  { m1 with
    level := level, excess := excess, storm := storm, severe := severe, calm := calm,
    stormRun := stepRun storm m.stormRun, severeRun := stepRun severe m.severeRun, priming := m.priming - 1 }

/-- The meter's part of the step report, its confirmations by the confirm count in force (R29, R30). -/
def Meter.report (confirm : Nat) (m : Meter) : ClassReport :=
  { level := m.level, base := m.base, excess := m.excess, storm := m.storm, severe := m.severe, calm := m.calm,
    stormConfirmed := decide (confirm ≤ m.stormRun), severeConfirmed := decide (confirm ≤ m.severeRun),
    priming := m.priming }

/-! ### Restart, baseline, ceiling -/

/-- A meter restart keeps the baseline (R33). -/
def Meter.restart (c : ClassSetup) (m : Meter) : Meter := Meter.restartedWith c m.base

/-- The baseline set, E formed again as N - B (R27). -/
def Meter.withBase (b : Nat) (m : Meter) : Meter := { m with base := b, excess := (m.level : Int) - (b : Int) }

/-- The baseline clamped to a ceiling, E formed again (R38). -/
def Meter.clampBase (ceil : Int) (m : Meter) : Meter := m.withBase (min m.base ceil.toNat)

/-- The baseline after a baseline step that moves it: floor((N - B) / 2^a) is added and the sum clamped to 0..C (R37). -/
def nextBase (shift : Nat) (ceil : Int) (level base : Nat) : Nat :=
  (clampInt 0 ceil ((base : Int) + ((level : Int) - (base : Int)) / ((2 ^ shift : Nat) : Int))).toNat

/-- The baseline step of one meter of a port that may learn: not priming, and E below T_limit (R36, R37). -/
def Meter.baselineStep (c : ClassSetup) (th : Thresholds) (m : Meter) : Meter :=
  if m.priming = 0 ∧ m.excess < th.limit then m.withBase (nextBase c.shift th.ceil m.level m.base) else m

/-! ### Class values of a trip (R131) -/

/-- The class values of the latest step report, or of a port that has had none: N 0, B as it stands, E -B (R131). -/
def tripValues (report : Option StepReport) (meters : PerClass Meter) : PerClass ClassValue :=
  match report with
  | some r => r.classes.map fun c => { level := c.level, base := c.base, excess := c.excess }
  | none => meters.map fun m => { level := 0, base := m.base, excess := -(m.base : Int) }

/-- The held mark of the latest step report, no when there is none (R131). -/
def tripHeld : Option StepReport → Bool
  | some r => r.held
  | none => false

end Sys2Proof.Machine
end

