-- ==== Sys2Proof/Machine/Flags.lean ====
section
/-! DEFINITION. The seven flags and three counters of the Management Link Controller (R165), and saturating counts. -/

namespace Sys2Proof.Machine

/-- A 16-bit count that goes up by one and saturates at 65535 (R165). -/
def sat16 (n : Nat) : Nat := min (n + 1) 65535

/-- A sighting record lost is counted (R11). -/
def Mgmt.countLost (m : Mgmt) : Mgmt := { m with lost := sat16 m.lost }

/-- A trip sets TRIPPED (R98). -/
def Mgmt.flagTripped (m : Mgmt) : Mgmt := { m with flags := { m.flags with tripped := true } }

/-- A record lost to a full FIFO sets OVERRUN and is counted (R8). -/
def Mgmt.flagOverrun (m : Mgmt) : Mgmt := { m.countLost with flags := { m.flags with overrun := true } }

/-- A passage from SYNCED to HUNT sets HUNTED, and the record that caused it is counted (R5, R11). -/
def Mgmt.flagHunted (m : Mgmt) : Mgmt := { m.countLost with flags := { m.flags with hunted := true } }

/-- A meter step given held counts sets TALLY_HELD (R14). -/
def Mgmt.flagTallyHeld (m : Mgmt) : Mgmt := { m with flags := { m.flags with tallyHeld := true } }

/-- A dropped notice sets NOTICE_DROPPED and is counted (R170). -/
def Mgmt.countDropped (m : Mgmt) : Mgmt :=
  { m with flags := { m.flags with noticeDropped := true }, dropped := sat16 m.dropped }

/-- A request error sets REQUEST_ERROR, is counted, and returns the receiver to HUNTING (R157). -/
def Mgmt.requestError (m : Mgmt) : Mgmt :=
  { m with receiver := .hunting, flags := { m.flags with requestError := true }, discarded := sat16 m.discarded }

/-- A filtered key press sets KEY (R146). -/
def Mgmt.flagKey (m : Mgmt) : Mgmt := { m with flags := { m.flags with key := true } }

/-- A good frame received makes the link TALKING (R162). -/
def Mgmt.heard (m : Mgmt) : Mgmt := { m with talking := true }

/-- STATUS with CLEAR clears the seven flags (R166). -/
def Mgmt.clearFlags (m : Mgmt) : Mgmt := { m with flags := Flags.clear }

end Sys2Proof.Machine
end

