-- ==== Sys2Proof/Machine/Notices.lean ====
section
/-! DEFINITION. The notice queue of chapter 10: classes, keys, raising, dropping, choosing the notice to send, masking. -/

namespace Sys2Proof.Machine

/-- The priority class of a notice (R167). -/
def classOfNotice : Notice → NoticeClass
  | .trip .. => .urgent
  | .foreign .. => .urgent
  | .trunkLoop .. => .urgent
  | .fabricLost .. => .fabric
  | .fabricBack .. => .fabric
  | .recovered .. => .result
  | .checkDone .. => .result
  | .sweepDone .. => .result
  | .flap .. => .info
  | .panel .. => .info
  | .graceEnd .. => .info

/-- The classes as ranks, INFO lowest (R167). -/
def NoticeClass.rank : NoticeClass → Nat
  | .urgent => 3
  | .fabric => 2
  | .result => 1
  | .info => 0

/-- The rank of a queued notice. -/
def QueuedNotice.rank (q : QueuedNotice) : Nat := (classOfNotice q.notice).rank

/-- The key fields of a notice, none for a kind that never coalesces; the pair of TRUNK_LOOP is unordered, and FLAP is keyed
by the lower of its ports (R167). -/
def keyFields : Notice → Option (Nat × Nat)
  | .trip p .. => some (p.val, 0)
  | .foreign x .. => some (x.val, 0)
  | .trunkLoop o x _ => some (min o.val x.val, max o.val x.val)
  | .fabricLost .. => some (0, 0)
  | .fabricBack .. => some (0, 0)
  | .recovered p .. => some (p.val, 0)
  | .checkDone .. => none
  | .sweepDone .. => none
  | .flap p q .. => some (min p.val q.val, 0)
  | .panel .. => some (0, 0)
  | .graceEnd .. => some (0, 0)

/-- Two notices share a coalescing key (R167). -/
def sameKey (a b : Notice) : Bool :=
  kindIndex a == kindIndex b && (keyFields a).isSome && keyFields a == keyFields b

/-- A notice's kind is enabled by the mask (R172). -/
def kindEnabled (mask : Half) (n : Notice) : Bool := mask.getLsbD (kindIndex n)

/-- The queued notice of the same key takes the new body, its repeat field goes up, and it keeps its age (R169 case 2). -/
def coalesce (n : Notice) : List QueuedNotice → List QueuedNotice
  | [] => []
  | q :: rest =>
    if sameKey n q.notice then { notice := n, repeats := min (q.repeats + 1) 255 } :: rest
    else q :: coalesce n rest

/-- The rank of the lowest class present in the queue (R170). -/
def lowestRank (q : List QueuedNotice) : Nat := q.foldl (fun r e => min r e.rank) 3

/-- The rank of the highest class present in the queue (R171). -/
def highestRank (q : List QueuedNotice) : Nat := q.foldl (fun r e => max r e.rank) 0

/-- The queue without the youngest notice of the given rank (R170). -/
def dropYoungest (rank : Nat) (q : List QueuedNotice) : List QueuedNotice :=
  (q.reverse.eraseP fun e => e.rank == rank).reverse

/-- A notice is raised: discarded when masked, coalesced with a queued notice of its key, joined as the youngest while fewer
than 16 are queued, and treated by the drop rule otherwise (R169, R170). -/
def Mgmt.raise (n : Notice) (m : Mgmt) : Mgmt :=
  if !kindEnabled m.mask n then m
  else if m.queue.any fun q => sameKey n q.notice then { m with queue := coalesce n m.queue }
  else if m.queue.length < 16 then { m with queue := m.queue ++ [⟨n, 1⟩] }
  else if lowestRank m.queue < (classOfNotice n).rank then
    { m.countDropped with queue := dropYoungest (lowestRank m.queue) m.queue ++ [⟨n, 1⟩] }
  else m.countDropped

/-- The notice that goes out first: the oldest of the highest class present (R171). -/
def nextNotice (q : List QueuedNotice) : Option QueuedNotice := q.find? fun e => e.rank == highestRank q

/-- The queue without the notice that goes out first (R171). -/
def withoutNext (q : List QueuedNotice) : List QueuedNotice := q.eraseP fun e => e.rank == highestRank q

/-- The line takes a notice when it is idle, the reply slot is empty, the link is TALKING, and no request waits to be taken:
the next request is taken when the reply slot empties, so its reply goes first (R158, R161, R171, R173). -/
def Mgmt.sendNotice (m : Mgmt) : Mgmt :=
  if m.line = .idle ∧ m.reply = none ∧ m.requests = [] ∧ m.talking = true then
    match nextNotice m.queue with
    | some q => { m with line := .notice (noticeFrame q), queue := withoutNext m.queue }
    | none => m
  else m

/-- The notices that a new mask removes from the queue (R172). -/
def maskedOut (mask : Half) (q : List QueuedNotice) : List QueuedNotice :=
  q.filter fun e => !kindEnabled mask e.notice

/-- The mask is set and the queued notices of the disabled kinds are removed, uncounted (R172). -/
def Mgmt.setMask (mask : Half) (m : Mgmt) : Mgmt :=
  { m with mask := mask, queue := m.queue.filter fun e => kindEnabled mask e.notice }

/-! ### Replies and the line (R158, R161, R164, R173) -/

/-- The bytes of a reply on the line. -/
def Reply.bytes (r : Reply) : List Byte := frameBytes r.kind r.tag r.body

/-- A reply fills the reply slot and begins at once when the line is idle; while a notice is being sent it waits (R161). -/
def Mgmt.fillReply (r : Reply) (m : Mgmt) : Mgmt :=
  { m with reply := some r, line := if m.line = .idle then .reply r.bytes else m.line }

/-- The last byte of a reply leaves ML_TXD: the slot empties, and the end of a RESTART reply empties the notice queue,
uncounted (R158, R173). -/
def Mgmt.replySent (m : Mgmt) : Mgmt :=
  match m.line, m.reply with
  | .reply _, some r => { m with line := .idle, reply := none, queue := if r.flush then [] else m.queue }
  | _, _ => m

/-- The last byte of a notice leaves ML_TXD: a waiting reply begins, or the line falls idle (R161). -/
def Mgmt.noticeEnd (m : Mgmt) : Mgmt :=
  match m.line with
  | .notice _ =>
    match m.reply with
    | some r => { m with line := .reply r.bytes }
    | none => { m with line := .idle }
  | _ => m

/-- A management link break resets the controller, the rate apart; the receiver waits for the line to go high (R164). -/
def Mgmt.broken (m : Mgmt) : Mgmt :=
  { Mgmt.start m.straps with receiver := .breakWait, breakCount := m.breakCount }

/-- The line goes high after a break: the receiver hunts again, its break counter at 0 (R163). -/
def Mgmt.breakWaitEnd (m : Mgmt) : Mgmt :=
  match m.receiver with
  | .breakWait => { m with receiver := .hunting, breakCount := 0 }
  | _ => m

/-! ### Receiving characters (R155 to R158) -/

/-- A good frame makes the link TALKING and joins the request queue, or is a request error when the queue holds four
(R156, R158). -/
def Mgmt.goodFrame (f : Frame) (m : Mgmt) : Mgmt :=
  let m1 := { m.heard with receiver := .hunting }
  if m.requests.length < 4 then { m1 with requests := m.requests ++ [f] } else m1.requestError

/-- The number of bytes after the start byte of a frame whose length byte is `len`: length, kind, tag, body, check. -/
def frameSize (len : Byte) : Nat := len.toNat + 4

/-- A byte taken inside a frame: an over-long length byte is a request error at once; the check byte completes the frame
(R156, R157). -/
def Mgmt.takeByte (taken : List Byte) (age : Nat) (b : Byte) (m : Mgmt) : Mgmt :=
  let bytes := taken ++ [b]
  let len := byteAt bytes 0
  if 200 < len.toNat then m.requestError
  else if bytes.length < frameSize len then { m with receiver := .inFrame bytes age }
  else if crc8 (bytes.take (len.toNat + 3)) = b then
    m.goodFrame { kind := byteAt bytes 1, tag := byteAt bytes 2, body := (bytes.drop 3).take len.toNat }
  else m.requestError

/-- A character on ML_RXD. A broken character carries no byte: it is ignored while hunting and discards the frame inside
one; none is taken in BREAK_WAIT (R155 to R157). -/
def Mgmt.character (b : Byte) (stopHigh : Bool) (m : Mgmt) : Mgmt :=
  match m.receiver with
  | .hunting => if stopHigh && b == 0xC3 then { m with receiver := .inFrame [] 0 } else m
  | .inFrame bytes age => if stopHigh then m.takeByte bytes age b else m.requestError
  | .breakWait => m

end Sys2Proof.Machine
end

