-- ==== Sys2Proof/Machine/Ops.lean ====
section
/-! DEFINITION. The named operations on the whole state that every chapter uses: one update per field, the port-indexed
reads and writes, the readings of time, raising a notice, and setting a probe want (R62, R80). -/

namespace Sys2Proof.Machine

/-! ### One update per field -/

/-- `timer` replaced. -/
def State.setTimer (s : State) (v : SlotTimer) : State := { s with timer := v }

/-- `receiver` replaced. -/
def State.setReceiver (s : State) (v : Receiver) : State := { s with receiver := v }

/-- `tallies` replaced. -/
def State.setTallies (s : State) (v : Vector PortTally 40) : State := { s with tallies := v }

/-- `control` replaced. -/
def State.setControl (s : State) (v : Control) : State := { s with control := v }

/-- `meters` replaced. -/
def State.setMeters (s : State) (v : Vector (PerClass Meter) 40) : State := { s with meters := v }

/-- `reports` replaced. -/
def State.setReports (s : State) (v : Vector (Option StepReport) 40) : State := { s with reports := v }

/-- `grace` replaced. -/
def State.setGrace (s : State) (v : Nat) : State := { s with grace := v }

/-- `stations` replaced. -/
def State.setStations (s : State) (v : List StationEntry) : State := { s with stations := v }

/-- `probes` replaced. -/
def State.setProbes (s : State) (v : ProbeEngine) : State := { s with probes := v }

/-- `sweep` replaced. -/
def State.setSweep (s : State) (v : SweepScheduler) : State := { s with sweep := v }

/-- `ports` replaced. -/
def State.setPorts (s : State) (v : Vector PortRecord 40) : State := { s with ports := v }

/-- `trips` replaced. -/
def State.setTrips (s : State) (v : List TripItem) : State := { s with trips := v }

/-- `evidence` replaced. -/
def State.setEvidence (s : State) (v : Vector EvidenceRecord 40) : State := { s with evidence := v }

/-- `panel` replaced. -/
def State.setPanel (s : State) (v : Panel) : State := { s with panel := v }

/-- `mgmt` replaced. -/
def State.setMgmt (s : State) (v : Mgmt) : State := { s with mgmt := v }

/-- `profile` replaced. -/
def State.setProfile (s : State) (v : Profile) : State := { s with profile := v }

/-- `due` replaced. -/
def State.setDue (s : State) (v : List Event) : State := { s with due := v }

/-! ### Port-indexed reads and writes -/

/-- The forty ports in ascending order. -/
def allPorts : List Port := List.finRange 40

/-- The record of a port. -/
def State.port (s : State) (p : Port) : PortRecord := s.ports[p]

/-- The record of a port replaced. -/
def State.setPort (s : State) (p : Port) (r : PortRecord) : State := s.setPorts (s.ports.set p r)

/-- The meters of a port. -/
def State.portMeters (s : State) (p : Port) : PerClass Meter := s.meters[p]

/-- The meters of a port replaced. -/
def State.setPortMeters (s : State) (p : Port) (m : PerClass Meter) : State := s.setMeters (s.meters.set p m)

/-- The tally state of a port. -/
def State.tally (s : State) (p : Port) : PortTally := s.tallies[p]

/-- The tally state of a port replaced. -/
def State.setTally (s : State) (p : Port) (t : PortTally) : State := s.setTallies (s.tallies.set p t)

/-- The latest step report of a port. -/
def State.report (s : State) (p : Port) : Option StepReport := s.reports[p]

/-- The latest step report of a port replaced. -/
def State.setReport (s : State) (p : Port) (r : Option StepReport) : State := s.setReports (s.reports.set p r)

/-- The evidence record of a port. -/
def State.evidenceOf (s : State) (p : Port) : EvidenceRecord := s.evidence[p]

/-- The evidence record of a port replaced. -/
def State.setEvidenceOf (s : State) (p : Port) (e : EvidenceRecord) : State := s.setEvidence (s.evidence.set p e)

/-! ### Time (R1, R3) -/

/-- The stamp: the low 16 bits of the slot count. -/
def State.stamp (s : State) : Half := s.timer.slotCount.setWidth 16

/-- The slot number: the slot count modulo 256. -/
def State.slotNumber (s : State) : Byte := s.timer.slotCount.setWidth 8

/-- The second count. -/
def State.second (s : State) : Word := s.timer.secondCount

/-- The age of a stamp: (n - t) mod 65536 (R3). -/
def stampAge (now t : Half) : Nat := (now - t).toNat

/-! ### Port conditions -/

/-- A port is guarded when its role is DESK or TRUNK. -/
def State.guarded (s : State) (p : Port) : Bool := (s.port p).role != .off

/-- OPEN or LIMITED: the states whose gate is not SHUT among the guarded ones (R49). -/
def PortState.forwarding : PortState → Bool
  | .opened => true
  | .limited => true
  | _ => false

/-- BLOCKED, TESTING or HELD: the states of the trip list (R111). -/
def PortState.shutForTrip : PortState → Bool
  | .blocked => true
  | .testing => true
  | .held => true
  | _ => false

/-- PRIMING, OPEN or LIMITED: the states in which a desk can be blocked by a proof (R74, R75). -/
def PortState.blockable : PortState → Bool
  | .priming => true
  | .opened => true
  | .limited => true
  | _ => false

/-- The gate of a port (R88). -/
def State.gate (s : State) (p : Port) : Gate := gateOf (s.port p).state

/-! ### Notices -/

/-- A block raises a notice (R169). -/
def State.raise (s : State) (n : Notice) : State := s.setMgmt (s.mgmt.raise n)

/-! ### Probe wants (R62, R80) -/

/-- A purpose joins a purpose set. One that is present is not added twice; SWEEP takes the new number and HOST the new tag.
A LINKUP or RECOVER set again counts from now on as unbroken (R77, log 8). -/
def Purposes.add (w : Want) (p : Purposes) : Purposes :=
  match w with
  | .linkup => { p with linkup := true, linkupBroken := false }
  | .storm => { p with storm := true }
  | .flap => { p with flap := true }
  | .sweep n => { p with sweep := some n }
  | .recover => { p with recover := true, recoverBroken := false }
  | .host t => { p with host := some t }

/-- No purpose is present. -/
def Purposes.isEmpty (p : Purposes) : Bool :=
  !p.linkup && !p.storm && !p.flap && p.sweep.isNone && !p.recover && p.host.isNone

/-- The purpose set without SWEEP and its sweep number (R120). -/
def Purposes.dropSweep (p : Purposes) : Purposes := { p with sweep := none }

/-- The port has left PRIMING, so a LINKUP set before is void when it concludes (R77, log 8). -/
def Purposes.breakLinkup (p : Purposes) : Purposes := { p with linkupBroken := p.linkupBroken || p.linkup }

/-- The port has left TESTING, so a RECOVER set before is void when it concludes (R77, log 8). -/
def Purposes.breakRecover (p : Purposes) : Purposes := { p with recoverBroken := p.recoverBroken || p.recover }

/-- The entry of a port in the probe list, of which there is at most one (R63). -/
def State.entryOf (s : State) (p : Port) : Option ProbeEntry := s.probes.list.find? fun e => e.origin == p

/-- The QUEUED entry of a port (R62). -/
def State.queuedEntry (s : State) (p : Port) : Option ProbeEntry :=
  s.probes.list.find? fun e => e.origin == p && e.expiry.isNone

/-- CHECK_DONE for one port (R78). -/
def State.raiseCheckDone (s : State) (p : Port) (tag : Byte) (o : ProbeOutcome) (arrival : Option Port) : State :=
  s.raise (.checkDone p tag o arrival s.second)

/-- A HOST that joins where HOST is present supersedes it: CHECK_DONE with VOID for the earlier tag (R80). -/
def State.supersede (s : State) (p : Port) (w : Want) (present : Purposes) : State :=
  match w, present.host with
  | .host _, some earlier => s.raiseCheckDone p earlier .void none
  | _, _ => s

/-- A purpose joins the QUEUED entry of a port. -/
def joinEntry (p : Port) (w : Want) (list : List ProbeEntry) : List ProbeEntry :=
  list.map fun e => if e.origin = p ∧ e.expiry = none then { e with purposes := e.purposes.add w } else e

/-- A purpose joins the want set of a port. -/
def State.joinWants (s : State) (p : Port) (w : Want) : State :=
  s.setPort p { s.port p with wants := (s.port p).wants.add w }

/-- A block sets a want on a port: the purpose joins the port's QUEUED entry at once, or else its want set (R62). -/
def State.setWant (s : State) (p : Port) (w : Want) : State :=
  match s.queuedEntry p with
  | some e =>
    let s1 := s.supersede p w e.purposes
    s1.setProbes { s1.probes with list := joinEntry p w s1.probes.list }
  | none => (s.supersede p w (s.port p).wants).joinWants p w

end Sys2Proof.Machine
end

