-- ==== Sys2Proof/Machine/Trips.lean ====
section
/-! DEFINITION. State changes of a port and trips (R88, R98 to R103, R111, R112), with the evidence (R133, R134) and the
buzzer (R153) that a trip moves. -/

namespace Sys2Proof.Machine

/-! ### Changing a port's state -/

/-- The port's pending GATE change is set to a gate (R17). -/
def State.pendGate (s : State) (p : Port) (g : Gate) : State :=
  s.setControl { s.control with pendingGate := s.control.pendingGate.set p (some g) }

/-- A purpose map applied to the purposes that stand for a port: its want set and its probe list entry. -/
def State.mapPurposes (s : State) (p : Port) (f : Purposes → Purposes) : State :=
  let s1 := s.setPort p { s.port p with wants := f (s.port p).wants }
  s1.setProbes { s1.probes with
    list := s1.probes.list.map fun e => if e.origin = p then { e with purposes := f e.purposes } else e }

/-- A port that leaves PRIMING or TESTING breaks its LINKUP or RECOVER (R77, log 8). -/
def State.leaveState (s : State) (p : Port) : State :=
  match (s.port p).state with
  | .priming => s.mapPurposes p Purposes.breakLinkup
  | .testing => s.mapPurposes p Purposes.breakRecover
  | _ => s

/-- The trip list without a port's item (R112). -/
def removeTrip (p : Port) (l : List TripItem) : List TripItem := l.filter fun t => t.port != p

/-- A port enters a state: hold-off, calm counter and decay counter are 0 from then on (R86), the gate is that of the new
state with a GATE change when it differs (R88), and the port leaves the trip list unless the new state is one of the
list's (R112). -/
def State.enter (s : State) (p : Port) (new : PortState) : State :=
  let old := (s.port p).state
  let s1 := s.leaveState p
  let s2 := s1.setPort p { s1.port p with state := new, holdOff := 0, calm := 0, decay := 0 }
  let s3 := if gateOf old = gateOf new then s2 else s2.pendGate p (gateOf new)
  if new.shutForTrip then s3 else s3.setTrips (removeTrip p s3.trips)

/-! ### The buzzer (R153) -/

/-- The buzzer is started with the buzz time of the profile, or stopped when that is 0. -/
def State.startBuzzer (s : State) : State :=
  s.setPanel { s.panel with
    buzzer := if s.profile.buzzTime = 0 then none
      else some { remaining := s.profile.buzzTime * 1000, elapsed := 0 } }

/-! ### Trips (R98) -/

/-- The capture of a trip as it stands (R130, R131). -/
def State.captureOf (s : State) (p : Port) (cause : Cause) (entered : PortState) (partner : Option Port)
    (room : Option Half) : Capture :=
  { cause := cause, entered := entered, partner := partner, foreign := room, second := s.second, stamp := s.stamp,
    strikes := (s.port p).strikes, values := tripValues (s.report p) (s.portMeters p), held := tripHeld (s.report p) }

/-- The Evidence Store takes a trip report: an unlatched record captures it and TRIP is raised, a latched one counts it
(R133, R134, R116). -/
def State.recordTrip (s : State) (p : Port) (cause : Cause) (entered : PortState) (partner : Option Port)
    (room : Option Half) : State :=
  match (s.evidenceOf p).capture with
  | none =>
    (s.setEvidenceOf p { capture := some (s.captureOf p cause entered partner room), repeats := 0 }).raise
      (.trip p cause entered partner (s.port p).strikes s.second)
  | some _ => s.setEvidenceOf p { s.evidenceOf p with repeats := min ((s.evidenceOf p).repeats + 1) 255 }

/-- A trip of a port into LIMITED, BLOCKED or HELD, made after its strikes have been set (R98): the state and its gate, the
evidence, TRIPPED, TRIP for a newly latched record, and for BLOCKED and HELD the buzzer and the head of the trip list. -/
def State.trip (s : State) (p : Port) (cause : Cause) (entered : PortState) (partner : Option Port)
    (room : Option Half) : State :=
  let s1 := s.enter p entered
  let s2 := s1.setMgmt s1.mgmt.flagTripped
  let s3 := s2.recordTrip p cause entered partner room
  if entered.shutForTrip then
    s3.startBuzzer.setTrips ({ port := p, cause := cause, partner := partner } :: removeTrip p s3.trips)
  else s3

/-- The hold-off of a port that enters BLOCKED: the base doubled for each strike beyond the first, at most 600 s (R100). -/
def holdOffFor (base strikes : Nat) : Nat := min (base * 2 ^ (strikes - 1)) 600

/-- A blocking trip (R99): one more strike, at most the strike limit; HELD when the limit is reached, else BLOCKED with the
hold-off of R100. -/
def State.blockingTrip (s : State) (p : Port) (cause : Cause) (partner : Option Port) (room : Option Half) : State :=
  let strikes := min ((s.port p).strikes + 1) s.profile.strikeLimit
  let s1 := s.setPort p { s.port p with strikes := strikes }
  if strikes = s.profile.strikeLimit then s1.trip p cause .held partner room
  else
    let s2 := s1.trip p cause .blocked partner room
    s2.setPort p { s2.port p with holdOff := holdOffFor s.profile.holdOffBase strikes }

/-- A limiting trip (R103): LIMITED with strikes unchanged; a LIMIT_k cause also sets a STORM want. -/
def State.limitingTrip (s : State) (p : Port) (cause : Cause) (partner : Option Port) : State :=
  let s1 := s.trip p cause .limited partner none
  match cause with
  | .limit _ => s1.setWant p .storm
  | _ => s1

/-! ### Leaving PRIMING (R93) -/

/-- The three meters of a port have finished priming. -/
def State.primed (s : State) (p : Port) : Bool := (s.portMeters p).all fun m => m.priming == 0

/-- The exit test of R93: a PRIMING port whose meters have primed and whose linkup result is set enters OPEN, or LIMITED for
LOOPED. -/
def State.primingExit (s : State) (p : Port) : State :=
  if (s.port p).state = .priming ∧ s.primed p = true then
    match (s.port p).linkup with
    | .unset => s
    | .clear => s.enter p .opened
    | .contained => s.enter p .opened
    | .looped => s.limitingTrip p .trunkLoop none
  else s

/-- A port re-opens from LIMITED or TESTING: OPEN, and RECOVERED naming the state left (R95, R102, R116). -/
def State.reopen (s : State) (p : Port) : State :=
  (s.enter p .opened).raise (.recovered p (s.port p).state (s.port p).strikes s.second)

/-! ### Acting on a step report (R94 to R96) -/

/-- The class named by a blocking cause, when the port is a desk with SEVERE confirmed. -/
def StepReport.severeClass (r : StepReport) (role : Role) : Option TrafficClass :=
  if role = .desk then r.classes.first ClassReport.severeConfirmed else none

/-- A LIMITED port's calm count (R95): up by one on an all-CALM report, 0 otherwise. -/
def State.countCalm (s : State) (p : Port) (r : StepReport) : State :=
  s.setPort p { s.port p with calm := if r.classes.all ClassReport.calm then (s.port p).calm + 1 else 0 }

/-- What a step report does by the port's state (R93 to R96), but for the reopening of a LIMITED port at its calm hold. -/
def State.judgeReport (s : State) (p : Port) (r : StepReport) : State :=
  match (s.port p).state with
  | .opened =>
    match r.severeClass (s.port p).role with
    | some k => s.blockingTrip p (.severe k) none none
    | none =>
      match r.classes.first ClassReport.stormConfirmed with
      | some k => if r.grace then s else s.limitingTrip p (.limit k) none
      | none => s
  | .limited =>
    match r.severeClass (s.port p).role with
    | some k => s.blockingTrip p (.severe k) none none
    | none => s.countCalm p r
  | .testing =>
    match r.severeClass (s.port p).role with
    | some _ => s.blockingTrip p .retestSevere none none
    | none => s
  | .priming => s.primingExit p
  | .unguarded => s
  | .down => s
  | .blocked => s
  | .held => s

/-- The port is LIMITED and its calm counter has reached the calm hold (R95). -/
def State.calmReached (s : State) (p : Port) : Bool :=
  decide ((s.port p).state = .limited) && decide (s.profile.calmHold ≤ (s.port p).calm)

/-- A LIMITED port whose calm counter has reached the calm hold enters OPEN and raises RECOVERED (R95). -/
def State.takeCalmHold (s : State) (p : Port) : State := if s.calmReached p then s.reopen p else s

/-- The Port Controller acts on a step report by the port's state; a LIMITED port that reaches its calm hold reopens
(R93 to R96). -/
def State.actOnReport (s : State) (p : Port) (r : StepReport) : State :=
  if (s.port p).state = .limited then (s.judgeReport p r).takeCalmHold p else s.judgeReport p r

end Sys2Proof.Machine
end

