-- ==== Sys2Proof/Machine/Conclude.lean ====
section
/-! DEFINITION. Counting and ending sweeps (R119, R120, R123 to R125), conclusions of purposes (R77, R78), and the removal
of wants and QUEUED entries (R81, R82, R92). -/

namespace Sys2Proof.Machine

/-! ### Sweeps -/

/-- The sum of the concluded and skipped counts of a sweep (R125). -/
def SweepRecord.counted (r : SweepRecord) : Nat := r.clear + r.contained + r.looped + r.skipped

/-- The range size of a sweep (R117). -/
def SweepRecord.size (r : SweepRecord) : Nat := r.last.val + 1 - r.first.val

/-- The sweep is complete: its last port has been taken and every port has been counted (R125). -/
def SweepRecord.complete (r : SweepRecord) : Bool := decide (r.last.val < r.next) && r.counted == r.size

/-- SWEEP leaves every probe-want set and every probe list entry (R120). -/
def State.dropSweeps (s : State) : State :=
  let s1 := s.setPorts (Vector.ofFn fun p : Port => { s.port p with wants := (s.port p).wants.dropSweep })
  s1.setProbes { s1.probes with
    list := s1.probes.list.map fun e => { e with purposes := e.purposes.dropSweep } }

/-- A sweep ends: its purposes are removed, SWEEP_DONE is raised with the counts as they stand, and the record is emptied
(R120). -/
def State.endSweep (s : State) (r : SweepRecord) (e : SweepEnd) : State :=
  let s1 := s.dropSweeps.raise (.sweepDone r e s.second)
  s1.setSweep { s1.sweep with record := none }

/-- The sweep record set, and the sweep ended DONE when it is complete (R125). -/
def State.putSweep (s : State) (r : SweepRecord) : State :=
  if r.complete then (s.setSweep { s.sweep with record := some r }).endSweep r .done
  else s.setSweep { s.sweep with record := some r }

/-- A SWEEP conclusion counted by its outcome (R124). -/
def SweepRecord.count (o : ProbeOutcome) (r : SweepRecord) : SweepRecord :=
  match o with
  | .clear => { r with clear := r.clear + 1 }
  | .contained => { r with contained := r.contained + 1 }
  | .looped => { r with looped := r.looped + 1 }
  | .void => { r with skipped := r.skipped + 1 }

/-- A SWEEP conclusion is delivered: counted when its number is that of the sweep in progress, disregarded otherwise
(R118). -/
def State.deliverSweep (s : State) (number : Byte) (o : ProbeOutcome) : State :=
  match s.sweep.record with
  | some r => if r.number = number then s.putSweep (r.count o) else s
  | none => s

/-- A sweep starts (R118, R119). -/
def State.startSweep (s : State) (host : Option Byte) (first last : Port) : State :=
  let number := s.sweep.number + 1
  s.setSweep { s.sweep with
    number := number
    record := some { host := host, number := number, first := first, last := last, next := first.val, pacing := 1,
                     admitted := 0, clear := 0, contained := 0, looped := 0, skipped := 0 } }

/-- The sweep takes its next port: a SWEEP want on an OPEN or LIMITED port, a skip otherwise; the next port goes up and the
pacing counter is loaded with the spacing, or stays at 0 after the last port (R123, R125). -/
def State.takeSweepPort (s : State) : State :=
  match s.sweep.record with
  | none => s
  | some r =>
    if h : r.next ≤ r.last.val then
      let p : Port := ⟨r.next, Nat.lt_of_le_of_lt h r.last.isLt⟩
      let pacing := if r.last.val < r.next + 1 then 0 else s.profile.sweepSpacing
      if (s.port p).state.forwarding then
        (s.setWant p (.sweep r.number)).putSweep
          { r with next := r.next + 1, pacing := pacing, admitted := r.admitted + 1 }
      else s.putSweep { r with next := r.next + 1, pacing := pacing, skipped := r.skipped + 1 }
    else s

/-! ### Conclusions (R77, R78) -/

/-- The linkup result of an outcome (R77). -/
def linkupOf : ProbeOutcome → LinkupResult
  | .clear => .clear
  | .contained => .contained
  | .looped => .looped
  | .void => .unset

/-- LINKUP concludes: its result is set while the port is still PRIMING without a break, and the exit test of R93 is made. -/
def State.concludeLinkup (s : State) (p : Port) (u : Purposes) (o : ProbeOutcome) : State :=
  if u.linkup = true ∧ u.linkupBroken = false ∧ o ≠ .void ∧ (s.port p).state = .priming then
    (s.setPort p { s.port p with linkup := linkupOf o }).primingExit p
  else s

/-- SWEEP concludes: its outcome is delivered to the Sweep Scheduler with its number. -/
def State.concludeSweep (s : State) (u : Purposes) (o : ProbeOutcome) : State :=
  match u.sweep with
  | some n => s.deliverSweep n o
  | none => s

/-- RECOVER concludes: CLEAR opens a port still TESTING without a break (R102). -/
def State.concludeRecover (s : State) (p : Port) (u : Purposes) (o : ProbeOutcome) : State :=
  if u.recover = true ∧ u.recoverBroken = false ∧ o = .clear ∧ (s.port p).state = .testing then s.reopen p else s

/-- The outcome that a HOST purpose reports: VOID when the port is UNGUARDED or DOWN (R78). -/
def hostOutcome (st : PortState) (o : ProbeOutcome) : ProbeOutcome :=
  match st with
  | .unguarded => .void
  | .down => .void
  | _ => o

/-- HOST concludes: CHECK_DONE, with the arrival port when the outcome it reports came from a proof (R78, log 9). -/
def State.concludeHost (s : State) (p : Port) (u : Purposes) (o : ProbeOutcome) (arrival : Option Port) : State :=
  match u.host with
  | some t =>
    let out := hostOutcome (s.port p).state o
    s.raiseCheckDone p t out (if out = .void then none else arrival)
  | none => s

/-- Each purpose of an ended entry or of an emptied want set concludes with one outcome (R77; STORM and FLAP have no effect).
DESIGN CHOICE (log 27): LINKUP, SWEEP, RECOVER, HOST in turn, the order in which R62 lists them. The spec leaves the order
open, and the table of R77 lists RECOVER before SWEEP; it shows only in the age of SWEEP_DONE, RECOVERED and CHECK_DONE. -/
def State.conclude (s : State) (p : Port) (u : Purposes) (o : ProbeOutcome) (arrival : Option Port) : State :=
  (((s.concludeLinkup p u o).concludeSweep u o).concludeRecover p u o).concludeHost p u o arrival

/-! ### Removal -/

/-- The want set of a port is emptied and its purposes conclude VOID (R92). -/
def State.voidWants (s : State) (p : Port) : State :=
  (s.setPort p { s.port p with wants := Purposes.empty }).conclude p (s.port p).wants .void none

/-- A QUEUED entry of a port is removed, its EMIT order withdrawn, and its purposes conclude VOID; a SENT entry stays
(R81, R82, R18). -/
def State.removeQueued (s : State) (p : Port) : State :=
  match s.queuedEntry p with
  | some e =>
    let s1 := s.setProbes { s.probes with list := s.probes.list.filter fun x => x.tag != e.tag }
    let s2 := s1.setControl { s1.control with emitQueue := s1.control.emitQueue.filter fun x => x.tag != e.tag }
    s2.conclude p e.purposes .void none
  | none => s

end Sys2Proof.Machine
end

