-- ==== Sys2Proof/Machine/PortOps.lean ====
section
/-! DEFINITION. Link events (R90 to R92), role changes (R110), host orders and releases (R106 to R108), and the resolution
of a proof (R75). -/

namespace Sys2Proof.Machine

/-! ### Meters of a port -/

/-- The three meters of a port restart, keeping their baselines (R33). -/
def State.restartMeters (s : State) (p : Port) : State :=
  s.setPortMeters p (PerClass.build fun k => ((s.portMeters p).get k).restart (s.profile.meters.get k))

/-- The meters of a port under a new role: baselines of 0 for OFF, else kept and clamped to the ceilings of the role (R34,
R35). -/
def State.restartForRole (s : State) (p : Port) (role : Role) : State :=
  s.setPortMeters p (PerClass.build fun k =>
    let c := s.profile.meters.get k
    match role with
    | .off => Meter.restartedWith c 0
    | .desk => (((s.portMeters p).get k).restart c).clampBase c.desk.ceil
    | .trunk => (((s.portMeters p).get k).restart c).clampBase c.trunk.ceil)

/-! ### Link events (R90 to R92) -/

/-- LINK UP taken for a DOWN port: PRIMING, linkup result NONE, meters restarted, a LINKUP want (R91). -/
def State.linkUp (s : State) (p : Port) : State :=
  let s1 := s.enter p .priming
  let s2 := s1.setPort p { s1.port p with linkUp := true, linkup := .unset }
  (s2.restartMeters p).setWant p .linkup

/-- LINK DOWN taken for a port in PRIMING, OPEN, LIMITED, BLOCKED or TESTING (R92). -/
def State.linkDown (s : State) (p : Port) : State :=
  let s1 := s.enter p .down
  let s2 := s1.setPort p { s1.port p with linkUp := false, linkup := .unset }
  (s2.voidWants p).removeQueued p

/-- The link field alone follows the record (R90: UNGUARDED and HELD). -/
def State.setLink (s : State) (p : Port) (up : Bool) : State := s.setPort p { s.port p with linkUp := up }

/-- A LINK record is treated by the port's state (R90). -/
def State.takeLink (s : State) (p : Port) (up : Bool) : State :=
  match (s.port p).state with
  | .unguarded => s.setLink p up
  | .held => s.setLink p up
  | .down => if up then s.linkUp p else s
  | .priming => if up then s else s.linkDown p
  | .opened => if up then s else s.linkDown p
  | .limited => if up then s else s.linkDown p
  | .blocked => if up then s else s.linkDown p
  | .testing => if up then s else s.linkDown p

/-! ### Role change (R110) -/

/-- The state that a port of the new role takes (R110 step 4). -/
def stateForRole (role : Role) (linkUp : Bool) : PortState :=
  match role with
  | .off => .unguarded
  | .desk => if linkUp then .priming else .down
  | .trunk => if linkUp then .priming else .down

/-- A port that becomes UNGUARDED or leaves UNGUARDED has had no step report in its guarded life (R131). -/
def State.forgetReport (s : State) (p : Port) (old new : Role) : State :=
  if old = .off ∨ new = .off then s.setReport p none else s

/-- A role change of a port in one event (R110): counters and linkup result reset, wants and a QUEUED entry concluded VOID,
the trip list left, the new role, state and meters, and a LINKUP want for a port that enters PRIMING. -/
def State.changeRole (s : State) (p : Port) (role : Role) : State :=
  let old := (s.port p).role
  let s1 := s.setPort p { s.port p with strikes := 0, linkup := .unset }
  let s2 := (s1.voidWants p).removeQueued p
  let s3 := s2.setPort p { s2.port p with role := role }
  let new := stateForRole role (s3.port p).linkUp
  let s4 := ((s3.enter p new).restartForRole p role).forgetReport p old role
  if new = .priming then s4.setWant p .linkup else s4

/-! ### Orders and releases (R106 to R108) -/

/-- BLOCK of a guarded port that is not HELD: a trip into HELD with cause HOST, strikes unchanged (R106). -/
def State.hold (s : State) (p : Port) : State := s.trip p .host .held none none

/-- Where a released port goes (R107). -/
def releaseTarget (r : PortRecord) : PortState :=
  match r.state with
  | .held => if r.linkUp then (if r.role = .trunk then .opened else .testing) else .down
  | _ => .testing

/-- The port is BLOCKED or HELD (R107). -/
def PortState.releasable : PortState → Bool
  | .blocked => true
  | .held => true
  | _ => false

/-- The release of a BLOCKED or HELD port: strikes 0, its target state, and a RECOVER want when that is TESTING (R107). A
port in any other state is left as it stands. -/
def State.release (s : State) (p : Port) : State :=
  if (s.port p).state.releasable then
    let target := releaseTarget (s.port p)
    let s1 := (s.setPort p { s.port p with strikes := 0 }).enter p target
    if target = .testing then s1.setWant p .recover else s1
  else s

/-- The ports that a room release releases (R108). -/
def State.releasablePorts (s : State) : List Port := allPorts.filter fun p => (s.port p).state.releasable

/-- Every BLOCKED and HELD port is released (R108). -/
def State.roomRelease (s : State) : State := s.releasablePorts.foldl State.release s

/-! ### Resolving a proof (R75, R73) -/

/-- A guarded OPEN port named by a proof at step 6 is limited (R75, R103). -/
def State.limitTrunk (s : State) (p : Port) (partner : Option Port) : State :=
  if (s.port p).role ≠ .off ∧ (s.port p).state = .opened then s.limitingTrip p .trunkLoop partner else s

/-- The other port of a proof, absent when the two are one (R132). -/
def otherPort (self other : Port) : Option Port := if other = self then none else some other

/-- Step 6 of R75: TRUNK_LOOP is raised, and the OPEN guarded ones of the two ports are limited, the lower first (R169). -/
def State.trunkLoop (s : State) (o x : Port) : State :=
  let s1 := s.raise (.trunkLoop o x s.second)
  if o = x then s1.limitTrunk o none
  else if o < x then (s1.limitTrunk o (some x)).limitTrunk x (some o)
  else (s1.limitTrunk x (some o)).limitTrunk o (some x)

/-- The port is DOWN or UNGUARDED (R75 step 1). -/
def PortState.downOrUnguarded : PortState → Bool
  | .down => true
  | .unguarded => true
  | _ => false

/-- A proof (o, x) is resolved by the first of six steps whose condition holds (R75): the state after its action, and the
outcome. `recover` says that the proof's purposes include RECOVER. -/
def State.resolve (s : State) (o x : Port) (recover : Bool) : State × ProbeOutcome :=
  let so := (s.port o).state
  let sx := (s.port x).state
  if so.downOrUnguarded then (s, .contained)
  else if recover = true ∧ so = .testing then (s.blockingTrip o .retestLoop (otherPort o x) none, .looped)
  else if so.shutForTrip = true ∨ sx.shutForTrip = true then (s, .contained)
  else if (s.port x).role = .desk then
    if sx.blockable then
      if x = o then (s.blockingTrip x .selfLoop none none, .looped)
      else (s.blockingTrip x .loop (some o) none, .contained)
    else (s, .contained)
  else if (s.port o).role = .desk then (s.blockingTrip o .loop (some x) none, .looped)
  else (s.trunkLoop o x, .looped)

end Sys2Proof.Machine
end

