-- ==== Sys2Proof/Machine/StationOps.lean ====
section
/-! DEFINITION. The Station Table of chapter 3: learning, moves, flaps, eviction, ageing and the host's pins. -/

namespace Sys2Proof.Machine

/-! ### The table -/

/-- The entry of an address (R48: at most one). -/
def findStation (a : Address) (t : List StationEntry) : Option StationEntry := t.find? fun e => e.address == a

/-- The lowest free position at or above `n` of a table listed in rising position (R48). -/
def lowestFree : List StationEntry → Nat → Nat
  | [], n => n
  | e :: rest, n => if e.position = n then lowestFree rest (n + 1) else n

/-- An entry placed at its position in a table listed in rising position. -/
def placeStation (x : StationEntry) : List StationEntry → List StationEntry
  | [] => [x]
  | e :: rest => if x.position < e.position then x :: e :: rest else e :: placeStation x rest

/-- The older of two unpinned entries, the one at the lower position when they share a last-seen (R50). -/
def olderStation (a b : StationEntry) : StationEntry := if b.lastSeen.toNat < a.lastSeen.toNat then b else a

/-- The victim of an eviction: the unpinned entry with the oldest last-seen, at the lowest position (R50). -/
def evictionVictim (t : List StationEntry) : Option StationEntry :=
  (t.filter fun e => !e.pinned).foldl
    (fun best e => match best with
      | some b => some (olderStation b e)
      | none => some e) none

/-- The table without the entry at a position. -/
def removeAt (position : Nat) (t : List StationEntry) : List StationEntry := t.filter fun e => e.position != position

/-- A full table makes room by evicting its victim (R50). -/
def makeRoom (t : List StationEntry) : List StationEntry :=
  if t.length < 512 then t
  else match evictionVictim t with
    | some v => removeAt v.position t
    | none => t

/-- A new entry takes the lowest free position, a full table first evicting its victim (R48, R50). -/
def insertStation (a : Address) (home : Port) (now : Word) (pinned : Bool) (t : List StationEntry) : List StationEntry :=
  let t1 := makeRoom t
  placeStation { position := lowestFree t1 0, address := a, home := home, lastSeen := now, pinned := pinned, moves := [] }
    t1

/-- The entry of an address replaced by its image. -/
def updateStation (a : Address) (f : StationEntry → StationEntry) (t : List StationEntry) : List StationEntry :=
  t.map fun e => if e.address = a then f e else e

/-- The number of pinned entries (R48). -/
def pinnedCount (t : List StationEntry) : Nat := (t.filter fun e => e.pinned).length

/-! ### Learning (R49 to R54) -/

/-- A sample of a port is taken: a guarded port in OPEN or LIMITED (R49). -/
def State.sampleTaken (s : State) (p : Port) : Bool := s.guarded p && (s.port p).state.forwarding

/-- A move: the newest in front, at most four kept, last-seen refreshed, an unpinned home moved (R52 steps 1 to 3). -/
def StationEntry.move (p : Port) (stamp : Half) (now : Word) (e : StationEntry) : StationEntry :=
  { e with moves := (⟨p, stamp⟩ :: e.moves).take 4, lastSeen := now, home := if e.pinned then e.home else p }

/-- The flap check: at least L moves, and the L newest all younger than w slots (R53). -/
def flapFound (limit window : Nat) (now : Half) (moves : List Move) : Bool :=
  decide (limit ≤ moves.length) && (moves.take limit).all fun m => decide (stampAge now m.stamp < window)

/-- The partner port of a flap on the move to `p`: the second-newest move's port when it is not `p`, else the home as it
stood when the sample was taken (R54). -/
def flapPartner (p oldHome : Port) : List Move → Port
  | _ :: m :: _ => if m.port = p then oldHome else m.port
  | _ => oldHome

/-- A FLAP want on a port that is guarded and OPEN or LIMITED (R54). -/
def State.flapWant (s : State) (p : Port) : State := if s.sampleTaken p then s.setWant p .flap else s

/-- A flap: FLAP is raised, wants are set on the two ports, and the entry's move list is emptied (R54). -/
def State.flap (s : State) (a : Address) (p q : Port) : State :=
  let s1 := ((s.raise (.flap p q a s.second)).flapWant p).flapWant q
  s1.setStations (updateStation a (fun e => { e with moves := [] }) s1.stations)

/-- A taken sample of a station away from its home: the move, then the flap check (R52). -/
def State.moveStation (s : State) (e : StationEntry) (p : Port) : State :=
  let e1 := e.move p s.stamp s.second
  let s1 := s.setStations (updateStation e.address (fun _ => e1) s.stations)
  if flapFound s.profile.flapLimit s.profile.flapWindow s.stamp e1.moves then
    s1.flap e.address p (flapPartner p e.home e1.moves)
  else s1

/-- A SAMPLE is learned, refreshed or moved; a sample that is not taken is dropped (R49 to R52). -/
def State.learn (s : State) (p : Port) (a : Address) : State :=
  if s.sampleTaken p then
    match findStation a s.stations with
    | none => s.setStations (insertStation a p s.second false s.stations)
    | some e =>
      if e.home = p then
        s.setStations (updateStation a (fun x => { x with lastSeen := s.second }) s.stations)
      else s.moveStation e p
  else s

/-! ### Second expiry (R55, R56) -/

/-- Moves 5000 slots old or older are removed (R55). -/
def StationEntry.prune (now : Half) (e : StationEntry) : StationEntry :=
  { e with moves := e.moves.filter fun m => decide (stampAge now m.stamp < 5000) }

/-- An entry that ageing removes: unpinned, and at least the station age old, modulo 2^32 (R56). -/
def StationEntry.aged (now : Word) (age : Nat) (e : StationEntry) : Bool :=
  !e.pinned && decide (age ≤ (now - e.lastSeen).toNat)

/-- The table after the prune and the ageing of a second expiry (R55, R56). -/
def ageStations (stamp : Half) (now : Word) (age : Nat) (t : List StationEntry) : List StationEntry :=
  (t.filter fun e => !e.aged now age).map (StationEntry.prune stamp)

/-! ### Replies -/

/-- A move of a station entry in a reply: port and stamp, zero when unused (section 12.3). -/
def moveBytes (m : Option Move) : List Byte :=
  match m with
  | some x => portByte x.port :: halfBytes x.stamp
  | none => [0, 0, 0]

/-- A station entry as the replies carry it, with the current stamp (R57, section 12.3). -/
def stationBytes (stamp : Half) (e : StationEntry) : List Byte :=
  natBytes e.position ++ addressBytes e.address ++ [portByte e.home] ++ wordBytes e.lastSeen ++
    [boolByte e.pinned, natByte e.moves.length] ++ moveBytes e.moves[0]? ++ moveBytes e.moves[1]? ++
    moveBytes e.moves[2]? ++ moveBytes e.moves[3]? ++ halfBytes stamp

/-- The entry of an address as a reply carries it, nothing when the table holds none (R58, R59). -/
def State.stationReply (s : State) (a : Address) : List Byte :=
  match findStation a s.stations with
  | some e => stationBytes s.stamp e
  | none => []

end Sys2Proof.Machine
end

