-- ==== Sys2Proof/Machine/ProbeOps.lean ====
section
/-! DEFINITION. The Probe Engine of chapter 4: tags, admission, emission, expiry, returns and a change of the room id. -/

namespace Sys2Proof.Machine

/-! ### Tags and admission (R64 to R66) -/

/-- The tag counter advanced until it is neither 0 nor a tag in use; `fuel` bounds the steps (R64). -/
def nextTag : Nat → Half → List Half → Half
  | 0, c, _ => c
  | fuel + 1, c, used => if c + 1 = 0 ∨ c + 1 ∈ used then nextTag fuel (c + 1) used else c + 1

/-- The tag of the next entry: every tag in use and 0 cost at most one step each (R64). -/
def ProbeEngine.newTag (e : ProbeEngine) : Half := nextTag (e.list.length + 2) e.tagCounter (e.list.map (·.tag))

/-- The last 64 of a list of tags issued, oldest first (R65). -/
def lastTags (tags : List Half) : List Half := tags.drop (tags.length - 64)

/-- A port can be admitted: its want set is not empty, it has no entry, and the list holds fewer than 24 (R66). -/
def State.admissible (s : State) (p : Port) : Bool :=
  !(s.port p).wants.isEmpty && (s.entryOf p).isNone && decide (s.probes.list.length < 24)

/-- A port is admitted when it can be: a QUEUED entry with a new tag takes its want set, the EMIT order joins the queue,
and the admission pointer names the port (R66). -/
def State.admitPort (s : State) (p : Port) : State :=
  if s.admissible p then
    let tag := s.probes.newTag
    let entry : ProbeEntry := { tag := tag, origin := p, purposes := (s.port p).wants, expiry := none }
    let order : EmitOrder := { room := s.profile.roomId, origin := p, tag := tag }
    ((s.setProbes { s.probes with
        list := s.probes.list ++ [entry], tagCounter := tag, recent := lastTags (s.probes.recent ++ [tag]),
        pointer := p }).setPort p { s.port p with wants := Purposes.empty }).setControl
      { s.control with emitQueue := s.control.emitQueue ++ [order] }
  else s

/-- The forty ports in round-robin order from the port after the pointer (R66). -/
def admissionOrder (pointer : Port) : List Port := allPorts.map fun i => pointer + 1 + i

/-- The admission of one slot expiry (R66). -/
def State.admitWants (s : State) : State := (admissionOrder s.probes.pointer).foldl State.admitPort s

/-! ### Emission and expiry (R68, R69) -/

/-- The entry of an emitted order becomes SENT, its expiry stamp the stamp plus the probe timeout (R68). -/
def State.markSent (s : State) (tag : Half) : State :=
  s.setProbes { s.probes with
    list := s.probes.list.map fun e =>
      if e.tag = tag ∧ e.expiry = none then
        { e with expiry := some (s.stamp + BitVec.ofNat 16 s.profile.probeTimeout) } else e }

/-- An entry whose expiry stamp has been reached: (t - n) mod 65536 is 0 or at least 32768 (R69). -/
def ProbeEntry.reached (now : Half) (e : ProbeEntry) : Bool :=
  match e.expiry with
  | some t => decide ((t - now).toNat = 0) || decide (32768 ≤ (t - now).toNat)
  | none => false

/-- The entries of the list in ascending order of origin port. -/
def inPortOrder (list : List ProbeEntry) : List ProbeEntry :=
  allPorts.flatMap fun p => list.filter fun e => e.origin == p

/-- The end of every reached entry falls due, in ascending order of origin port (R69, log 25). -/
def State.countProbes (s : State) : State :=
  s.setDue (s.due ++ (inPortOrder (s.probes.list.filter (ProbeEntry.reached s.stamp))).map fun e => .probeExpired e.origin)

/-- The reached entry of an origin port (R63: at most one). -/
def State.reachedEntry (s : State) (o : Port) : Option ProbeEntry :=
  s.probes.list.find? fun e => e.origin == o && e.reached s.stamp

/-- The reached entry of an origin port leaves the list and its purposes conclude CLEAR (R69). -/
def State.takeProbeExpiry (s : State) (o : Port) : State :=
  match s.reachedEntry o with
  | some e => (s.setProbes { s.probes with list := s.probes.list.filter fun x => x.tag != e.tag }).conclude o e.purposes
      .clear none
  | none => s

/-! ### Returns (R70 to R74) -/

/-- The SENT entry that a return matches: equal tag and equal origin (R71). -/
def State.matching (s : State) (origin : Byte) (tag : Half) : Option ProbeEntry :=
  s.probes.list.find? fun e => e.expiry.isSome && e.tag == tag && e.origin.val == origin.toNat

/-- A matched return: the entry leaves the list, the proof is resolved, and the purposes conclude with its outcome (R71). -/
def State.matchedReturn (s : State) (e : ProbeEntry) (x : Port) : State :=
  let s1 := s.setProbes { s.probes with list := s.probes.list.filter fun y => y.tag != e.tag }
  let r := s1.resolve e.origin x e.purposes.recover
  r.1.conclude e.origin e.purposes r.2 (some x)

/-- An unmatched return is counted stale when its tag stands in the recent-tag window and unknown otherwise (R72). -/
def ProbeEngine.countUnmatched (tag : Half) (e : ProbeEngine) : ProbeEngine :=
  if tag ∈ e.recent then { e with stale := sat16 e.stale } else { e with unknown := sat16 e.unknown }

/-- An unmatched return: counted, and resolved as a proof with no purposes when its origin is a guarded port (R72). -/
def State.unmatchedReturn (s : State) (x : Port) (origin : Byte) (tag : Half) : State :=
  let s1 := s.setProbes (s.probes.countUnmatched tag)
  match portOf origin with
  | some o => if s1.guarded o then (s1.resolve o x false).1 else s1
  | none => s1

/-- A foreign return: counted; a desk is named by FOREIGN, and blocked first when it can be (R74). -/
def State.foreignReturn (s : State) (x : Port) (room : Half) : State :=
  let s1 := s.setProbes { s.probes with foreign := sat16 s.probes.foreign }
  if (s1.port x).role = .desk then
    let s2 := if (s1.port x).state.blockable then s1.blockingTrip x .foreign none (some room) else s1
    s2.raise (.foreign x room s2.second)
  else s1

/-- The room id is the retired one and its retire period runs (R70, R83). -/
def State.isRetired (s : State) (room : Half) : Bool :=
  match s.probes.retired with
  | some r => r.room == room
  | none => false

/-- A PROBE record is sorted into an own-room, a retired or a foreign return (R70). -/
def State.takeReturn (s : State) (x : Port) (room : Half) (origin : Byte) (tag : Half) : State :=
  if room = s.profile.roomId then
    match s.matching origin tag with
    | some e => s.matchedReturn e x
    | none => s.unmatchedReturn x origin tag
  else if s.isRetired room then s.setProbes { s.probes with stale := sat16 s.probes.stale }
  else s.foreignReturn x room

/-! ### A change of the room id (R83) -/

/-- The want that a port's state waits on: LINKUP in PRIMING, RECOVER in TESTING (R83 step 3). -/
def State.renewWant (s : State) (p : Port) : State :=
  match (s.port p).state with
  | .priming => s.setWant p .linkup
  | .testing => s.setWant p .recover
  | _ => s

/-- The room id has changed from `old`: every entry is removed and concludes VOID, lower ports first, the window is emptied,
the wants are set again, and the retire period of the old id starts (R83). -/
def State.roomChanged (s : State) (old : Half) : State :=
  let removed := inPortOrder s.probes.list
  let s1 := s.setProbes { s.probes with list := [], recent := [], retired := some { room := old, left := 250 } }
  let s2 := s1.setControl { s1.control with emitQueue := [] }
  let s3 := removed.foldl (fun t e => t.conclude e.origin e.purposes .void none) s2
  allPorts.foldl State.renewWant s3

end Sys2Proof.Machine
end

