-- ==== Sys2Proof/Machine/PanelOps.lean ====
section
/-! DEFINITION. The teacher panel of chapter 8: cells and scan, key filters and counters, key actions, the buzzer. -/

namespace Sys2Proof.Machine

/-! ### Cells and scan (R139 to R143) -/

/-- The automatic value of a red cell (R142). -/
def redValue : PortState → CellValue
  | .limited => .slow
  | .blocked => .on
  | .testing => .on
  | .held => .fast
  | .unguarded => .off
  | .down => .off
  | .priming => .off
  | .opened => .off

/-- The automatic value of a green cell (R142). -/
def greenValue : PortState → CellValue
  | .priming => .fast
  | .opened => .on
  | .limited => .on
  | .testing => .fast
  | .unguarded => .off
  | .down => .off
  | .blocked => .off
  | .held => .off

/-- The automatic value of cell `n`: red indicator of port n below 40, green indicator of port n - 40 from 40 on (R140). -/
def State.autoValue (s : State) (n : Fin 80) : CellValue :=
  if h : n.val < 40 then redValue (s.port ⟨n.val, h⟩).state
  else greenValue (s.port ⟨n.val - 40, by omega⟩).state

/-- The value that a cell shows (R141). -/
def State.cellValue (s : State) (n : Fin 80) : CellValue :=
  if s.panel.cells[n].hostOwned then s.panel.cells[n].value else s.autoValue n

/-- A value is lit at a slot count (R143). -/
def lit (v : CellValue) (slotCount : Word) : Bool :=
  match v with
  | .off => false
  | .on => true
  | .slow => decide (slotCount.toNat % 1000 < 500)
  | .fast => decide (slotCount.toNat % 250 < 125)

/-- Segment `k` of common `c` is driven: cell 10c + k exists and is lit (R139). -/
def State.segmentDriven (s : State) (c k : Nat) : Bool :=
  if h : 10 * c + k < 80 then lit (s.cellValue ⟨10 * c + k, h⟩) s.timer.slotCount else false

/-- The segment lines while common `c` is driven: bit k is SEGk (R139). -/
def State.segments (s : State) (c : Nat) : BitVec 10 :=
  BitVec.ofNat 10 (((List.range 10).map fun k => if s.segmentDriven c k then 2 ^ k else 0).sum)

/-- The scan moves to the next common, and after common d - 1 to common 0, reading the duty at the start of the pass
(R139). -/
def State.scanNext (s : State) : State :=
  let next := s.panel.scan.common + 1
  let wraps : Bool := decide (s.panel.scan.duty ≤ next)
  let common := if wraps then 0 else next
  let duty := if wraps then s.profile.panelDuty else s.panel.scan.duty
  s.setPanel { s.panel with scan := { common := common, duty := duty, segments := s.segments common } }

/-- The mask of the HOST-owned cells (R144). -/
def hostMask (cells : Vector Cell 80) : BitVec 80 :=
  BitVec.ofNat 80 (((List.finRange 80).map fun n : Fin 80 => if cells[n].hostOwned then 2 ^ n.val else 0).sum)

/-- The masked cells lent to the host with a value (R144). -/
def lendCells (mask : BitVec 80) (v : CellValue) (cells : Vector Cell 80) : Vector Cell 80 :=
  Vector.ofFn fun n : Fin 80 => if mask.getLsbD n.val then { hostOwned := true, value := v } else cells[n]

/-- The masked cells returned to automatic display (R145). -/
def returnCells (mask : BitVec 80) (cells : Vector Cell 80) : Vector Cell 80 :=
  Vector.ofFn fun n : Fin 80 => if mask.getLsbD n.val then Cell.auto else cells[n]

/-- The number of masked cells that satisfy a test. -/
def countCells (mask : BitVec 80) (test : Cell → Bool) (cells : Vector Cell 80) : Nat :=
  ((List.finRange 80).filter fun n : Fin 80 => mask.getLsbD n.val && test cells[n]).length

/-! ### Keys (R146, R147, R149, R150) -/

/-- One sample of a key filter: the filter after it, and whether it has an edge at this expiry (R146). -/
def KeyFilter.sample (down : Bool) (f : KeyFilter) : KeyFilter × Bool :=
  if down = f.pressed then ({ f with run := 0 }, false)
  else if 20 ≤ f.run + 1 then ({ pressed := down, run := 0 }, true)
  else ({ f with run := f.run + 1 }, false)

/-- The authorise time in slots (R149). -/
def State.authoriseSlots (s : State) : Nat := s.profile.authoriseTime * 1000

/-- The counters of the keys after the filters of this expiry have been updated: the press counter goes up while REL stays
PRESSED after its press, the combination counter and mark while both keys are PRESSED, and the done mark clears when both
are RELEASED (R149, R150). -/
def Panel.countKeys (relEdge : Bool) (p : Panel) : Panel :=
  let both := p.rel.pressed && p.sil.pressed
  { p with
    pressCounter := if p.rel.pressed && !relEdge then min (p.pressCounter + 1) 8000 else p.pressCounter
    comboCounter := if both then min (p.comboCounter + 1) 8000 else 0
    comboMark := if both then true else p.comboMark
    doneMark := if !p.rel.pressed && !p.sil.pressed then false else p.doneMark }

/-- The event of a SIL edge. -/
def silEdgeEvent (edge pressed : Bool) : List Event :=
  if edge then (if pressed then [.silPress] else [.silRelease]) else []

/-- The event of a REL edge. -/
def relEdgeEvent (edge pressed : Bool) : List Event :=
  if edge then (if pressed then [.relPress] else [.relRelease]) else []

/-- The slot work of the keys: both filters sampled, their edges fallen due, then the counters counted, the two-key release
falling due when the combination has reached the authorise time with the done mark clear (R147, R150). -/
def State.countKeys (s : State) (lines : SlotLines) : State :=
  let rel := s.panel.rel.sample lines.relDown
  let sil := s.panel.sil.sample lines.silDown
  let p := ({ s.panel with rel := rel.1, sil := sil.1 } : Panel).countKeys rel.2
  let combo : Bool := p.rel.pressed && p.sil.pressed && decide (s.authoriseSlots ≤ p.comboCounter) && !p.doneMark
  (s.setPanel p).setDue
    (s.due ++ silEdgeEvent sil.2 p.sil.pressed ++ relEdgeEvent rel.2 p.rel.pressed ++ (if combo then [.twoKey] else []))

/-- A key press sets KEY (R146). -/
def State.flagKey (s : State) : State := s.setMgmt s.mgmt.flagKey

/-- A PANEL notice (R148 to R150). -/
def State.raisePanel (s : State) (a : PanelAction) : State := s.raise (.panel a s.second)

/-- The buzzer stopped. -/
def State.stopBuzzer (s : State) : State := s.setPanel { s.panel with buzzer := none }

/-- A SIL press: KEY, the buzzer stopped, PANEL SILENCE with whether it was sounding (R148). -/
def State.takeSilPress (s : State) : State :=
  s.flagKey.stopBuzzer.raisePanel (.silence s.panel.buzzer.isSome)

/-- A REL press: KEY, the press counter 0, the combination mark cleared. Taken after this expiry's counters, it leaves the
mark that R149 sets at an expiry at which the combination counter went up (log 19). -/
def State.takeRelPress (s : State) : State :=
  s.flagKey.setPanel { s.panel with pressCounter := 0, comboMark := decide (0 < s.panel.comboCounter) }

/-- The head of the trip list is released by a short press, when it is BLOCKED or HELD (R149). -/
def State.releaseHead (s : State) : State :=
  match s.trips with
  | t :: _ =>
    if (s.port t.port).state.releasable then (s.release t.port).raisePanel (.release (some t.port))
    else s.raisePanel (.release none)
  | [] => s.raisePanel (.release none)

/-- A REL release (R149, R151). -/
def State.takeRelRelease (s : State) : State :=
  if s.profile.keyMode = .silenceOnly ∨ s.panel.comboMark = true ∨ s.authoriseSlots ≤ s.panel.pressCounter then s
  else s.releaseHead

/-- The combination has reached the authorise time: the done mark is set, and in FULL mode the room is released and PANEL
ROOM_RELEASE raised (R150, R151). -/
def State.takeTwoKey (s : State) : State :=
  if s.panel.doneMark = false ∧ s.authoriseSlots ≤ s.panel.comboCounter then
    let s1 := s.setPanel { s.panel with doneMark := true }
    match s.profile.keyMode with
    | .full => s1.roomRelease.raisePanel (.roomRelease s1.releasablePorts.length)
    | .silenceOnly => s1
  else s

/-! ### The buzzer (R152) -/

/-- The slot work of the buzzer: a SOUNDING one is counted, and its expiry falls due at remaining time 0. -/
def State.countBuzzer (s : State) : State :=
  match s.panel.buzzer with
  | some b =>
    let b1 : Buzzer := { remaining := b.remaining - 1, elapsed := b.elapsed + 1 }
    let s1 := s.setPanel { s.panel with buzzer := some b1 }
    if b1.remaining = 0 then s1.setDue (s1.due ++ [.buzzer]) else s1
  | none => s

/-- The buzzer's time has run out: a SOUNDING buzzer with no time left goes OFF, one restarted meanwhile goes on (R152,
R154). -/
def State.takeBuzzerExpiry (s : State) : State :=
  match s.panel.buzzer with
  | some b => if b.remaining = 0 then s.stopBuzzer else s
  | none => s

/-- The BUZ pin: high while SOUNDING and the elapsed count mod 500 is below 250 (R152, log 12). -/
def State.buzHigh (s : State) : Bool :=
  match s.panel.buzzer with
  | some b => decide (b.elapsed % 500 < 250)
  | none => false

end Sys2Proof.Machine
end

