-- ==== Sys2Proof/Machine/ExpiryOps.lean ====
section
/-! DEFINITION. The work of a slot expiry and of a second expiry, block by block (chapter 1 and the slot and second rules of
every chapter), and the events that they bring about. -/

namespace Sys2Proof.Machine

/-- An event falls due (log 3). -/
def State.pushDue (s : State) (e : Event) : State := s.setDue (s.due ++ [e])

/-! ### Counting at a slot expiry -/

/-- The slot count goes up by one and so does the position; at position 1000 a second expiry falls due (R1, R2). -/
def State.advanceTimer (s : State) : State :=
  let position := s.timer.position + 1
  let s1 := s.setTimer { s.timer with slotCount := s.timer.slotCount + 1, position := position, first := false }
  if 1000 ≤ position then s1.pushDue .second else s1

/-- The control transmitter's new slot: a budget of 16, a waiting SLOT mark, and a refresh to come (R15, R16). -/
def State.openSlot (s : State) : State :=
  s.setControl { s.control with budget := 16, markWaiting := true, refreshed := false }

/-- The hunt-slot counter counts a slot spent in HUNT; FABRIC_LOST falls due when it reaches 16 in an unreported episode
(R10). -/
def State.countHunt (s : State) : State :=
  if s.receiver.synced then s
  else
    let n := sat16 s.receiver.huntSlots
    let s1 := s.setReceiver { s.receiver with huntSlots := n }
    if n = 16 ∧ s.receiver.reported = false then s1.pushDue .fabricLost else s1

/-- The retire period counts a slot expiry (R83). -/
def State.countRetire (s : State) : State :=
  match s.probes.retired with
  | some r =>
    let s1 := s.setProbes { s.probes with retired := some { r with left := r.left - 1 } }
    if r.left - 1 = 0 then s1.pushDue .retireEnd else s1
  | none => s

/-- The pacing counter of a sweep that is still taking ports counts a slot expiry (R123). -/
def State.countPacing (s : State) : State :=
  match s.sweep.record with
  | some r =>
    if r.next ≤ r.last.val then
      let s1 := s.setSweep { s.sweep with record := some { r with pacing := r.pacing - 1 } }
      if r.pacing - 1 = 0 then s1.pushDue .sweepTake else s1
    else s
  | none => s

/-- The frame age of a frame in progress goes up by one (R157). -/
def State.countFrameAge (s : State) : State :=
  match s.mgmt.receiver with
  | .inFrame bytes age =>
    let s1 := s.setMgmt { s.mgmt with receiver := .inFrame bytes (age + 1) }
    if 20 ≤ age + 1 then s1.pushDue .frameTimeout else s1
  | _ => s

/-- The break counter counts a slot with ML_RXD low throughout, and not in BREAK_WAIT (R163). -/
def State.countBreak (s : State) (rxLow : Bool) : State :=
  if s.mgmt.receiver = .breakWait then s
  else
    let n := if rxLow then s.mgmt.breakCount + 1 else 0
    let s1 := s.setMgmt { s.mgmt with breakCount := n }
    if 5 ≤ n then s1.pushDue .linkBreak else s1

/-- Everything that a slot expiry counts, in every block. -/
def State.countSlot (s : State) (lines : SlotLines) : State :=
  let s1 := s.advanceTimer.openSlot.countHunt.countProbes.countRetire.countPacing
  ((s1.countKeys lines).countBuzzer.countFrameAge).countBreak lines.rxLow

/-! ### Tallies, meter steps, reports and baselines (R13, R14, R23 to R37) -/

/-- Grace as it stands after the grace timer has been counted at this expiry, whether its second expiry has been taken yet
or not (R30, R36, log 20). -/
def State.graceAtExpiry (s : State) : Bool :=
  if .second ∈ s.due then decide (1 < s.grace) else decide (0 < s.grace)

/-- The tally consumption of a guarded port, its effect on the records-lost counter and TALLY_HELD (R13, R14). -/
def State.applyTally (s : State) (p : Port) (u : TallyUse) : State :=
  let s1 := s.setTally p u.tally
  let s2 := if u.late then s1.setMgmt s1.mgmt.countLost else s1
  if u.held then s2.setMgmt s2.mgmt.flagTallyHeld else s2

/-- The meter steps of a port's three classes (R23). -/
def State.stepMeters (s : State) (p : Port) (counts : PerClass Nat) : State :=
  s.setPortMeters p (PerClass.build fun k =>
    let c := s.profile.meters.get k
    ((s.portMeters p).get k).step c (c.thresholds (s.port p).role) (counts.get k))

/-- The step report of a port after its meter steps (R30). -/
def State.makeReport (s : State) (p : Port) (held : Bool) : StepReport :=
  { classes := (s.portMeters p).map (Meter.report s.profile.confirmCount), held := held, grace := s.graceAtExpiry }

/-- The baseline steps of a port at a 64th expiry: only of a port that is OPEN when its report is made, and not under grace
(R36). -/
def State.stepBaselines (s : State) (p : Port) : State :=
  if (s.port p).state = .opened ∧ s.graceAtExpiry = false then
    s.setPortMeters p (PerClass.build fun k =>
      let c := s.profile.meters.get k
      ((s.portMeters p).get k).baselineStep c (c.thresholds (s.port p).role))
  else s

/-- The Array's slot work for one port, for the slot numbered `slot`: the pending tally consumed, the meters stepped, the
step report made and kept as the port's latest, and the baseline steps when this is a 64th expiry (R13, R23, R30, R35,
R36). -/
def State.stepPort (slot : Byte) (baseline : Bool) (s : State) (p : Port) : State :=
  if s.guarded p then
    let u := (s.tally p).consume slot
    let s1 := (s.applyTally p u).stepMeters p u.counts
    let s2 := s1.setReport p (some (s1.makeReport p u.held))
    if baseline then s2.stepBaselines p else s2
  else s.setTally p PortTally.start

/-- The Array's slot work for every port, at the expiry that has just advanced the slot count, with baseline steps when the
slot closed is 63 mod 64 (R13, R36). -/
def State.stepPorts (s : State) : State :=
  let closed := s.timer.slotCount - 1
  allPorts.foldl (State.stepPort ((closed - 1).setWidth 8) (closed.toNat % 64 == 63)) s

/-- The step report that a port hands over: its latest one, while it is guarded (R30). -/
def State.handed (s : State) (p : Port) : Option StepReport := if s.guarded p then s.report p else none

/-- The step report of a port is handed over and acted on (R30). -/
def State.handReport (s : State) (p : Port) : State :=
  match s.handed p with
  | some r => s.actOnReport p r
  | none => s

/-- The ports above a port, in ascending order. -/
def portsAbove (p : Port) : List Port := allPorts.filter fun q => decide (p < q)

/-- The step reports of the named ports are handed over one after the other up to the first port that reaches its calm
hold, whose reopening falls due with the reports behind it (R30, R95, log 4). -/
def State.handUntilCalm (s : State) : List Port → State
  | [] => s
  | p :: rest =>
    match s.handed p with
    | some r =>
      let s1 := s.judgeReport p r
      if (s.port p).state = .limited ∧ s1.calmReached p = true then (s1.pushDue (.calmHold p)).pushDue (.reports p)
      else s1.handUntilCalm rest
    | none => s.handUntilCalm rest

/-- The Array's slot work and the step reports of every port in ascending order; none at the expiry closing the slot 0
after a reset (R13, R30). -/
def State.meterWork (s : State) (firstSlot : Bool) : State :=
  if firstSlot then s else allPorts.foldl State.handReport s.stepPorts

/-! ### The second expiry (R2) -/

/-- The grace timer, when above 0, goes down by one; its end falls due at 0 (R41). -/
def State.countGrace (s : State) : State :=
  if s.grace = 0 then s
  else
    let s1 := s.setGrace (s.grace - 1)
    if s.grace - 1 = 0 then s1.pushDue .grace else s1

/-- A BLOCKED port's hold-off goes down by one, its end falling due at 0; an OPEN port's decay counter goes up by one, a
strike decay falling due at the decay period (R101, R104). -/
def State.countPortSecond (s : State) (p : Port) : State :=
  let r := s.port p
  match r.state with
  | .blocked =>
    let s1 := s.setPort p { r with holdOff := r.holdOff - 1 }
    if r.holdOff - 1 = 0 then s1.pushDue (.holdOff p) else s1
  | .opened =>
    let s1 := s.setPort p { r with decay := r.decay + 1 }
    if s.profile.decayPeriod * 60 ≤ r.decay + 1 then s1.pushDue (.strikeDecay p) else s1
  | _ => s

/-- The automatic sweep timer, when above 0, goes down by one; its expiry falls due at 0 (R121). -/
def State.countAutoSweep (s : State) : State :=
  if s.sweep.timer = 0 then s
  else
    let s1 := s.setSweep { s.sweep with timer := s.sweep.timer - 1 }
    if s.sweep.timer - 1 = 0 then s1.pushDue .autoSweep else s1

/-- The prune and the ageing of the Station Table (R55, R56). -/
def State.countStations (s : State) : State :=
  s.setStations (ageStations s.stamp s.second s.profile.stationAge s.stations)

/-- The second expiry: the position returns to 0, the second count goes up, and every block does its second work (R2). -/
def State.takeSecond (s : State) : State :=
  let s1 := s.setTimer { s.timer with secondCount := s.timer.secondCount + 1, position := 0 }
  (allPorts.foldl State.countPortSecond s1.countGrace.countStations).countAutoSweep

/-! ### The events -/

/-- FABRIC_LOST is raised once for the HUNT episode (R10). -/
def State.takeFabricLost (s : State) : State :=
  if s.receiver.synced = false ∧ s.receiver.reported = false ∧ 16 ≤ s.receiver.huntSlots then
    (s.setReceiver { s.receiver with reported := true }).raise (.fabricLost s.second)
  else s

/-- The retire period ends (R83). -/
def State.takeRetireEnd (s : State) : State :=
  match s.probes.retired with
  | some r => if r.left = 0 then s.setProbes { s.probes with retired := none } else s
  | none => s

/-- A BLOCKED port's hold-off has reached 0: TESTING, with a RECOVER want (R101). -/
def State.takeHoldOff (s : State) (p : Port) : State :=
  if (s.port p).state = .blocked ∧ (s.port p).holdOff = 0 then (s.enter p .testing).setWant p .recover else s

/-- An OPEN port's decay counter has reached the decay period: one strike decays, and the counter becomes 0 (R104). -/
def State.takeStrikeDecay (s : State) (p : Port) : State :=
  if (s.port p).state = .opened ∧ s.profile.decayPeriod * 60 ≤ (s.port p).decay then
    s.setPort p { s.port p with strikes := (s.port p).strikes - 1, decay := 0 }
  else s

/-- Grace has ended: GRACE_END with reason EXPIRED (R41). -/
def State.takeGraceEnd (s : State) : State := s.raise (.graceEnd true s.second)

/-- The automatic sweep timer has expired: an AUTO sweep over the room starts when none is in progress, and the timer is
loaded with the sweep period (R121). -/
def State.takeAutoSweep (s : State) : State :=
  let s1 := match s.sweep.record with
    | none => s.startSweep none 0 39
    | some _ => s
  s1.setSweep { s1.sweep with timer := s1.profile.sweepPeriod }

/-- The pacing counter has reached 0 and the sweep takes its next port (R123). -/
def State.takeSweepTake (s : State) : State :=
  match s.sweep.record with
  | some r => if r.pacing = 0 then s.takeSweepPort else s
  | none => s

/-- A frame whose age has reached 20 is discarded as a request error (R157). -/
def State.takeFrameTimeout (s : State) : State :=
  match s.mgmt.receiver with
  | .inFrame _ age => if 20 ≤ age then s.setMgmt s.mgmt.requestError else s
  | _ => s

/-- The break counter has reached 5 and the management link break is taken (R163, R164). -/
def State.takeLinkBreak (s : State) : State :=
  if s.mgmt.receiver ≠ .breakWait ∧ 5 ≤ s.mgmt.breakCount then s.setMgmt s.mgmt.broken else s

/-- The effect of one event. -/
def State.takeEvent (s : State) : Event → State
  | .second => s.takeSecond
  | .fabricLost => s.takeFabricLost
  | .calmHold p => s.takeCalmHold p
  | .probeExpired o => s.takeProbeExpiry o
  | .retireEnd => s.takeRetireEnd
  | .holdOff p => s.takeHoldOff p
  | .strikeDecay p => s.takeStrikeDecay p
  | .grace => s.takeGraceEnd
  | .autoSweep => s.takeAutoSweep
  | .sweepTake => s.takeSweepTake
  | .silPress => s.takeSilPress
  | .relPress => s.takeRelPress
  | .relRelease => s.takeRelRelease
  | .silRelease => s
  | .twoKey => s.takeTwoKey
  | .buzzer => s.takeBuzzerExpiry
  | .frameTimeout => s.takeFrameTimeout
  | .linkBreak => s.takeLinkBreak
  | .reports p => (portsAbove p).foldl State.handReport s
  | .admission => s.admitWants

/-- One event leaves the due list and is taken. -/
def State.takeDue (s : State) (e : Event) : State :=
  if e ∈ s.due then (s.setDue (s.due.erase e)).takeEvent e else s

/-- The event belongs to the step reports of the expiry: a reopening, or the reports that wait behind one. -/
def Event.ofReports : Event → Bool
  | .calmHold _ => true
  | .reports _ => true
  | _ => false

/-- The step reports of the expiry are handed over to the last: a reopening left due is taken, then the reports that wait
behind it are handed over and acted on (R30, log 4). -/
def State.finishReports (s : State) : State := (s.due.filter Event.ofReports).foldl State.takeDue s

/-- An event that is due is taken once all step reports have been acted on, so that it finds every meter step of the expiry
with its report (R97, R104, log 4). -/
def State.takeAfterReports (s : State) (e : Event) : State := if e ∈ s.due then s.finishReports.takeDue e else s

/-- The expiry is closed: the step reports are finished, the second expiry is taken, so that what it brings about is taken
too, then the other events in the order in which they fell due, and last the admission (log 3). No event but the second
expiry brings about another. -/
def State.close (s : State) : State :=
  let s1 := s.finishReports.takeDue .second
  let s2 := (s1.due.filter fun e => e != .second && e != .admission).foldl State.takeEvent (s1.setDue [])
  if .admission ∈ s1.due then s2.admitWants else s2

/-- The event is the end of a probe entry. -/
def Event.endsProbe : Event → Bool
  | .probeExpired _ => true
  | _ => false

/-- The entry that ends next is the reached entry of the origin port: the ends that are due are taken in ascending order of
origin port (R69). -/
def State.endedEntry (s : State) (o : Port) : Option ProbeEntry :=
  if s.due.find? Event.endsProbe = some (.probeExpired o) then s.reachedEntry o else none

/-- The event is the reopening of a LIMITED port. -/
def Event.reopens : Event → Bool
  | .calmHold _ => true
  | _ => false

/-- The port behind which step reports still wait. -/
def Event.reportsAfter : Event → Option Port
  | .reports p => some p
  | _ => none

/-- The step reports that wait behind a reopening already taken are handed over, up to the next port that reaches its calm
hold (R30, log 4). -/
def State.resumeReports (s : State) : State :=
  match s.due.findSome? Event.reportsAfter with
  | some p => if s.due.any Event.reopens then s else (s.setDue (s.due.erase (.reports p))).handUntilCalm (portsAbove p)
  | none => s

/-- The reopening of a port at its calm hold: it is due, or falls due when the reports that wait are handed over (R30,
R95, log 4). -/
def State.takeReopening (s : State) (p : Port) : State :=
  if .calmHold p ∈ s.due then s.takeDue (.calmHold p)
  else if .calmHold p ∈ s.resumeReports.due then s.resumeReports.takeDue (.calmHold p)
  else s

/-! ### The slot expiry (R1) -/

/-- The events are taken when their place is the given one. -/
def State.eventsAt (s : State) (order : ExpiryOrder) (place : EventPlace) : State :=
  if order.events = place then s.close else s

/-- The ends of probe entries that are still due are taken, in the order in which they fell due (R69). -/
def State.takeEnded (s : State) : State := (s.due.filter Event.endsProbe).foldl State.takeDue s

/-- The admission, after the ends of the reached entries (R66, R69). -/
def State.admission (s : State) : State := s.takeEnded.admitWants

/-- The step reports and the admission in the order of the command, with the events in their place (R1, R67, R97). -/
def State.slotWorks (s : State) (firstSlot : Bool) (order : ExpiryOrder) : State :=
  let s1 := s.eventsAt order .before
  let s2 := if order.admitFirst then s1.admission else s1.meterWork firstSlot
  let s3 := s2.eventsAt order .between
  if order.admitFirst then s3.meterWork firstSlot else s3.admission

/-- The works of an expiry whose events are left to their own rows: the step reports up to the first reopening, and the
admission, which comes after the ends of the reached entries and is left due behind them (R30, R66, log 3). -/
def State.leaveWorks (s : State) (firstSlot : Bool) : State :=
  (if firstSlot then s else s.stepPorts.handUntilCalm allPorts).pushDue .admission

/-- A slot expiry: the expiry before it is closed, every block counts the slot, the works are done in the command's order,
and the expiry is closed, unless the command leaves its events to their own rows (R1, log 3). -/
def State.slotExpiry (s : State) (lines : SlotLines) (order : ExpiryOrder) : State :=
  let s0 := s.close
  let s1 := s0.countSlot lines
  if order.events = .ownRows then s1.leaveWorks s0.timer.first
  else (s1.slotWorks s0.timer.first order).close

end Sys2Proof.Machine
end

