-- ==== Sys2Proof/Machine/FabricOps.lean ====
section
/-! DEFINITION. The fabric link of chapter 1: receiving and dispatching sighting records, and granting the control lane. -/

namespace Sys2Proof.Machine

/-! ### The sighting receiver (R4 to R8) -/

/-- A sighting record is lost and counted (R11). -/
def State.loseRecord (s : State) : State := s.setMgmt s.mgmt.countLost

/-- A record offered to the sighting FIFO: it joins at the tail while fewer than 64 are held, else it is an overrun (R8). -/
def State.offerRecord (s : State) (r : SightingRecord) : State :=
  if s.receiver.fifo.length < 64 then s.setReceiver { s.receiver with fifo := s.receiver.fifo ++ [r] }
  else s.setMgmt s.mgmt.flagOverrun

/-- The passage from SYNCED to HUNT on a failed check: HUNTED, and the record counted lost (R5). -/
def State.enterHunt (s : State) : State :=
  (s.setReceiver { s.receiver with synced := false }).setMgmt s.mgmt.flagHunted

/-- The return to SYNCED: FABRIC_BACK when the episode was reported, then the counter and the mark cleared (R6, R10). -/
def State.resync (s : State) : State :=
  let s1 := s.setReceiver { s.receiver with synced := true, huntSlots := 0, reported := false }
  if s.receiver.reported then s1.raise (.fabricBack s.receiver.huntSlots s.second) else s1

/-- A record whose check passed (R5, R6, R7). -/
def State.takeGoodRecord (s : State) (r : ParsedRecord) : State :=
  if s.receiver.synced then
    match r with
    | .fill => s
    | .good g => s.offerRecord g
    | .bad => s.loseRecord
  else
    match r with
    | .fill => s.resync
    | .good _ => s.loseRecord
    | .bad => s.loseRecord

/-- A record framed by SL_FRM is checked and treated by the receiver state (R4 to R7). -/
def State.receiveRecord (s : State) (bytes : List Byte) (extraBits : Nat) : State :=
  if checkPasses bytes extraBits then s.takeGoodRecord (parseRecord bytes)
  else if s.receiver.synced then s.enterHunt
  else s.loseRecord

/-! ### The dispatcher (R9) -/

/-- The FIFO without its head. -/
def State.popFifo (s : State) (rest : List SightingRecord) : State := s.setReceiver { s.receiver with fifo := rest }

/-- A TALLY at the head overwrites the pending tally of its port (R12). -/
def State.dispatchTally (s : State) : State :=
  match s.receiver.fifo with
  | .tally p slot counts :: rest =>
    (s.popFifo rest).setTally p { s.tally p with pending := some { slot := slot, counts := counts } }
  | _ => s

/-- A SAMPLE at the head goes to the Station Table (R49). -/
def State.dispatchSample (s : State) : State :=
  match s.receiver.fifo with
  | .sample p a :: rest => (s.popFifo rest).learn p a
  | _ => s

/-- A PROBE at the head goes to the Probe Engine (R70). -/
def State.dispatchProbe (s : State) : State :=
  match s.receiver.fifo with
  | .probe x room o tag :: rest => (s.popFifo rest).takeReturn x room o tag
  | _ => s

/-- A LINK at the head goes to the Port Controller (R90). -/
def State.dispatchLink (s : State) : State :=
  match s.receiver.fifo with
  | .link p up :: rest => (s.popFifo rest).takeLink p up
  | _ => s

/-! ### The control lane (R15 to R19) -/

/-- A record is granted the lane and uses one unit of the budget (R15). -/
def State.grant (s : State) (r : ControlRecord) : State :=
  s.setControl { s.control with budget := s.control.budget - 1, lane := some r }

/-- The SLOT mark may be granted: it waits, and the budget is above 0 (R15). -/
def State.markGrantable (s : State) : Bool := s.control.markWaiting && decide (0 < s.control.budget)

/-- Another record may be granted: the slot's SLOT mark has been sent, and the budget is above 0 (R15, R16). -/
def State.laneOpen (s : State) : Bool := !s.control.markWaiting && decide (0 < s.control.budget)

/-- The lowest-numbered port with a pending GATE change (R16). -/
def State.firstGate (s : State) : Option Port := allPorts.find? fun p => s.control.pendingGate[p].isSome

/-- The SLOT mark, carrying the slot number, is granted (R15). -/
def State.grantMark (s : State) : State :=
  if s.markGrantable then
    let s1 := s.grant (.slotMark s.slotNumber)
    s1.setControl { s1.control with markWaiting := false }
  else s

/-- The pending GATE change of the lowest port is granted with the port's gate at the grant, and stops being pending
(R16, R17). -/
def State.grantGate (s : State) : State :=
  if s.laneOpen then
    match s.firstGate with
    | some p =>
      let s1 := s.grant (.gate p (s.gate p))
      s1.setControl { s1.control with pendingGate := s1.control.pendingGate.set p none }
    | none => s
  else s

/-- The EMIT order at the head of the queue is granted when no GATE change is pending, and its entry becomes SENT (R16,
R18, R68). -/
def State.grantEmit (s : State) : State :=
  if s.laneOpen && s.firstGate.isNone then
    match s.control.emitQueue with
    | o :: rest =>
      let s1 := s.grant (.emit o)
      (s1.setControl { s1.control with emitQueue := rest }).markSent o.tag
    | [] => s
  else s

/-- The refresh is granted once a slot, when no GATE change and no EMIT order waits: the gate of the port at the pointer, and
the pointer advances (R16, R19). -/
def State.grantRefresh (s : State) : State :=
  if s.laneOpen && s.firstGate.isNone && s.control.emitQueue.isEmpty && !s.control.refreshed then
    let s1 := s.grant (.gate s.control.refreshPtr (s.gate s.control.refreshPtr))
    s1.setControl { s1.control with refreshPtr := s1.control.refreshPtr + 1, refreshed := true }
  else s

end Sys2Proof.Machine
end

