-- ==== Sys2Proof/Machine/RequestOps.lean ====
section
/-! DEFINITION. The effect of every request and the body of its reply, status byte first (R159, R160, section 12.3), and the
taking of a request from the queue (R158). -/

namespace Sys2Proof.Machine

/-- What a request answers: the state after its effect, and the body of its reply. -/
abbrev Answer := State × List Byte

/-- A request that changes nothing and is answered by a status byte alone (R160, R183). -/
def State.refuse (s : State) (status : Byte) : Answer := (s, [status])

/-! ### STATUS (R166) -/

/-- The STATUS reply after its status byte. -/
def State.statusBody (s : State) : List Byte :=
  halfBytes Config.partCode ++ [Config.revision] ++ halfBytes s.profile.roomId ++ wordBytes s.timer.slotCount ++
    wordBytes s.second ++ [boolByte s.mgmt.talking, boolByte s.receiver.synced, natByte s.grace, flagsByte s.mgmt.flags] ++
    natBytes s.mgmt.lost ++ natBytes s.mgmt.discarded ++ natBytes s.mgmt.dropped

/-- STATUS: option 0 NO_CLEAR, 1 CLEAR; the flags are cleared after they have been written into the reply. -/
def State.reqStatus (s : State) (option : Byte) : Answer :=
  if option = 0 then (s, stOk :: s.statusBody)
  else if option = 1 then (s.setMgmt s.mgmt.clearFlags, stOk :: s.statusBody)
  else s.refuse stBadValue

/-! ### PROFILE GET and PROFILE SET (R175 to R177) -/

/-- The profile block of the replies (section 12.4). -/
def State.profileBytes (s : State) : List Byte :=
  let p := s.profile
  halfBytes p.roomId ++ [natByte p.probeTimeout] ++ natBytes p.sweepPeriod ++
    [natByte p.sweepSpacing, natByte p.holdOffBase, natByte p.strikeLimit, natByte p.decayPeriod] ++
    natBytes p.calmHold ++ [natByte p.confirmCount] ++ natBytes p.flapWindow ++ [natByte p.flapLimit] ++
    natBytes p.stationAge ++
    [natByte p.panelDuty, natByte p.buzzTime, natByte p.authoriseTime, keyModeCode p.keyMode] ++
    allPorts.map fun q => roleCode (s.port q).role

/-- PROFILE GET. -/
def State.reqProfileGet (s : State) : Answer := (s, stOk :: s.profileBytes)

/-- Step 1 of R177 for one port: a role that differs from the role in force restarts the port. -/
def State.applyRole (roles : Vector Role 40) (s : State) (p : Port) : State :=
  if (s.port p).role = roles[p] then s else s.changeRole p roles[p]

/-- Step 2 of R177: strikes above the strike limit are set to it (R105). -/
def State.lowerStrikes (s : State) : State :=
  s.setPorts (Vector.ofFn fun p : Port => { s.port p with strikes := min (s.port p).strikes s.profile.strikeLimit })

/-- The effects of a taken PROFILE SET, in the order of R177. -/
def State.applyProfile (s : State) (new : Profile) (roles : Vector Role 40) : State :=
  let old := s.profile
  let s1 := allPorts.foldl (State.applyRole roles) (s.setProfile new)
  let s2 := if new.strikeLimit < old.strikeLimit then s1.lowerStrikes else s1
  let s3 := if new.roomId = old.roomId then s2 else s2.roomChanged old.roomId
  let s4 := if new.sweepPeriod = old.sweepPeriod then s3 else s3.setSweep { s3.sweep with timer := new.sweepPeriod }
  if new.buzzTime = 0 then s4.stopBuzzer else s4

/-- PROFILE SET: judged as a whole, clamped field by field, then applied (R176). -/
def State.reqProfileSet (s : State) (b : ProfileBlock) : Answer :=
  match keyModeOf b.keyMode, rolesOf b with
  | some mode, some roles =>
    let new := takeProfile b mode s.profile.meters
    let s1 := s.applyProfile new roles
    (s1, clampStatus (new != sentProfile b mode s.profile.meters) :: s1.profileBytes)
  | _, _ => (s, stBadValue :: s.profileBytes)

/-! ### METER GET, METER SET, BASELINE SET, GRACE (R39 to R45) -/

/-- One threshold set of a meter block (section 12.4). -/
def thresholdBytes (t : Thresholds) : List Byte := intBytes t.limit ++ intBytes t.block ++ intBytes t.calm ++ intBytes t.ceil

/-- The meter block of a class (section 12.4). -/
def State.meterBytes (s : State) (k : TrafficClass) : List Byte :=
  let c := s.profile.meters.get k
  [classCode k, natByte c.window, shapeCode c.shape, natByte c.shift] ++ thresholdBytes c.desk ++ thresholdBytes c.trunk

/-- METER GET (R45). -/
def State.reqMeterGet (s : State) (cls : Byte) : Answer :=
  match classOf cls with
  | some k => (s, stOk :: s.meterBytes k)
  | none => s.refuse stBadValue

/-- The meter of one class restarted under a new setup: the baseline of a guarded port is clamped to the new ceiling (R44). -/
def meterAfterSet (c : ClassSetup) (role : Role) (m : Meter) : Meter :=
  match role with
  | .off => m.restart c
  | .desk => (m.restart c).clampBase c.desk.ceil
  | .trunk => (m.restart c).clampBase c.trunk.ceil

/-- A taken METER SET: the class's setup replaced, and its meter restarted on every port (R44). -/
def State.applyMeterSet (s : State) (k : TrafficClass) (c : ClassSetup) : State :=
  (s.setProfile { s.profile with meters := s.profile.meters.set k c }).setMeters
    (Vector.ofFn fun p : Port =>
      (s.portMeters p).set k (meterAfterSet c (s.port p).role ((s.portMeters p).get k)))

/-- METER SET (R42, R43). -/
def State.reqMeterSet (s : State) (b : MeterBlock) : Answer :=
  match classOf b.cls with
  | none => s.refuse stBadValue
  | some k =>
    match windowOf b.window, shapeOf b.shape with
    | some w, some shape =>
      let shift := clampNat 1 8 b.shift.toNat
      let s1 := s.applyMeterSet k
        { window := w, shape := shape, shift := shift, desk := takeThresholds b.desk, trunk := takeThresholds b.trunk }
      let clamped := shift != b.shift.toNat || thresholdsClamped b.desk || thresholdsClamped b.trunk
      (s1, clampStatus clamped :: s1.meterBytes k)
    | _, _ => (s, stBadValue :: s.meterBytes k)

/-- The ceiling of a port's meter of a class (R22). -/
def State.ceiling (s : State) (p : Port) (k : TrafficClass) : Int :=
  ((s.profile.meters.get k).thresholds (s.port p).role).ceil

/-- The baselines of the named classes of the named guarded ports set to a value, clamped to their ceilings (R39). -/
def State.seedBaselines (s : State) (ports : List Port) (classes : List TrafficClass) (value : Nat) : State :=
  ports.foldl (fun t p => classes.foldl (fun u k =>
    u.setPortMeters p ((u.portMeters p).set k
      (((u.portMeters p).get k).withBase (min value (u.ceiling p k).toNat)))) t) s

/-- The value of BASELINE SET is above the ceiling of a named meter (R39). -/
def State.seedClamped (s : State) (ports : List Port) (classes : List TrafficClass) (value : Nat) : Bool :=
  ports.any fun p => classes.any fun k => decide ((s.ceiling p k).toNat < value)

/-- The ports that a request names by a number or by 0xFF for every port. -/
def portsOf (b : Byte) : Option (List Port) :=
  if b = 0xFF then some allPorts else (portOf b).map fun p => [p]

/-- BASELINE SET (R39). -/
def State.reqBaselineSet (s : State) (port cls : Byte) (value : Half) : Answer :=
  match portsOf port, classesOf cls with
  | none, _ => s.refuse stBadPort
  | some _, none => s.refuse stBadValue
  | some ports, some classes =>
    let guarded := ports.filter s.guarded
    if guarded = [] ∧ port ≠ 0xFF then s.refuse stWrongState
    else
      (s.seedBaselines guarded classes value.toNat,
        [clampStatus (s.seedClamped guarded classes value.toNat), natByte (guarded.length * classes.length)])

/-- GRACE (R40). -/
def State.reqGrace (s : State) (duration : Half) : Answer :=
  let d := duration.toNat
  if d = 0 then
    if 0 < s.grace then ((s.setGrace 0).raise (.graceEnd false s.second), [stOk, 0]) else (s, [stOk, 0])
  else if d ≤ 120 then (s.setGrace d, [stOk, natByte d])
  else (s.setGrace 120, [stClamped, 120])

/-! ### PORT GET (R115, R46, R84) -/

/-- The trip-list position of a port: 1 at the head, 0 when absent (R86, R111). -/
def tripPosition (p : Port) (l : List TripItem) : Nat :=
  match l.findIdx? fun t => t.port == p with
  | some i => i + 1
  | none => 0

/-- The cause and partner of a port's item, or none and absent (R115). -/
def tripItemBytes (p : Port) (l : List TripItem) : List Byte :=
  match l.find? fun t => t.port == p with
  | some t => [causeCode t.cause, partnerByte t.partner]
  | none => [0, 0xFF]

/-- The port section of PORT GET, offsets 1 to 16. -/
def State.portSection (s : State) (p : Port) : List Byte :=
  let r := s.port p
  [portByte p, roleCode r.role, stateCode r.state, boolByte r.linkUp, gateCode (s.gate p), natByte r.strikes] ++
    natBytes r.holdOff ++ natBytes r.calm ++ natBytes r.decay ++
    [linkupCode r.linkup, natByte (tripPosition p s.trips)] ++ tripItemBytes p s.trips

/-- One class of the meter section (R46). -/
def meterReadBytes (m : Meter) : List Byte :=
  natBytes m.level ++ natBytes m.base ++ intBytes m.excess ++ [natByte m.stormRun, natByte m.severeRun, natByte m.priming]

/-- The meter section of PORT GET, offsets 17 to 43. -/
def State.meterSection (s : State) (p : Port) : List Byte :=
  let m := s.portMeters p
  meterReadBytes m.bcast ++ meterReadBytes m.mcast ++ meterReadBytes m.flood

/-- The port's entry as PORT GET carries it: state, tag, purposes, host tag, sweep number, slots to expiry. -/
def entryBytes (now : Half) (e : Option ProbeEntry) : List Byte :=
  match e with
  | none => [0, 0, 0, 0, 0, 0, 0]
  | some e =>
    ([if e.expiry.isNone then 1 else 2] : List Byte) ++ halfBytes e.tag ++
      [purposeCode e.purposes, optByte e.purposes.host, optByte e.purposes.sweep,
        match e.expiry with
        | some t => natByte (t - now).toNat
        | none => 0]

/-- The probe section of PORT GET, offsets 44 to 60 (R84). -/
def State.probeSection (s : State) (p : Port) : List Byte :=
  let w := (s.port p).wants
  [purposeCode w, optByte w.host, optByte w.sweep] ++ entryBytes s.stamp (s.entryOf p) ++
    natBytes s.probes.stale ++ natBytes s.probes.unknown ++ natBytes s.probes.foreign ++ [natByte s.probes.list.length]

/-- PORT GET. -/
def State.reqPortGet (s : State) (port : Byte) : Answer :=
  match portOf port with
  | some p => (s, stOk :: (s.portSection p ++ s.meterSection p ++ s.probeSection p))
  | none => s.refuse stBadPort

/-! ### Host orders (R106 to R109, R113) -/

/-- The reply of BLOCK and RELEASE: the port and its state after the request. -/
def State.orderReply (s : State) (p : Port) : List Byte := [stOk, portByte p, stateCode (s.port p).state]

/-- PORT ROLE (R109). -/
def State.reqPortRole (s : State) (port role : Byte) : Answer :=
  match portOf port, roleOf role with
  | none, _ => s.refuse stBadPort
  | some _, none => s.refuse stBadValue
  | some p, some r =>
    let s1 := if (s.port p).role = r then s else s.changeRole p r
    (s1, [stOk, portByte p, roleCode (s1.port p).role, stateCode (s1.port p).state])

/-- BLOCK (R106). -/
def State.reqBlock (s : State) (port : Byte) : Answer :=
  match portOf port with
  | none => s.refuse stBadPort
  | some p =>
    match (s.port p).state with
    | .unguarded => s.refuse stWrongState
    | .held => (s, s.orderReply p)
    | _ => (s.hold p, (s.hold p).orderReply p)

/-- RELEASE (R107). -/
def State.reqRelease (s : State) (port : Byte) : Answer :=
  match portOf port with
  | none => s.refuse stBadPort
  | some p =>
    if (s.port p).state.releasable then (s.release p, (s.release p).orderReply p) else s.refuse stWrongState

/-- ROOM RELEASE (R108). -/
def State.reqRoomRelease (s : State) : Answer := (s.roomRelease, [stOk, natByte s.releasablePorts.length])

/-- The state code of a trip list item: 1 BLOCKED, 2 TESTING, 3 HELD (section 12.3). -/
def tripStateNumber : PortState → Nat
  | .blocked => 1
  | .testing => 2
  | .held => 3
  | _ => 0

/-- The partner number of a trip list item: 63 when absent (section 12.3). -/
def partnerNumber : Option Port → Nat
  | some p => p.val
  | none => 63

/-- An item of the TRIP LIST reply: two words (section 12.3). -/
def State.tripBytes (s : State) (t : TripItem) : List Byte :=
  let r := s.port t.port
  natBytes (t.port.val * 1024 + partnerNumber t.partner * 16 + causeNumber t.cause) ++
    natBytes (tripStateNumber r.state * 16384 + r.strikes * 1024 + r.holdOff)

/-- TRIP LIST (R113). -/
def State.reqTripList (s : State) : Answer := (s, [stOk, natByte s.trips.length] ++ s.trips.flatMap s.tripBytes)

/-! ### CHECK, SWEEP, ABORT (R79, R122, R126) -/

/-- CHECK: the first line of the table of R79 that applies. -/
def State.reqCheck (s : State) (tag port : Byte) : Answer :=
  match portOf port with
  | none => s.refuse stBadPort
  | some p =>
    if (s.port p).state.downOrUnguarded then s.refuse stWrongState
    else
      match s.entryOf p with
      | some e =>
        if e.expiry.isSome then s.refuse stInFlight
        else (s.setWant p (.host tag), [stOk, portByte p, 1] ++ halfBytes e.tag)
      | none =>
        if s.probes.list.length < 24 then (s.setWant p (.host tag), [stOk, portByte p, 0, 0, 0])
        else s.refuse stFull

/-- The reply of a BUSY SWEEP: the number, range, next port and counts of the HOST sweep in progress (R122, R183). -/
def busyBody (r : SweepRecord) : List Byte :=
  [stBusy, r.number, portByte r.first, portByte r.last, natByte r.next] ++ sweepCounts r

/-- SWEEP: the first line of the table of R122 that applies. -/
def State.reqSweep (s : State) (tag first last : Byte) : Answer :=
  match portOf first, portOf last with
  | some f, some l =>
    if l < f then s.refuse stBadPort
    else
      match s.sweep.record with
      | none =>
        let s1 := s.startSweep (some tag) f l
        (s1, [stOk, s1.sweep.number, 0])
      | some r =>
        if r.host.isSome then (s, busyBody r)
        else
          let s1 := (s.endSweep r .preempted).startSweep (some tag) f l
          (s1, [stOk, s1.sweep.number, 1])
  | _, _ => s.refuse stBadPort

/-- ABORT (R126). -/
def State.reqAbort (s : State) : Answer :=
  match s.sweep.record with
  | none => s.refuse stWrongState
  | some r =>
    (s.endSweep r .aborted,
      [stOk] ++ sweepOrigin r ++ [r.number, portByte r.first, portByte r.last] ++ sweepCounts r)

/-! ### Evidence (R136, R137) -/

/-- The N, B and E of one class of a capture. -/
def classValueBytes (v : ClassValue) : List Byte := natBytes v.level ++ natBytes v.base ++ intBytes v.excess

/-- The capture in an EVIDENCE GET reply, offsets 10 to 40 (section 12.4). -/
def captureBytes (c : Capture) : List Byte :=
  [causeCode c.cause, stateCode c.entered, partnerByte c.partner,
    natByte ((if c.foreign.isSome then 1 else 0) + (if c.held then 2 else 0))] ++ halfBytes (c.foreign.getD 0) ++
    wordBytes c.second ++ halfBytes c.stamp ++ [natByte c.strikes] ++ classValueBytes c.values.bcast ++
    classValueBytes c.values.mcast ++ classValueBytes c.values.flood

/-- EVIDENCE GET (R136). -/
def State.reqEvidenceGet (s : State) (port : Byte) : Answer :=
  match portOf port with
  | none => s.refuse stBadPort
  | some p =>
    let e := s.evidenceOf p
    (s, [stOk, portByte p, boolByte e.capture.isSome, natByte e.repeats] ++ wordBytes s.second ++ halfBytes s.stamp ++
      match e.capture with
      | some c => captureBytes c
      | none => [])

/-- The named evidence records emptied (R137). -/
def State.clearEvidence (s : State) (ports : List Port) : State :=
  ports.foldl (fun t p => t.setEvidenceOf p EvidenceRecord.empty) s

/-- EVIDENCE CLEAR (R137). -/
def State.reqEvidenceClear (s : State) (port : Byte) : Answer :=
  match portsOf port with
  | none => s.refuse stBadPort
  | some ports =>
    (s.clearEvidence ports, [stOk, natByte (ports.filter fun p => (s.evidenceOf p).capture.isSome).length])

/-! ### Stations (R57 to R60) -/

/-- STATION FIND (R57). -/
def State.reqStationFind (s : State) (a : Address) : Answer :=
  match findStation a s.stations with
  | some e => (s, stOk :: stationBytes s.stamp e)
  | none => s.refuse stNotFound

/-- A pinned entry: the home set, the move list emptied when the home changed (R58). -/
def StationEntry.pin (p : Port) (e : StationEntry) : StationEntry :=
  { e with pinned := true, home := p, moves := if e.home = p then e.moves else [] }

/-- The table after a STATION PIN, or none when the answer is FULL (R58). -/
def State.pinned (s : State) (a : Address) (p : Port) : Option (List StationEntry) :=
  match findStation a s.stations with
  | some e =>
    if e.pinned ∨ pinnedCount s.stations < 32 then some (updateStation a (StationEntry.pin p) s.stations) else none
  | none =>
    if pinnedCount s.stations < 32 then some (insertStation a p s.second true s.stations) else none

/-- STATION PIN (R58). DESIGN CHOICE (log 26): the reply of BAD_PORT carries its status byte alone (R183), that of FULL the
entry held for the address, or nothing when none is. -/
def State.reqStationPin (s : State) (a : Address) (port : Byte) : Answer :=
  match portOf port with
  | none => s.refuse stBadPort
  | some p =>
    match s.pinned a p with
    | some t =>
      let s1 := s.setStations t
      (s1, stOk :: s1.stationReply a)
    | none => (s, stFull :: s.stationReply a)

/-- STATION UNPIN (R59). -/
def State.reqStationUnpin (s : State) (a : Address) : Answer :=
  match findStation a s.stations with
  | none => s.refuse stNotFound
  | some e =>
    let s1 := if e.pinned then
        s.setStations (updateStation a (fun x => { x with pinned := false, lastSeen := s.second }) s.stations)
      else s
    (s1, stOk :: s1.stationReply a)

/-- An entry that a flush removes: unpinned, its home among the named ports (R60). -/
def flushed (ports : List Port) (e : StationEntry) : Bool := !e.pinned && decide (e.home ∈ ports)

/-- STATION FLUSH (R60). -/
def State.reqStationFlush (s : State) (port : Byte) : Answer :=
  match portsOf port with
  | none => s.refuse stBadPort
  | some ports =>
    (s.setStations (s.stations.filter fun e => !flushed ports e),
      stOk :: natBytes (s.stations.filter (flushed ports)).length)

/-! ### Panel (R144, R145) -/

/-- PANEL SET (R144). -/
def State.reqPanelSet (s : State) (mask : BitVec 80) (value : Byte) : Answer :=
  match cellValueOf value with
  | none => s.refuse stBadValue
  | some v =>
    let cells := lendCells mask v s.panel.cells
    (s.setPanel { s.panel with cells := cells },
      [stOk, natByte (countCells mask (fun _ => true) s.panel.cells)] ++ cellMaskBytes (hostMask cells))

/-- PANEL RETURN (R145). -/
def State.reqPanelReturn (s : State) (mask : BitVec 80) : Answer :=
  let cells := returnCells mask s.panel.cells
  (s.setPanel { s.panel with cells := cells },
    [stOk, natByte (countCells mask (fun c => c.hostOwned) s.panel.cells)] ++ cellMaskBytes (hostMask cells))

/-! ### NOTICE MASK (R172) -/

/-- NOTICE MASK: a flag for a code that names no kind is refused. -/
def State.reqNoticeMask (s : State) (mask : Half) : Answer :=
  if mask &&& ~~~fullMask = 0 then
    (s.setMgmt (s.mgmt.setMask mask), [stOk] ++ halfBytes mask ++ [natByte (maskedOut mask s.mgmt.queue).length])
  else s.refuse stBadValue

/-! ### RESTART (R179) -/

/-- The part restarted under the given profile and roles: every block as after power-on but the Management Link Controller,
which stays as it stands, as does the record last granted the lane (R179, log 16). -/
def State.restartWith (s : State) (profile : Profile) (roles : Vector Role 40) : State :=
  let fresh := State.start s.mgmt.straps roles profile s.pending
  (fresh.setMgmt s.mgmt).setControl { fresh.control with lane := s.control.lane }

/-- The roles in force. -/
def State.roles (s : State) : Vector Role 40 := Vector.ofFn fun p : Port => (s.port p).role

/-- The reply of a RESTART that was taken: the mode and the room id in force after it (R179). -/
def restartReply (mode : Byte) (s : State) : Answer := (s, [stOk, mode] ++ halfBytes s.profile.roomId)

/-- RESTART: mode 0 KEEP, 1 FACTORY. -/
def State.reqRestart (s : State) (mode : Byte) : Answer :=
  if mode = 0 then restartReply mode (s.restartWith s.profile s.roles)
  else if mode = 1 then restartReply mode (s.restartWith factoryProfile factoryRoles)
  else s.refuse stBadValue

/-- The reply to a RESTART that is taken empties the notice queue when it has been sent (R173, R179). -/
def restartFlushes (mode : Byte) : Bool := mode == 0 || mode == 1

/-! ### Answering and taking (R158, R159) -/

/-- An answer's reply fills the reply slot. -/
def Answer.fill (kind tag : Byte) (flush : Bool) (a : Answer) : State :=
  a.1.setMgmt (a.1.mgmt.fillReply { kind := kind, tag := tag, body := a.2, flush := flush })

/-- A request row sent as a command, the receipt and the taking of a good frame: it makes the link TALKING and the request is
taken, when the reply slot is empty and no frame is queued before it; while that is not so it changes nothing (R158, R162,
log 5). -/
def State.request (s : State) (kind tag : Byte) (flush : Bool) (f : State → Answer) : State :=
  if s.mgmt.reply = none ∧ s.mgmt.requests = [] then (f (s.setMgmt s.mgmt.heard)).fill (kind + 0x80) tag flush else s

/-- The body length of a request kind, none for a kind that names no request (R159, R183, section 12.3). -/
def bodyLength (kind : Byte) : Option Nat :=
  match kind.toNat with
  | 0x01 => some 1
  | 0x02 => some 0
  | 0x03 => some 61
  | 0x04 => some 1
  | 0x05 => some 20
  | 0x06 => some 4
  | 0x07 => some 2
  | 0x08 => some 1
  | 0x09 => some 2
  | 0x0A => some 1
  | 0x0B => some 1
  | 0x0C => some 0
  | 0x0D => some 0
  | 0x0E => some 1
  | 0x0F => some 2
  | 0x10 => some 0
  | 0x11 => some 1
  | 0x12 => some 1
  | 0x13 => some 6
  | 0x14 => some 7
  | 0x15 => some 6
  | 0x16 => some 1
  | 0x17 => some 11
  | 0x18 => some 10
  | 0x19 => some 2
  | 0x1A => some 1
  | _ => none

/-- The owning block's answer to a frame of good kind and length (section 9.7). -/
def State.serve (s : State) (f : Frame) : Answer :=
  let b := f.body
  match f.kind.toNat with
  | 0x01 => s.reqStatus (byteAt b 0)
  | 0x02 => s.reqProfileGet
  | 0x03 => s.reqProfileSet (profileBlockAt b)
  | 0x04 => s.reqMeterGet (byteAt b 0)
  | 0x05 => s.reqMeterSet (meterBlockAt b)
  | 0x06 => s.reqBaselineSet (byteAt b 0) (byteAt b 1) (halfAt b 2)
  | 0x07 => s.reqGrace (halfAt b 0)
  | 0x08 => s.reqPortGet (byteAt b 0)
  | 0x09 => s.reqPortRole (byteAt b 0) (byteAt b 1)
  | 0x0A => s.reqBlock (byteAt b 0)
  | 0x0B => s.reqRelease (byteAt b 0)
  | 0x0C => s.reqRoomRelease
  | 0x0D => s.reqTripList
  | 0x0E => s.reqCheck f.tag (byteAt b 0)
  | 0x0F => s.reqSweep f.tag (byteAt b 0) (byteAt b 1)
  | 0x10 => s.reqAbort
  | 0x11 => s.reqEvidenceGet (byteAt b 0)
  | 0x12 => s.reqEvidenceClear (byteAt b 0)
  | 0x13 => s.reqStationFind (addressAt b 0)
  | 0x14 => s.reqStationPin (addressAt b 0) (byteAt b 6)
  | 0x15 => s.reqStationUnpin (addressAt b 0)
  | 0x16 => s.reqStationFlush (byteAt b 0)
  | 0x17 => s.reqPanelSet (cellMaskAt b) (byteAt b 10)
  | 0x18 => s.reqPanelReturn (cellMaskAt b)
  | 0x19 => s.reqNoticeMask (halfAt b 0)
  | 0x1A => s.reqRestart (byteAt b 0)
  | _ => s.refuse stBadKind

/-- Whether a frame is a RESTART that will be taken. -/
def Frame.flushes (f : Frame) : Bool := f.kind == 0x1A && restartFlushes (byteAt f.body 0)

/-- A frame taken from the queue is judged by its kind, then by its length, and goes to its owning block (R159). -/
def State.answerFrame (s : State) (f : Frame) : State :=
  match bodyLength f.kind with
  | none => (s.refuse stBadKind).fill (f.kind ||| 0x80) f.tag false
  | some n =>
    if f.body.length = n then (s.serve f).fill (f.kind + 0x80) f.tag f.flushes
    else (s.refuse stBadLength).fill (f.kind + 0x80) f.tag false

/-- The request at the head of the queue is taken when the reply slot is empty (R158). -/
def State.takeRequest (s : State) : State :=
  match s.mgmt.reply, s.mgmt.requests with
  | none, f :: rest => (s.setMgmt { s.mgmt with requests := rest }).answerFrame f
  | _, _ => s

end Sys2Proof.Machine
end

