-- ==== Sys2Proof/Machine/Time.lean ====
section
/-! DEFINITION. The commands that come from time, reset and the panel scan: POWER_ON, SLOT_EXPIRY, SECOND_EXPIRY, SCAN_NEXT_COMMON. -/

namespace Sys2Proof.Machine

/-- POWER_ON (R178, R155): the factory profile is loaded, the straps are sampled and every block starts in its power-on
state; the waiting commands stay (log 16). -/
def execPowerOn (straps : BitVec 2) (s : State) : Host.Outcome State Fault Refusal :=
  .next (State.start straps factoryRoles factoryProfile s.pending)

/-- SLOT_EXPIRY (R1): the slot count advances and every block performs its slot work (log 3). -/
def execSlotExpiry (lines : SlotLines) (order : ExpiryOrder) (s : State) : Host.Outcome State Fault Refusal :=
  .next (s.slotExpiry lines order)

/-- SECOND_EXPIRY (R2): the second expiry of the latest slot expiry is taken, when it is still to be taken, after the step
reports of that expiry (log 3, log 4). -/
def execSecondExpiry (s : State) : Host.Outcome State Fault Refusal :=
  .next (s.takeAfterReports .second)

/-- SCAN_NEXT_COMMON (R139, R142, R143): the expiry before it is closed (log 3), and the scan moves to the next common and
drives its lit segments. -/
def execScanNextCommon (s : State) : Host.Outcome State Fault Refusal :=
  .next s.close.scanNext

end Sys2Proof.Machine
end

