-- ==== Sys2Proof/Machine/Fabric.lean ====
section
/-! DEFINITION. The commands of the fabric link (chapter 1) and of its dispatcher (R9): receiving, dispatching, granting.
Each but FABRIC_LOST closes the expiry before it first (log 3). -/

namespace Sys2Proof.Machine

/-- SIGHTING_RECORD_RECEIVE (R4 to R8, R10). -/
def execSightingRecordReceive (bytes : List Byte) (extraBits : Nat) (s : State) : Host.Outcome State Fault Refusal :=
  .next (s.close.receiveRecord bytes extraBits)

/-- FABRIC_LOST (R10). -/
def execFabricLost (s : State) : Host.Outcome State Fault Refusal :=
  .next (s.takeDue .fabricLost)

/-- TALLY_DISPATCH (R9, R12). -/
def execTallyDispatch (s : State) : Host.Outcome State Fault Refusal :=
  .next s.close.dispatchTally

/-- SAMPLE_DISPATCH (R9, R49 to R54). -/
def execSampleDispatch (s : State) : Host.Outcome State Fault Refusal :=
  .next s.close.dispatchSample

/-- PROBE_DISPATCH (R9, R70 to R78). -/
def execProbeDispatch (s : State) : Host.Outcome State Fault Refusal :=
  .next s.close.dispatchProbe

/-- LINK_DISPATCH (R9, R90 to R92). -/
def execLinkDispatch (s : State) : Host.Outcome State Fault Refusal :=
  .next s.close.dispatchLink

/-- SLOT_MARK_GRANT (R15). -/
def execSlotMarkGrant (s : State) : Host.Outcome State Fault Refusal :=
  .next s.close.grantMark

/-- GATE_CHANGE_GRANT (R16, R17). -/
def execGateChangeGrant (s : State) : Host.Outcome State Fault Refusal :=
  .next s.close.grantGate

/-- EMIT_GRANT (R16, R18, R68). -/
def execEmitGrant (s : State) : Host.Outcome State Fault Refusal :=
  .next s.close.grantEmit

/-- REFRESH_GATE_GRANT (R16, R19). -/
def execRefreshGateGrant (s : State) : Host.Outcome State Fault Refusal :=
  .next s.close.grantRefresh

end Sys2Proof.Machine
end

