-- ==== Sys2Proof/Machine/Expiries.lean ====
section
/-! DEFINITION. The commands for the timers and counters that run out at a slot or second expiry (log 3). -/

namespace Sys2Proof.Machine

/-- CALM_HOLD_REACHED (R95, R116): the reopening that the report brought about is taken (log 4). -/
def execCalmHoldReached (port : Port) (s : State) : Host.Outcome State Fault Refusal :=
  .next (s.takeReopening port)

/-- PROBE_EXPIRY (R69, R77): the reached entry of the origin port is removed and concludes CLEAR, after the step reports of
the expiry (log 4, log 25). -/
def execProbeExpiry (origin : Port) (s : State) : Host.Outcome State Fault Refusal :=
  .next (match s.endedEntry origin with
    | some _ => s.takeAfterReports (.probeExpired origin)
    | none => s)

/-- RETIRE_PERIOD_END (R83). -/
def execRetirePeriodEnd (s : State) : Host.Outcome State Fault Refusal :=
  .next (s.takeDue .retireEnd)

/-- HOLD_OFF_EXPIRY (R101). -/
def execHoldOffExpiry (port : Port) (s : State) : Host.Outcome State Fault Refusal :=
  .next (s.takeDue (.holdOff port))

/-- STRIKE_DECAY (R104). -/
def execStrikeDecay (port : Port) (s : State) : Host.Outcome State Fault Refusal :=
  .next (s.takeDue (.strikeDecay port))

/-- GRACE_EXPIRY (R41). -/
def execGraceExpiry (s : State) : Host.Outcome State Fault Refusal :=
  .next (s.takeDue .grace)

/-- AUTO_SWEEP_TIMER_EXPIRY (R121, R119). -/
def execAutoSweepTimerExpiry (s : State) : Host.Outcome State Fault Refusal :=
  .next (s.takeDue .autoSweep)

/-- SWEEP_TAKE_PORT (R123, R125). -/
def execSweepTakePort (s : State) : Host.Outcome State Fault Refusal :=
  .next (s.takeDue .sweepTake)

/-- FRAME_TIMEOUT (R157). -/
def execFrameTimeout (s : State) : Host.Outcome State Fault Refusal :=
  .next (s.takeDue .frameTimeout)

/-- LINK_BREAK (R163, R164). -/
def execLinkBreak (s : State) : Host.Outcome State Fault Refusal :=
  .next (s.takeDue .linkBreak)

end Sys2Proof.Machine
end

