-- ==== Sys2Proof/Machine/Keys.lean ====
section
/-! DEFINITION. The commands of the panel keys and of the buzzer (chapter 8), each the event of a slot expiry (log 3). -/

namespace Sys2Proof.Machine

/-- SIL_PRESS (R146, R148). -/
def execSilPress (s : State) : Host.Outcome State Fault Refusal :=
  .next (s.takeDue .silPress)

/-- REL_PRESS (R146, R149). -/
def execRelPress (s : State) : Host.Outcome State Fault Refusal :=
  .next (s.takeDue .relPress)

/-- REL_RELEASE (R149, R151). -/
def execRelRelease (s : State) : Host.Outcome State Fault Refusal :=
  .next (s.takeDue .relRelease)

/-- KEY_RELEASE_SIL (R148): the SIL release is taken and does nothing further. -/
def execKeyReleaseSil (s : State) : Host.Outcome State Fault Refusal :=
  .next (s.takeDue .silRelease)

/-- TWO_KEY_ROOM_RELEASE (R150, R151, R108). -/
def execTwoKeyRoomRelease (s : State) : Host.Outcome State Fault Refusal :=
  .next (s.takeDue .twoKey)

/-- BUZZER_EXPIRY (R152). -/
def execBuzzerExpiry (s : State) : Host.Outcome State Fault Refusal :=
  .next (s.takeDue .buzzer)

end Sys2Proof.Machine
end

