-- ==== Sys2Proof/Machine/Line.lean ====
section
/-! DEFINITION. The commands of the management link line (chapter 9) and of notice sending (chapter 10). Each closes the
expiry before it first (log 3). -/

namespace Sys2Proof.Machine

/-- ML_CHARACTER_RECEIVE (R155 to R158). -/
def execMlCharacterReceive (byte : Byte) (stopHigh : Bool) (s : State) : Host.Outcome State Fault Refusal :=
  .next (s.close.setMgmt (s.close.mgmt.character byte stopHigh))

/-- BREAK_WAIT_END (R163). -/
def execBreakWaitEnd (s : State) : Host.Outcome State Fault Refusal :=
  .next (s.close.setMgmt s.close.mgmt.breakWaitEnd)

/-- REQUEST_TAKE (R158 to R160). -/
def execRequestTake (s : State) : Host.Outcome State Fault Refusal :=
  .next s.close.takeRequest

/-- REPLY_SENT (R158, R161, R173). -/
def execReplySent (s : State) : Host.Outcome State Fault Refusal :=
  .next (s.close.setMgmt s.close.mgmt.replySent)

/-- NOTICE_SEND (R161, R171). -/
def execNoticeSend (s : State) : Host.Outcome State Fault Refusal :=
  .next (s.close.setMgmt s.close.mgmt.sendNotice)

/-- NOTICE_FRAME_END (R161). -/
def execNoticeFrameEnd (s : State) : Host.Outcome State Fault Refusal :=
  .next (s.close.setMgmt s.close.mgmt.noticeEnd)

end Sys2Proof.Machine
end

