-- ==== Sys2Proof/Machine/Requests.lean ====
section
/-! DEFINITION. The 26 requests of section 9.7, each as the command that takes it (log 5), once the expiry before it is closed
(log 3). -/

namespace Sys2Proof.Machine

/-- STATUS (R166). -/
def execStatus (tag option : Byte) (s : State) : Host.Outcome State Fault Refusal :=
  .next (s.close.request 0x01 tag false fun s => s.reqStatus option)

/-- PROFILE GET (R175). -/
def execProfileGet (tag : Byte) (s : State) : Host.Outcome State Fault Refusal :=
  .next (s.close.request 0x02 tag false fun s => s.reqProfileGet)

/-- PROFILE SET (R176, R177). -/
def execProfileSet (tag : Byte) (block : ProfileBlock) (s : State) : Host.Outcome State Fault Refusal :=
  .next (s.close.request 0x03 tag false fun s => s.reqProfileSet block)

/-- METER GET (R45). -/
def execMeterGet (tag cls : Byte) (s : State) : Host.Outcome State Fault Refusal :=
  .next (s.close.request 0x04 tag false fun s => s.reqMeterGet cls)

/-- METER SET (R42 to R44). -/
def execMeterSet (tag : Byte) (block : MeterBlock) (s : State) : Host.Outcome State Fault Refusal :=
  .next (s.close.request 0x05 tag false fun s => s.reqMeterSet block)

/-- BASELINE SET (R39). -/
def execBaselineSet (tag port cls : Byte) (value : Half) (s : State) : Host.Outcome State Fault Refusal :=
  .next (s.close.request 0x06 tag false fun s => s.reqBaselineSet port cls value)

/-- GRACE (R40). -/
def execGrace (tag : Byte) (duration : Half) (s : State) : Host.Outcome State Fault Refusal :=
  .next (s.close.request 0x07 tag false fun s => s.reqGrace duration)

/-- PORT GET (R115, R46, R84). -/
def execPortGet (tag port : Byte) (s : State) : Host.Outcome State Fault Refusal :=
  .next (s.close.request 0x08 tag false fun s => s.reqPortGet port)

/-- PORT ROLE (R109, R110). -/
def execPortRole (tag port role : Byte) (s : State) : Host.Outcome State Fault Refusal :=
  .next (s.close.request 0x09 tag false fun s => s.reqPortRole port role)

/-- BLOCK (R106). -/
def execBlock (tag port : Byte) (s : State) : Host.Outcome State Fault Refusal :=
  .next (s.close.request 0x0A tag false fun s => s.reqBlock port)

/-- RELEASE (R107). -/
def execRelease (tag port : Byte) (s : State) : Host.Outcome State Fault Refusal :=
  .next (s.close.request 0x0B tag false fun s => s.reqRelease port)

/-- ROOM RELEASE (R108). -/
def execRoomRelease (tag : Byte) (s : State) : Host.Outcome State Fault Refusal :=
  .next (s.close.request 0x0C tag false fun s => s.reqRoomRelease)

/-- TRIP LIST (R113). -/
def execTripList (tag : Byte) (s : State) : Host.Outcome State Fault Refusal :=
  .next (s.close.request 0x0D tag false fun s => s.reqTripList)

/-- CHECK (R79, R80). -/
def execCheck (tag port : Byte) (s : State) : Host.Outcome State Fault Refusal :=
  .next (s.close.request 0x0E tag false fun s => s.reqCheck tag port)

/-- SWEEP (R122). -/
def execSweep (tag first last : Byte) (s : State) : Host.Outcome State Fault Refusal :=
  .next (s.close.request 0x0F tag false fun s => s.reqSweep tag first last)

/-- ABORT (R126). -/
def execAbort (tag : Byte) (s : State) : Host.Outcome State Fault Refusal :=
  .next (s.close.request 0x10 tag false fun s => s.reqAbort)

/-- EVIDENCE GET (R136). -/
def execEvidenceGet (tag port : Byte) (s : State) : Host.Outcome State Fault Refusal :=
  .next (s.close.request 0x11 tag false fun s => s.reqEvidenceGet port)

/-- EVIDENCE CLEAR (R137). -/
def execEvidenceClear (tag port : Byte) (s : State) : Host.Outcome State Fault Refusal :=
  .next (s.close.request 0x12 tag false fun s => s.reqEvidenceClear port)

/-- STATION FIND (R57). -/
def execStationFind (tag : Byte) (address : Address) (s : State) : Host.Outcome State Fault Refusal :=
  .next (s.close.request 0x13 tag false fun s => s.reqStationFind address)

/-- STATION PIN (R58). -/
def execStationPin (tag : Byte) (address : Address) (port : Byte) (s : State) : Host.Outcome State Fault Refusal :=
  .next (s.close.request 0x14 tag false fun s => s.reqStationPin address port)

/-- STATION UNPIN (R59). -/
def execStationUnpin (tag : Byte) (address : Address) (s : State) : Host.Outcome State Fault Refusal :=
  .next (s.close.request 0x15 tag false fun s => s.reqStationUnpin address)

/-- STATION FLUSH (R60). -/
def execStationFlush (tag port : Byte) (s : State) : Host.Outcome State Fault Refusal :=
  .next (s.close.request 0x16 tag false fun s => s.reqStationFlush port)

/-- PANEL SET (R144). -/
def execPanelSet (tag : Byte) (mask : BitVec 80) (value : Byte) (s : State) : Host.Outcome State Fault Refusal :=
  .next (s.close.request 0x17 tag false fun s => s.reqPanelSet mask value)

/-- PANEL RETURN (R145). -/
def execPanelReturn (tag : Byte) (mask : BitVec 80) (s : State) : Host.Outcome State Fault Refusal :=
  .next (s.close.request 0x18 tag false fun s => s.reqPanelReturn mask)

/-- NOTICE MASK (R172). -/
def execNoticeMask (tag : Byte) (mask : Half) (s : State) : Host.Outcome State Fault Refusal :=
  .next (s.close.request 0x19 tag false fun s => s.reqNoticeMask mask)

/-- RESTART (R179, R180). -/
def execRestart (tag mode : Byte) (s : State) : Host.Outcome State Fault Refusal :=
  .next (s.close.request 0x1A tag (restartFlushes mode) fun s => s.reqRestart mode)

end Sys2Proof.Machine
end

