-- ==== Sys2Proof/Machine/Dispatch.lean ====
section
/-! DEFINITION. The dispatch of every command to its meaning. -/

namespace Sys2Proof.Machine

def exec (i : Instr) (s : State) : Host.Outcome State Fault Refusal :=
  match i with
  | .powerOn straps => Sys2Proof.Machine.execPowerOn straps s
  | .slotExpiry lines order => Sys2Proof.Machine.execSlotExpiry lines order s
  | .secondExpiry => Sys2Proof.Machine.execSecondExpiry s
  | .sightingRecordReceive bytes extraBits => Sys2Proof.Machine.execSightingRecordReceive bytes extraBits s
  | .fabricLost => Sys2Proof.Machine.execFabricLost s
  | .tallyDispatch => Sys2Proof.Machine.execTallyDispatch s
  | .sampleDispatch => Sys2Proof.Machine.execSampleDispatch s
  | .probeDispatch => Sys2Proof.Machine.execProbeDispatch s
  | .linkDispatch => Sys2Proof.Machine.execLinkDispatch s
  | .slotMarkGrant => Sys2Proof.Machine.execSlotMarkGrant s
  | .gateChangeGrant => Sys2Proof.Machine.execGateChangeGrant s
  | .emitGrant => Sys2Proof.Machine.execEmitGrant s
  | .refreshGateGrant => Sys2Proof.Machine.execRefreshGateGrant s
  | .calmHoldReached port => Sys2Proof.Machine.execCalmHoldReached port s
  | .probeExpiry origin => Sys2Proof.Machine.execProbeExpiry origin s
  | .retirePeriodEnd => Sys2Proof.Machine.execRetirePeriodEnd s
  | .holdOffExpiry port => Sys2Proof.Machine.execHoldOffExpiry port s
  | .strikeDecay port => Sys2Proof.Machine.execStrikeDecay port s
  | .graceExpiry => Sys2Proof.Machine.execGraceExpiry s
  | .autoSweepTimerExpiry => Sys2Proof.Machine.execAutoSweepTimerExpiry s
  | .sweepTakePort => Sys2Proof.Machine.execSweepTakePort s
  | .silPress => Sys2Proof.Machine.execSilPress s
  | .relPress => Sys2Proof.Machine.execRelPress s
  | .relRelease => Sys2Proof.Machine.execRelRelease s
  | .keyReleaseSil => Sys2Proof.Machine.execKeyReleaseSil s
  | .twoKeyRoomRelease => Sys2Proof.Machine.execTwoKeyRoomRelease s
  | .buzzerExpiry => Sys2Proof.Machine.execBuzzerExpiry s
  | .mlCharacterReceive byte stopHigh => Sys2Proof.Machine.execMlCharacterReceive byte stopHigh s
  | .frameTimeout => Sys2Proof.Machine.execFrameTimeout s
  | .linkBreak => Sys2Proof.Machine.execLinkBreak s
  | .breakWaitEnd => Sys2Proof.Machine.execBreakWaitEnd s
  | .requestTake => Sys2Proof.Machine.execRequestTake s
  | .replySent => Sys2Proof.Machine.execReplySent s
  | .noticeSend => Sys2Proof.Machine.execNoticeSend s
  | .status tag option => Sys2Proof.Machine.execStatus tag option s
  | .profileGet tag => Sys2Proof.Machine.execProfileGet tag s
  | .profileSet tag block => Sys2Proof.Machine.execProfileSet tag block s
  | .meterGet tag cls => Sys2Proof.Machine.execMeterGet tag cls s
  | .meterSet tag block => Sys2Proof.Machine.execMeterSet tag block s
  | .baselineSet tag port cls value => Sys2Proof.Machine.execBaselineSet tag port cls value s
  | .grace tag duration => Sys2Proof.Machine.execGrace tag duration s
  | .portGet tag port => Sys2Proof.Machine.execPortGet tag port s
  | .portRole tag port role => Sys2Proof.Machine.execPortRole tag port role s
  | .block tag port => Sys2Proof.Machine.execBlock tag port s
  | .release tag port => Sys2Proof.Machine.execRelease tag port s
  | .roomRelease tag => Sys2Proof.Machine.execRoomRelease tag s
  | .tripList tag => Sys2Proof.Machine.execTripList tag s
  | .check tag port => Sys2Proof.Machine.execCheck tag port s
  | .sweep tag first last => Sys2Proof.Machine.execSweep tag first last s
  | .abort tag => Sys2Proof.Machine.execAbort tag s
  | .evidenceGet tag port => Sys2Proof.Machine.execEvidenceGet tag port s
  | .evidenceClear tag port => Sys2Proof.Machine.execEvidenceClear tag port s
  | .stationFind tag address => Sys2Proof.Machine.execStationFind tag address s
  | .stationPin tag address port => Sys2Proof.Machine.execStationPin tag address port s
  | .stationUnpin tag address => Sys2Proof.Machine.execStationUnpin tag address s
  | .stationFlush tag port => Sys2Proof.Machine.execStationFlush tag port s
  | .panelSet tag mask value => Sys2Proof.Machine.execPanelSet tag mask value s
  | .panelReturn tag mask => Sys2Proof.Machine.execPanelReturn tag mask s
  | .noticeMask tag mask => Sys2Proof.Machine.execNoticeMask tag mask s
  | .restart tag mode => Sys2Proof.Machine.execRestart tag mode s
  | .noticeFrameEnd => Sys2Proof.Machine.execNoticeFrameEnd s
  | .scanNextCommon => Sys2Proof.Machine.execScanNextCommon s

end Sys2Proof.Machine
end

