-- ==== Sys2Proof/Safety.lean ====
section
/-! DEFINITION. The terms in which statements about the machine are made: which parts of the state a command leaves alone,
and the invariants that the rules state. -/

namespace Sys2Proof.Machine

/-! ### Frames -/

/-- The parts of the state. -/
inductive Part where
  | timer
  | receiver
  | tallies
  | control
  | meters
  | reports
  | grace
  | stations
  | probes
  | sweep
  | ports
  | trips
  | evidence
  | panel
  | mgmt
  | profile
  | due
  | pending
  deriving DecidableEq, Repr

/-- Two states agree in a part. -/
def SameIn (s t : State) : Part → Prop
  | .timer => t.timer = s.timer
  | .receiver => t.receiver = s.receiver
  | .tallies => t.tallies = s.tallies
  | .control => t.control = s.control
  | .meters => t.meters = s.meters
  | .reports => t.reports = s.reports
  | .grace => t.grace = s.grace
  | .stations => t.stations = s.stations
  | .probes => t.probes = s.probes
  | .sweep => t.sweep = s.sweep
  | .ports => t.ports = s.ports
  | .trips => t.trips = s.trips
  | .evidence => t.evidence = s.evidence
  | .panel => t.panel = s.panel
  | .mgmt => t.mgmt = s.mgmt
  | .profile => t.profile = s.profile
  | .due => t.due = s.due
  | .pending => t.pending = s.pending

/-- A change from `s` to `t` stays within the named parts. -/
def OnlyIn (parts : List Part) (s t : State) : Prop := ∀ part, part ∉ parts → SameIn s t part

/-- Every port but `p` keeps its record. -/
def OtherPortsKept (p : Port) (s t : State) : Prop := ∀ q, q ≠ p → t.port q = s.port q

/-- A change of the Management Link Controller that touches its notice queue at most, with the flag and counter of a drop. -/
def NoticesOnly (m n : Mgmt) : Prop :=
  n = { m with queue := n.queue, flags := { m.flags with noticeDropped := n.flags.noticeDropped }, dropped := n.dropped }

/-- The state after a request command that leaves `s` and whose reply body is `body`: its frame has made the link TALKING
(R162), and the reply fills the reply slot (R158). -/
def Replied (s : State) (kind tag : Byte) (body : List Byte) : State :=
  s.setMgmt (s.mgmt.heard.fillReply { kind := kind, tag := tag, body := body, flush := false })

/-- A change from `s` to `t` in which a block sets a purpose on each of the ports `on` (R62): the purpose, which `f` adds to a
purpose set, joins the QUEUED entry of a port that has one, and the want set of a port that has none. The Probe Engine is
otherwise that of `s`, and every other purpose of every port stands. -/
def PurposeJoined (on : Port → Bool) (f : Purposes → Purposes) (s t : State) : Prop :=
  t.probes = { s.probes with
    list := s.probes.list.map fun e =>
      if on e.origin = true ∧ e.expiry = none then { e with purposes := f e.purposes } else e } ∧
  ∀ q, (t.port q).wants =
    if on q = true ∧ ∀ e ∈ s.probes.list, e.origin = q → e.expiry ≠ none then f (s.port q).wants else (s.port q).wants

/-- A request command is taken at once: no event of an expiry is left due, the reply slot is empty and no frame is queued
before it (R158, logs 3 and 5). -/
def TakesRequests (s : State) : Prop := s.due = [] ∧ s.mgmt.reply = none ∧ s.mgmt.requests = []

/-- Every step report of the latest expiry has been acted on: none waits behind a reopening left to its row (log 4). -/
def ReportsDone (s : State) : Prop := ∀ e ∈ s.due, e.ofReports = false

/-- Frames wait in the request queue in TALKING alone: each of them made the link TALKING (R156, R161, R162). -/
def FramesHeard (s : State) : Prop := s.mgmt.requests ≠ [] → s.mgmt.talking = true

/-- The purposes `u` of port `p` concluded VOID (R77, R78, R81): SWEEP is counted skipped by the sweep of its number, and HOST
raises CHECK_DONE with VOID and no arrival port; LINKUP, STORM, FLAP and RECOVER end without effect. SWEEP before HOST
is the model's choice (log 27). -/
def Voided (p : Port) (u : Purposes) (s : State) : State :=
  let s1 := match u.sweep with
    | some n => s.deliverSweep n .void
    | none => s
  match u.host with
  | some tag => s1.setMgmt (s1.mgmt.raise (.checkDone p tag .void none s.timer.secondCount))
  | none => s1

/-- The want set of port `p`, and then its QUEUED entry, concluded VOID, as they stand (R81, R82, R92). -/
def VoidedPort (p : Port) (s : State) : State :=
  let s1 := Voided p (s.port p).wants s
  match s.queuedEntry p with
  | some e => Voided p e.purposes s1
  | none => s1

/-- The command closes the expiry before it: every command but those of an expiry's own events does (log 3). -/
def closesExpiry : Instr → Bool
  | .secondExpiry => false
  | .fabricLost => false
  | .calmHoldReached _ => false
  | .probeExpiry _ => false
  | .retirePeriodEnd => false
  | .holdOffExpiry _ => false
  | .strikeDecay _ => false
  | .graceExpiry => false
  | .autoSweepTimerExpiry => false
  | .sweepTakePort => false
  | .silPress => false
  | .relPress => false
  | .relRelease => false
  | .keyReleaseSil => false
  | .twoKeyRoomRelease => false
  | .buzzerExpiry => false
  | .frameTimeout => false
  | .linkBreak => false
  | _ => true

/-- The origin ports whose probe entries end, in the order in which their ends are due. -/
def endedOrigins (due : List Event) : List Port :=
  due.filterMap fun e => match e with
    | .probeExpired o => some o
    | _ => none

/-- The command that a queued frame of an assigned kind and its body length stands for (R159, section 12.3). -/
def commandOf (f : Frame) : Option Instr :=
  let b := f.body
  if bodyLength f.kind = some b.length then
    match f.kind.toNat with
    | 0x01 => some (.status f.tag (byteAt b 0))
    | 0x02 => some (.profileGet f.tag)
    | 0x03 => some (.profileSet f.tag (profileBlockAt b))
    | 0x04 => some (.meterGet f.tag (byteAt b 0))
    | 0x05 => some (.meterSet f.tag (meterBlockAt b))
    | 0x06 => some (.baselineSet f.tag (byteAt b 0) (byteAt b 1) (halfAt b 2))
    | 0x07 => some (.grace f.tag (halfAt b 0))
    | 0x08 => some (.portGet f.tag (byteAt b 0))
    | 0x09 => some (.portRole f.tag (byteAt b 0) (byteAt b 1))
    | 0x0A => some (.block f.tag (byteAt b 0))
    | 0x0B => some (.release f.tag (byteAt b 0))
    | 0x0C => some (.roomRelease f.tag)
    | 0x0D => some (.tripList f.tag)
    | 0x0E => some (.check f.tag (byteAt b 0))
    | 0x0F => some (.sweep f.tag (byteAt b 0) (byteAt b 1))
    | 0x10 => some (.abort f.tag)
    | 0x11 => some (.evidenceGet f.tag (byteAt b 0))
    | 0x12 => some (.evidenceClear f.tag (byteAt b 0))
    | 0x13 => some (.stationFind f.tag (addressAt b 0))
    | 0x14 => some (.stationPin f.tag (addressAt b 0) (byteAt b 6))
    | 0x15 => some (.stationUnpin f.tag (addressAt b 0))
    | 0x16 => some (.stationFlush f.tag (byteAt b 0))
    | 0x17 => some (.panelSet f.tag (cellMaskAt b) (byteAt b 10))
    | 0x18 => some (.panelReturn f.tag (cellMaskAt b))
    | 0x19 => some (.noticeMask f.tag (halfAt b 0))
    | 0x1A => some (.restart f.tag (byteAt b 0))
    | _ => none
  else none

/-! ### The port table (R86, R89, R99, R111) -/

/-- What the port table says of one record, under a strike limit: the states its role may take (R89), the bounds of its
strikes (R99), and its counters at 0 outside the state they belong to (R86). -/
def PortRecord.Legal (limit : Nat) (r : PortRecord) : Prop :=
  (r.state = .unguarded ↔ r.role = .off) ∧
  (r.role = .trunk → r.state ≠ .blocked ∧ r.state ≠ .testing) ∧
  r.strikes ≤ limit ∧ (r.role = .off → r.strikes = 0) ∧
  (r.state ≠ .blocked → r.holdOff = 0) ∧ r.holdOff ≤ 600 ∧
  (r.state ≠ .limited → r.calm = 0) ∧ (r.state ≠ .opened → r.decay = 0)

/-- Every port record is legal. -/
def PortsLegal (s : State) : Prop := ∀ p, (s.port p).Legal s.profile.strikeLimit

/-- The trip list holds exactly the ports in BLOCKED, TESTING or HELD, each once (R111). -/
def TripListExact (s : State) : Prop :=
  (s.trips.map (·.port)).Nodup ∧ ∀ p, p ∈ s.trips.map (·.port) ↔ (s.port p).state.shutForTrip = true

/-! ### The probe list and the EMIT queue (R18, R63) -/

/-- At most 24 entries, no two with one origin or one tag, no tag 0, and one EMIT order for each QUEUED entry, in the order
of admission. -/
def ProbeListSound (s : State) : Prop :=
  s.probes.list.length ≤ 24 ∧ (s.probes.list.map (·.origin)).Nodup ∧ (s.probes.list.map (·.tag)).Nodup ∧
  0 ∉ s.probes.list.map (·.tag) ∧
  s.control.emitQueue.map (fun o => (o.tag, o.origin)) =
    (s.probes.list.filter fun e => e.expiry.isNone).map fun e => (e.tag, e.origin)

/-! ### The notice queue (R168, R172) -/

/-- At most 16 notices, no two of one coalescing key, repeat fields of 1..255, and every kind enabled by the mask. -/
def NoticeQueueSound (m : Mgmt) : Prop :=
  m.queue.length ≤ 16 ∧ m.queue.Pairwise (fun a b => sameKey a.notice b.notice = false) ∧
  ∀ q ∈ m.queue, 1 ≤ q.repeats ∧ q.repeats ≤ 255 ∧ kindEnabled m.mask q.notice = true

/-! ### The meters (R21, R22, R27) -/

/-- One threshold set within the ranges of R22. -/
def Thresholds.InRange (t : Thresholds) : Prop :=
  1 ≤ t.limit ∧ t.limit ≤ 16320 ∧ t.limit ≤ t.block ∧ t.block ≤ 16320 ∧ -16320 ≤ t.calm ∧ t.calm < t.limit ∧
  0 ≤ t.ceil ∧ t.ceil ≤ 16320

/-- A room meter setup within the ranges of R22. -/
def ClassSetup.InRange (c : ClassSetup) : Prop :=
  c.window ∈ [4, 8, 16, 32, 64] ∧ 1 ≤ c.shift ∧ c.shift ≤ 8 ∧ c.desk.InRange ∧ c.trunk.InRange

/-- One meter within the ranges of R21, of a port with the given role: the sums are those of the rings, E is N - B (R27), B
is within the ceiling of the role, and the meter of an UNGUARDED port is held cleared (R35). -/
def Meter.InRange (c : ClassSetup) (role : Role) (m : Meter) : Prop :=
  m.h1.length = c.window ∧ (∀ x ∈ m.h1, x ≤ 255) ∧ m.s1 = m.h1.sum ∧
  m.h2.length = c.window ∧ (∀ y ∈ m.h2, y ≤ 255 * c.window) ∧ m.s2 = m.h2.sum ∧ (c.shape = .box → m.s2 = 0) ∧
  m.level ≤ 16320 ∧ m.excess = (m.level : Int) - (m.base : Int) ∧
  m.stormRun ≤ 32 ∧ m.severeRun ≤ m.stormRun ∧ m.priming ≤ c.primingLength ∧
  (role ≠ .off → (m.base : Int) ≤ (c.thresholds role).ceil) ∧ (role = .off → m = Meter.restartedWith c 0)

/-- Three counts as a TALLY record carries them (R12). -/
def countsInRange (c : PerClass Nat) : Prop := c.bcast ≤ 255 ∧ c.mcast ≤ 255 ∧ c.flood ≤ 255

/-- A tally still in the sighting FIFO carries counts of one byte each. -/
def SightingRecord.InRange : SightingRecord → Prop
  | .tally _ _ counts => countsInRange counts
  | _ => True

/-- A port's tally state holds counts in range, and a held-slot count of 0..4 (R12). -/
def PortTally.InRange (t : PortTally) : Prop :=
  (∀ x, t.pending = some x → countsInRange x.counts) ∧ countsInRange t.last ∧ t.held ≤ 4

/-- Every meter, its setup and the counts that feed it are in range. -/
def MetersInRange (s : State) : Prop :=
  (∀ k, (s.profile.meters.get k).InRange) ∧
  (∀ p k, ((s.portMeters p).get k).InRange (s.profile.meters.get k) (s.port p).role) ∧
  (∀ p, (s.tally p).InRange) ∧ ∀ r ∈ s.receiver.fifo, r.InRange

/-! ### The Station Table (R48) -/

/-- At most 512 entries, listed in rising position below 512, no two of one address, at most 32 of them pinned. -/
def StationTableSound (s : State) : Prop :=
  s.stations.length ≤ 512 ∧ (s.stations.map (·.position)).Pairwise (· < ·) ∧ (∀ e ∈ s.stations, e.position < 512) ∧
  (s.stations.map (·.address)).Nodup ∧ (s.stations.filter fun e => e.pinned).length ≤ 32

/-! ### The sweep record (R117, R118) -/

/-- The number of SWEEP purposes that wait in want sets and in probe list entries. -/
def sweepsOwed (s : State) : Nat :=
  (allPorts.filter fun p => (s.port p).wants.sweep.isSome).length +
    (s.probes.list.filter fun e => e.purposes.sweep.isSome).length

/-- The fields of a sweep in progress within their ranges, and its counts and the purposes still owed adding up to the ports
taken; every SWEEP purpose carries its number and stands for a port taken. Without a sweep no SWEEP purpose stands. The
pacing counter needs the sweep spacing within its range (R174). -/
def SweepSound (s : State) : Prop :=
  s.profile.sweepSpacing ≤ 100 ∧
  (s.sweep.record = none → sweepsOwed s = 0) ∧
  ∀ r, s.sweep.record = some r →
    r.first ≤ r.last ∧ r.first.val ≤ r.next ∧ r.next ≤ r.last.val + 1 ∧ r.pacing ≤ 100 ∧
    r.admitted ≤ r.next - r.first.val ∧
    r.clear + r.contained + r.looped + r.skipped + sweepsOwed s = r.next - r.first.val ∧
    (r.last.val < r.next → r.clear + r.contained + r.looped + r.skipped < r.last.val + 1 - r.first.val) ∧
    (∀ p n, (s.port p).wants.sweep = some n → n = r.number ∧ r.first ≤ p ∧ p.val < r.next) ∧
    (∀ e ∈ s.probes.list, ∀ n, e.purposes.sweep = some n →
      n = r.number ∧ r.first ≤ e.origin ∧ e.origin.val < r.next)

/-! ### The queues of the fabric link and of the management link -/

/-- The bounds of the sighting FIFO (R8), of the record budget (R15), of the request queue (R158), of the change runs
(R146) and of the held moves (R47). -/
def QueuesBounded (s : State) : Prop :=
  s.receiver.fifo.length ≤ 64 ∧ s.control.budget ≤ 16 ∧ s.mgmt.requests.length ≤ 4 ∧ s.panel.rel.run < 20 ∧
  s.panel.sil.run < 20 ∧ ∀ e ∈ s.stations, e.moves.length ≤ 4

end Sys2Proof.Machine
end

