-- ==== Sys2Proof/Certificates/Slice0/Obligations.lean ====
section
/-! DEFINITION. The statements for the provers. "When a request is taken at once" names the condition `TakesRequests`: no
event of an expiry left due, the reply slot empty and no frame queued (R158). Statements that rest on a choice of the model
name its log entry. -/

open Sys2Proof Sys2Proof.Machine

/-- For every state whose queue is c followed by rest, step is exec of c on the state with the queue rest; with an empty
queue step answers the state itself. The queue is the model's own (log 17) and idling on an empty one is its choice
(log 1). (00_scope.md, Events and blocks) -/
def Obligations.StepRunsFrontCommand : Prop :=
  (∀ (c : Instr) (rest : List Instr) (s : State), s.pending = c :: rest → step s = exec c { s with pending := rest }) ∧
  (∀ s : State, s.pending = [] → step s = .next s)

/-- For every command and every state exec answers a next state, never a fault or a refusal, and the queue of waiting
commands in it is that of the state before. A command that is not an event of an expiry does to a state what it does
to the state in which the expiry before it is closed. That a command answers next in every state is the model's
choice: a row whose condition does not hold leaves the state (log 2), a request row waits while the reply slot is full
or a frame is queued (log 5), and POWER_ON and RESTART keep the waiting commands (log 16). The queue is the model's
own (log 17), and so is closing an expiry (log 3). (00_scope.md, Behaviour statements, 95_what_each_step_holds.md) -/
def Obligations.EveryCommandKeepsTheQueue : Prop :=
  (∀ (c : Instr) (s : State), ∃ t, exec c s = .next t ∧ t.pending = s.pending) ∧
  (∀ (c : Instr) (s : State), closesExpiry c = true → exec c s = exec c s.close)

/-- From every state POWER_ON answers a next state in which the slot timer is at 0, the receiver hunts with an empty FIFO,
pending tallies are empty, the control transmitter has a budget of 16 and a SHUT GATE change pending for every port,
meters are restarted under the factory setups with baselines of 0, grace is 0, the Station Table, probe list, sweep
record, trip list and evidence are empty, the sweep timer is 30, every port is DOWN under its factory role, cells are
AUTO, the keys RELEASED and the buzzer OFF, and the management link is QUIET and empty at the rate of the straps
sampled. The waiting commands stay (log 16). State.reset is that state for straps 00 and an empty queue: the straps
are the model's choice (log 6), the spec gives them no value. (R178, R1, R4, R12, R17, R21, R40, R85, R87, R129, R152,
R164) -/
def Obligations.PowerOnStartsEveryBlock : Prop :=
  (∀ (straps : BitVec 2) (s : State), ∃ t, exec (.powerOn straps) s = .next t ∧
  t.timer = { slotCount := 0, secondCount := 0, position := 0, first := true } ∧
  t.receiver = { synced := false, fifo := [], huntSlots := 0, reported := false } ∧
  (∀ p, t.tally p = { pending := none, last := ⟨0, 0, 0⟩, held := 0 }) ∧
  t.control.budget = 16 ∧ t.control.markWaiting = true ∧ t.control.emitQueue = [] ∧ t.control.refreshPtr = 0 ∧
  (∀ p : Port, t.control.pendingGate[p] = some .shut) ∧
  (∀ p k, (t.portMeters p).get k = Meter.restartedWith (factoryMeters.get k) 0) ∧ t.grace = 0 ∧ t.stations = [] ∧
  t.probes = { list := [], tagCounter := 0, recent := [], pointer := 39, retired := none, stale := 0, unknown := 0,
               foreign := 0 } ∧
  t.sweep = { record := none, number := 0, timer := 30 } ∧
  (∀ p : Port, t.port p = { role := if p.val < 36 then .desk else .trunk, state := .down, linkUp := false, strikes := 0,
                            holdOff := 0, calm := 0, decay := 0, wants := Purposes.empty, linkup := .unset }) ∧
  t.trips = [] ∧ (∀ p, t.evidenceOf p = { capture := none, repeats := 0 }) ∧
  (∀ n : Fin 80, t.panel.cells[n] = { hostOwned := false, value := .off }) ∧
  t.panel.rel = { pressed := false, run := 0 } ∧ t.panel.sil = { pressed := false, run := 0 } ∧
  t.panel.pressCounter = 0 ∧ t.panel.comboMark = false ∧ t.panel.comboCounter = 0 ∧ t.panel.doneMark = false ∧
  t.panel.buzzer = none ∧
  t.mgmt = { straps := straps, receiver := .hunting, breakCount := 0, requests := [], reply := none, line := .idle,
             talking := false, queue := [], mask := 0x07FF, flags := Flags.clear, lost := 0, discarded := 0,
             dropped := 0 } ∧
  t.profile = factoryProfile ∧ t.pending = s.pending) ∧
  (∀ s : State, s.pending = [] → exec (.powerOn 0) s = .next State.reset)

/-- At State.reset the port table is legal, the trip list is exact, the probe list and the notice queue are sound, every
meter is in range, every queue is within its bound, the Station Table and the sweep record are sound, and no frame
waits in the request queue of a QUIET link. (R87, R89, R111, R63, R168, R21, R22, R48, R117, R162) -/
def Obligations.ResetMeetsEveryInvariant : Prop :=
  PortsLegal State.reset ∧ TripListExact State.reset ∧ ProbeListSound State.reset ∧
  NoticeQueueSound State.reset.mgmt ∧ MetersInRange State.reset ∧ QueuesBounded State.reset ∧
  StationTableSound State.reset ∧ SweepSound State.reset ∧ FramesHeard State.reset

/-- If in a state every port is UNGUARDED exactly when its role is OFF, no TRUNK is BLOCKED or TESTING, strikes are at
most the strike limit and 0 for an OFF port, hold-off is at most 600 and 0 outside BLOCKED, calm is 0 outside LIMITED
and decay 0 outside OPEN, and step answers a next state, then the same holds there. (R86, R89, R99, R100, R105) -/
def Obligations.PortTableStaysLegal : Prop :=
  ∀ s t : State, PortsLegal s → step s = .next t → PortsLegal t

/-- If in a state the trip list holds exactly the ports whose state is BLOCKED, TESTING or HELD, each once, and step
answers a next state, then the same holds there. (R111, R112) -/
def Obligations.TripListStaysExact : Prop :=
  ∀ s t : State, TripListExact s → step s = .next t → TripListExact t

/-- If in a state the probe list holds at most 24 entries, no two of one origin or tag and none of tag 0, and the EMIT
queue holds one order for each QUEUED entry in the order of admission, and step answers a next state, then the same
holds there. (R18, R63, R64, R66) -/
def Obligations.ProbeListStaysSound : Prop :=
  ∀ s t : State, ProbeListSound s → step s = .next t → ProbeListSound t

/-- If in a state the notice queue holds at most 16 notices, no two with one coalescing key, each with a repeat field of
1..255 and of a kind that the mask enables, and step answers a next state, then the same holds there. (R168, R169,
R170, R172) -/
def Obligations.NoticeQueueStaysSound : Prop :=
  ∀ s t : State, NoticeQueueSound s.mgmt → step s = .next t → NoticeQueueSound t.mgmt

/-- If in a state every room meter setup is within the ranges of R22, every meter is within those of R21 (sums those of
the rings, N at most 16320, E = N - B, runs at most 32, B within the ceiling of the port's role, an OFF port's meters
held cleared) and every count waiting is at most 255, and step answers a next state, then the same holds there. (R21,
R22, R27, R35, R37, R38, R43) -/
def Obligations.MetersStayInRange : Prop :=
  ∀ s t : State, MetersInRange s → step s = .next t → MetersInRange t

/-- If in a state the sighting FIFO holds at most 64 records, the record budget is at most 16, the request queue holds at
most 4, both change runs are below 20 and every move list holds at most 4 moves, and step answers a next state, then
the same holds there. The same for the Station Table: at most 512 entries, listed in rising position below 512, no two
of one address, at most 32 pinned. The same, in states with a sound probe list, for the sweep record: first at most
last, next port first..last + 1, pacing at most 100, admitted at most the ports taken, clear, contained, looped and
skipped and the SWEEP purposes owed adding up to the ports taken, a sweep that has taken its last port not yet
complete, every SWEEP purpose carrying its number and standing for a port taken, and no SWEEP purpose without a sweep.
The same for the link state: while a frame waits in the request queue the link is TALKING. (R8, R15, R146, R158, R47,
R48, R58, R117, R118, R125, R162) -/
def Obligations.QueuesStayBounded : Prop :=
  (∀ s t : State, QueuesBounded s → step s = .next t → QueuesBounded t) ∧
  (∀ s t : State, StationTableSound s → step s = .next t → StationTableSound t) ∧
  (∀ s t : State, SweepSound s → ProbeListSound s → step s = .next t → SweepSound t) ∧
  (∀ s t : State, FramesHeard s → step s = .next t → FramesHeard t)

/-- For every command that is not POWER_ON, EVIDENCE CLEAR or RESTART, and is not a REQUEST_TAKE with an EVIDENCE CLEAR or
RESTART frame at the head of the request queue: if a port's evidence record holds a capture before the command, it
holds the same capture after it. (R130, R133, R134, R137) -/
def Obligations.LatchedEvidenceStaysUntilCleared : Prop :=
  ∀ (c : Instr) (s t : State), exec c s = .next t →
  (∀ straps, c ≠ .powerOn straps) → (∀ tag port, c ≠ .evidenceClear tag port) → (∀ tag mode, c ≠ .restart tag mode) →
  (c = .requestTake → ∀ f rest, s.mgmt.requests = f :: rest → f.kind ≠ 0x12 ∧ f.kind ≠ 0x1A) →
  ∀ p x, (s.evidenceOf p).capture = some x → (t.evidenceOf p).capture = some x

/-- With no event left due: when the command takes the events itself, the slot count goes up by 1 modulo 2^32, the
position goes up by 1 modulo 1000, and the second count goes up by 1 exactly when the position was 999; when the
events are left to their own rows, the second expiry is left due instead and the second count stands (log 3). The new
slot has a budget of 16, a SLOT mark waiting and its refresh to come; the FIFO, the receiver state and the profile
stand. When the events are left to their own rows: a receiver in HUNT counts the slot, up to 65535, and FABRIC_LOST
falls due exactly when the counter reaches 16 in an unreported episode; the end of an origin port's SENT entry falls
due exactly when its expiry stamp t is reached, (t - n) mod 65536 being 0 or at least 32768 for the new stamp n, in
ascending order of origin port; the retire period counts down and its end falls due when it reaches 0; and the pacing
counter of a sweep still taking ports counts down, the next take falling due when it reaches 0. A sweep that has taken
its last port, and a part without a sweep or a retired room id, count nothing. (R1, R2, R15, R10, R69, R83, R123) -/
def Obligations.SlotExpiryAdvancesTimer : Prop :=
  (∀ (s : State) (lines : SlotLines) (order : ExpiryOrder), s.due = [] → s.timer.position ≤ 999 →
  ∃ t, exec (.slotExpiry lines order) s = .next t ∧ t.timer.slotCount = s.timer.slotCount + 1 ∧ t.timer.first = false ∧
    (order.events ≠ .ownRows → t.timer.position = (s.timer.position + 1) % 1000 ∧
      t.timer.secondCount = if s.timer.position = 999 then s.timer.secondCount + 1 else s.timer.secondCount) ∧
    (order.events = .ownRows → t.timer.position = s.timer.position + 1 ∧ t.timer.secondCount = s.timer.secondCount ∧
      (Event.second ∈ t.due ↔ s.timer.position = 999)) ∧
    t.control.budget = 16 ∧ t.control.markWaiting = true ∧ t.control.refreshed = false ∧
    t.receiver.fifo = s.receiver.fifo ∧ t.receiver.synced = s.receiver.synced ∧ t.profile = s.profile) ∧
  (∀ (s : State) (lines : SlotLines) (admitFirst : Bool), s.due = [] →
  ∃ t, exec (.slotExpiry lines ⟨.ownRows, admitFirst⟩) s = .next t ∧
    t.receiver = (if s.receiver.synced then s.receiver
      else { s.receiver with huntSlots := min (s.receiver.huntSlots + 1) 65535 }) ∧
    (Event.fabricLost ∈ t.due ↔ s.receiver.synced = false ∧ s.receiver.reported = false ∧ s.receiver.huntSlots = 15) ∧
    (∀ o, Event.probeExpired o ∈ t.due ↔ ∃ e ∈ s.probes.list, e.origin = o ∧ ∃ x, e.expiry = some x ∧
      ((x - (s.timer.slotCount + 1).setWidth 16).toNat = 0 ∨
        32768 ≤ (x - (s.timer.slotCount + 1).setWidth 16).toNat)) ∧
    (endedOrigins t.due).Pairwise (· ≤ ·) ∧
    (∀ r, s.probes.retired = some r → t.probes.retired = some { r with left := r.left - 1 } ∧
      (Event.retireEnd ∈ t.due ↔ r.left ≤ 1)) ∧
    (s.probes.retired = none → t.probes.retired = none ∧ Event.retireEnd ∉ t.due) ∧
    (∀ r, s.sweep.record = some r → r.next ≤ r.last.val →
      t.sweep = { s.sweep with record := some { r with pacing := r.pacing - 1 } } ∧
      (Event.sweepTake ∈ t.due ↔ r.pacing ≤ 1)) ∧
    ((∀ r, s.sweep.record = some r → r.last.val < r.next) → t.sweep = s.sweep ∧ Event.sweepTake ∉ t.due))

/-- With no event left due, and not at the first slot expiry after a reset: a state u differs from the counted state in
tallies, meters, latest reports, the TALLY_HELD flag and the records-lost counter alone. In it every guarded port has
the tally state consumed for the slot before, and each meter stepped with the count that its pending tally gives,
under the setup and its role's thresholds; at a 64th expiry a meter of a port that is OPEN makes its baseline step
after that, unless grace is active as counted at this expiry; the port's report is that of the stepped meters before
the baseline step, with the held mark and grace. An UNGUARDED port keeps its meters and its latest report and has its
tally state cleared. TALLY_HELD is set when a step was held, and each late tally is counted lost. With the events left
to their own rows (log 3) the meters, tallies and reports of u are those of the next state, the roles and the profile
stand; and that state, once the reports that wait in it behind a reopening have been acted on (log 4), is u after the
reports of its guarded ports have been acted on one by one in ascending port order, with the admission left due. With
the events taken after the works, the next state is u after the reports of its guarded ports have been acted on one by
one in ascending port order, then the admission, then the events. (R13, R14, R23, R30, R35, R36, R41) -/
def Obligations.SlotExpiryStepsEveryGuardedMeter : Prop :=
  ∀ (s : State) (lines : SlotLines), s.due = [] → s.timer.first = false → s.timer.position ≤ 999 → s.mgmt.lost ≤ 65535 →
  ∃ u : State,
    OnlyIn [.tallies, .meters, .reports, .mgmt] (s.countSlot lines) u ∧
    u.mgmt = { (s.countSlot lines).mgmt with
      lost := min (s.mgmt.lost + (allPorts.filter fun p => s.guarded p &&
        ((s.tally p).consume ((s.timer.slotCount - 1).setWidth 8)).late).length) 65535,
      flags := { s.mgmt.flags with
        tallyHeld := s.mgmt.flags.tallyHeld || allPorts.any fun p => s.guarded p &&
          ((s.tally p).consume ((s.timer.slotCount - 1).setWidth 8)).held } } ∧
    (∀ p, s.guarded p = true →
      let use := (s.tally p).consume ((s.timer.slotCount - 1).setWidth 8)
      let grace := if s.timer.position = 999 then decide (1 < s.grace) else decide (0 < s.grace)
      let stepped := fun k => ((s.portMeters p).get k).step (s.profile.meters.get k)
        ((s.profile.meters.get k).thresholds (s.port p).role) (use.counts.get k)
      u.tally p = use.tally ∧
      (∀ k, (u.portMeters p).get k =
        if s.timer.slotCount.toNat % 64 = 63 ∧ (s.port p).state = .opened ∧ grace = false then
          (stepped k).baselineStep (s.profile.meters.get k) ((s.profile.meters.get k).thresholds (s.port p).role)
        else stepped k) ∧
      ∃ r, u.report p = some r ∧ r.held = use.held ∧ r.grace = grace ∧
        ∀ k, r.classes.get k = (stepped k).report s.profile.confirmCount) ∧
    (∀ p, s.guarded p = false → u.portMeters p = s.portMeters p ∧ u.report p = s.report p ∧
      u.tally p = PortTally.start) ∧
    (∀ admitFirst : Bool, ∃ t, exec (.slotExpiry lines ⟨.ownRows, admitFirst⟩) s = .next t ∧ t.tallies = u.tallies ∧
      t.meters = u.meters ∧ t.reports = u.reports ∧ t.profile = s.profile ∧ (∀ p, (t.port p).role = (s.port p).role) ∧
      t.finishReports = ((allPorts.filter s.guarded).foldl (fun v p => match u.report p with
        | some r => v.actOnReport p r
        | none => v) u).pushDue .admission) ∧
    exec (.slotExpiry lines ⟨.after, false⟩) s = .next
      ((allPorts.filter s.guarded).foldl (fun v p => match u.report p with
        | some r => v.actOnReport p r
        | none => v) u).admission.close

/-- A slot expiry whose admission comes last, after its events have been taken before or between the works, answers a next
state in which the probe list holds 24 entries or more, or every port whose want set is not empty has an entry in the
list. With the events left to their own rows the admission stays due, and once the expiry is closed the same holds, at
a second expiry too: closing takes the admission after every other event, the model's choice among the orders that R67
leaves open (log 3). The admission treats the forty ports one by one, from the port after the pointer on, wrapping
from 39 to 0; it is what the closing of an expiry does with only the admission left due, and what SLOT_EXPIRY's own
admission does once no end of an entry is due. A port with a want in its set, no entry in the list and fewer than 24
entries there is admitted, and any other is passed over and leaves the state as it stands. Admitting it puts at the
tail of the list a QUEUED entry with its whole want set, empties the want set, puts at the tail of the EMIT queue the
order with the room id in force, the port and the tag, makes the port the pointer, and changes nothing else but the
tag counter and the recent-tag window. The tag is the first value after the tag counter that is neither 0 nor the tag
of an entry of the list; it becomes the tag counter and the newest of the window, which keeps the last 64. (R18, R64,
R65, R66, R67, R69) -/
def Obligations.SlotExpiryAdmitsWaitingWants : Prop :=
  (∀ (s : State) (lines : SlotLines) (place : EventPlace), place = .before ∨ place = .between →
  ∃ t, exec (.slotExpiry lines ⟨place, false⟩) s = .next t ∧
    (24 ≤ t.probes.list.length ∨ ∀ p, (t.port p).wants.isEmpty = false → (t.entryOf p).isSome = true)) ∧
  (∀ (s : State) (lines : SlotLines) (admitFirst : Bool),
  ∃ t, exec (.slotExpiry lines ⟨.ownRows, admitFirst⟩) s = .next t ∧
    (24 ≤ t.close.probes.list.length ∨
      ∀ p, (t.close.port p).wants.isEmpty = false → (t.close.entryOf p).isSome = true)) ∧
  (∀ s : State, s.admitWants = ((List.range 40).map fun i => Fin.ofNat 40 (s.probes.pointer.val + 1 + i)).foldl
    (fun v p => v.admitPort p) s) ∧
  (∀ s : State, s.due = [.admission] → s.close = ({ s with due := [] } : State).admitWants) ∧
  (∀ s : State, endedOrigins s.due = [] → s.admission = s.admitWants) ∧
  (∀ u : Purposes, u.isEmpty = true ↔ u.linkup = false ∧ u.storm = false ∧ u.flap = false ∧ u.sweep = none ∧
    u.recover = false ∧ u.host = none) ∧
  (∀ (s : State) (p : Port),
  ((s.port p).wants.isEmpty = true ∨ (∃ e ∈ s.probes.list, e.origin = p) ∨ 24 ≤ s.probes.list.length →
    s.admitPort p = s) ∧
  ((s.port p).wants.isEmpty = false → (∀ e ∈ s.probes.list, e.origin ≠ p) → s.probes.list.length < 24 →
    ∃ tag : Half, tag ≠ 0 ∧ (∀ e ∈ s.probes.list, e.tag ≠ tag) ∧
      (∀ x : Half, (x - (s.probes.tagCounter + 1)).toNat < (tag - (s.probes.tagCounter + 1)).toNat →
        x = 0 ∨ ∃ e ∈ s.probes.list, e.tag = x) ∧
      s.admitPort p = { s with
        ports := s.ports.set p { s.port p with wants := Purposes.empty },
        control := { s.control with
          emitQueue := s.control.emitQueue ++ [{ room := s.profile.roomId, origin := p, tag := tag }] },
        probes := { s.probes with
          list := s.probes.list ++ [{ tag := tag, origin := p, purposes := (s.port p).wants, expiry := none }],
          tagCounter := tag,
          recent := (s.probes.recent ++ [tag]).drop (s.probes.recent.length - 63),
          pointer := p } }))

/-- With the second expiry still to be taken and no step report waiting, SECOND_EXPIRY answers a next state in which the
position is 0, the second count is one higher, grace and the sweep timer are one lower unless 0, a BLOCKED port's
hold-off is one lower, an OPEN port's decay counter one higher and every other record unchanged, the end of a hold-
off, of grace and of the sweep timer falls due where it reaches 0 and a strike decay where the decay counter reaches
the decay period, no unpinned station as old as the station age and no move 5000 slots old is left, and only the
timer, grace, stations, sweep, ports and the events due have changed. While step reports wait behind a reopening left
to its row, SECOND_EXPIRY does what it does to the state in which they have been acted on (log 4, the model's choice).
(R2, R41, R55, R56, R101, R104, R121) -/
def Obligations.SecondExpiryCounts : Prop :=
  (∀ s : State, Event.second ∈ s.due → exec .secondExpiry s = exec .secondExpiry s.finishReports) ∧
  (∀ s : State, Event.second ∈ s.due → ReportsDone s → ∃ t, exec .secondExpiry s = .next t ∧
  t.timer = { s.timer with secondCount := s.timer.secondCount + 1, position := 0 } ∧
  t.grace = s.grace - 1 ∧ t.sweep = { s.sweep with timer := s.sweep.timer - 1 } ∧
  (∀ p, t.port p = match (s.port p).state with
    | .blocked => { s.port p with holdOff := (s.port p).holdOff - 1 }
    | .opened => { s.port p with decay := (s.port p).decay + 1 }
    | _ => s.port p) ∧
  (∀ e, e ∈ t.stations ↔ ∃ e0 ∈ s.stations,
    (e0.pinned = true ∨ (s.timer.secondCount + 1 - e0.lastSeen).toNat < s.profile.stationAge) ∧
    e = { e0 with moves := e0.moves.filter fun m => decide (stampAge s.stamp m.stamp < 5000) }) ∧
  (∀ p, (s.port p).state = .blocked → (s.port p).holdOff = 1 → Event.holdOff p ∈ t.due) ∧
  (∀ p, (s.port p).state = .opened → s.profile.decayPeriod * 60 ≤ (s.port p).decay + 1 →
    Event.strikeDecay p ∈ t.due) ∧
  (s.grace = 1 → Event.grace ∈ t.due) ∧ (s.sweep.timer = 1 → Event.autoSweep ∈ t.due) ∧
  OnlyIn [.timer, .grace, .stations, .sweep, .ports, .due] s t)

/-- A group passes the check when it is ten whole bytes of which the last is the CRC-8 of the others: a register that
starts at 0, takes each byte by exclusive or and is shifted left eight times, with 0x07 put in by exclusive or for
each 1 carried out. A group of ten bytes is a FILL for kind 0x0F and port 0xFF; a TALLY, SAMPLE, PROBE or LINK with
the fields of section 12.2 for kinds 1 to 4, a port below 40, zero bytes where the table has them and a state byte of
0 or 1; and bad otherwise. With no event left due and the receiver SYNCED: a record whose check fails is counted lost,
HUNTED is set and the receiver is in HUNT; a good FILL changes nothing; a bad record is counted lost; a good record
joins the FIFO at the tail while it holds fewer than 64, and otherwise OVERRUN is set and the record counted lost.
Nothing else changes. With the receiver in HUNT: a good FILL makes it SYNCED, sets the hunt-slot counter to 0 and
clears the reported mark, and raises FABRIC_BACK with the hunt-slot count exactly when the episode was reported; every
other record is counted lost and changes nothing else. (R4, R5, R6, R7, R8, R10, R181, R182) -/
def Obligations.ReceiverTreatsRecordsByState : Prop :=
  (∀ (s : State) (bytes : List Byte) (extra : Nat), s.due = [] → s.receiver.synced = true →
  (checkPasses bytes extra = false → exec (.sightingRecordReceive bytes extra) s = .next
    { s with receiver := { s.receiver with synced := false },
             mgmt := { s.mgmt with lost := min (s.mgmt.lost + 1) 65535, flags := { s.mgmt.flags with hunted := true } } }) ∧
  (checkPasses bytes extra = true → parseRecord bytes = .fill →
    exec (.sightingRecordReceive bytes extra) s = .next s) ∧
  (checkPasses bytes extra = true → parseRecord bytes = .bad → exec (.sightingRecordReceive bytes extra) s = .next
    { s with mgmt := { s.mgmt with lost := min (s.mgmt.lost + 1) 65535 } }) ∧
  (∀ r, checkPasses bytes extra = true → parseRecord bytes = .good r → s.receiver.fifo.length < 64 →
    exec (.sightingRecordReceive bytes extra) s = .next
      { s with receiver := { s.receiver with fifo := s.receiver.fifo ++ [r] } }) ∧
  (∀ r, checkPasses bytes extra = true → parseRecord bytes = .good r → 64 ≤ s.receiver.fifo.length →
    exec (.sightingRecordReceive bytes extra) s = .next
      { s with mgmt := { s.mgmt with lost := min (s.mgmt.lost + 1) 65535,
                                     flags := { s.mgmt.flags with overrun := true } } })) ∧
  (∀ (s : State) (bytes : List Byte) (extra : Nat), s.due = [] → s.receiver.synced = false →
  (checkPasses bytes extra = true → parseRecord bytes = .fill → exec (.sightingRecordReceive bytes extra) s = .next
    { s with receiver := { s.receiver with synced := true, huntSlots := 0, reported := false },
             mgmt := if s.receiver.reported then s.mgmt.raise (.fabricBack s.receiver.huntSlots s.timer.secondCount)
               else s.mgmt }) ∧
  (checkPasses bytes extra = false ∨ parseRecord bytes ≠ .fill → exec (.sightingRecordReceive bytes extra) s = .next
    { s with mgmt := { s.mgmt with lost := min (s.mgmt.lost + 1) 65535 } })) ∧
  (∀ (bytes : List Byte) (extra : Nat), checkPasses bytes extra = true ↔
  bytes.length = 10 ∧ extra = 0 ∧ bytes[9]? = some (crc8 (bytes.take 9))) ∧
  (crc8 [] = 0 ∧ ∀ (bytes : List Byte) (b : Byte), crc8 (bytes ++ [b]) =
  (fun r : Byte => if r.getLsbD 7 then (r <<< 1) ^^^ 0x07 else r <<< 1)^[8] (crc8 bytes ^^^ b)) ∧
  (∀ b0 b1 b2 b3 b4 b5 b6 b7 b8 b9 : Byte,
  (parseRecord [b0, b1, b2, b3, b4, b5, b6, b7, b8, b9] = .fill ↔ b0 = 0x0F ∧ b1 = 0xFF) ∧
  (∀ (p : Port) (slot : Byte) (counts : PerClass Nat),
    parseRecord [b0, b1, b2, b3, b4, b5, b6, b7, b8, b9] = .good (.tally p slot counts) ↔
    b0 = 0x01 ∧ b1.toNat = p.val ∧ slot = b2 ∧ counts = ⟨b3.toNat, b4.toNat, b5.toNat⟩ ∧ b6 = 0 ∧ b7 = 0 ∧ b8 = 0) ∧
  (∀ (p : Port) (a : Address),
    parseRecord [b0, b1, b2, b3, b4, b5, b6, b7, b8, b9] = .good (.sample p a) ↔
    b0 = 0x02 ∧ b1.toNat = p.val ∧ a = b2 ++ b3 ++ b4 ++ b5 ++ b6 ++ b7 ∧ b8 = 0) ∧
  (∀ (p : Port) (room : Half) (origin : Byte) (tag : Half),
    parseRecord [b0, b1, b2, b3, b4, b5, b6, b7, b8, b9] = .good (.probe p room origin tag) ↔
    b0 = 0x03 ∧ b1.toNat = p.val ∧ room = b2 ++ b3 ∧ origin = b4 ∧ tag = b5 ++ b6 ∧ b7 = 0 ∧ b8 = 0) ∧
  (∀ (p : Port) (up : Bool),
    parseRecord [b0, b1, b2, b3, b4, b5, b6, b7, b8, b9] = .good (.link p up) ↔
    b0 = 0x04 ∧ b1.toNat = p.val ∧ b2 = (if up then 1 else 0) ∧ b3 = 0 ∧ b4 = 0 ∧ b5 = 0 ∧ b6 = 0 ∧ b7 = 0 ∧ b8 = 0))

/-- With no event left due and a TALLY at the head of the sighting FIFO, TALLY_DISPATCH takes it off and the pending tally
of its port becomes its slot number and counts, whatever it held and whatever the port's role; last counts, held-slot
count and all else stand. For a port with held-slot count 0 and no pending tally, the k-th consumption in a row
(counting from 0) gives its last counts, marked held, for k below 4, and zeros, not marked held, from 4 on. A pending
tally with the number of the slot gives its counts, which become the last counts, with the held-slot count 0, not held
and not late. One with another number is late and leaves the slot without a tally, as none does, which is not late:
below a held-slot count of 4 the last counts are given, marked held, and the held-slot count goes up by 1; at 4 zeros
are given and become the last counts, not held, and it stays at 4. In every case the pending tally is empty after it.
(R9, R12, R13, R14) -/
def Obligations.TallyIsStoredAndHeldForFourSlots : Prop :=
  (∀ (s : State) (p : Port) (slot : Byte) (counts : PerClass Nat) (rest : List SightingRecord),
  s.due = [] → s.receiver.fifo = .tally p slot counts :: rest →
  exec .tallyDispatch s = .next
    { s with receiver := { s.receiver with fifo := rest },
             tallies := s.tallies.set p { s.tally p with pending := some { slot := slot, counts := counts } } }) ∧
  (∀ (t : PortTally) (slot : Byte) (k : Nat), t.held = 0 → t.pending = none →
  (k < 4 → ((fun u : PortTally => (u.consume slot).tally)^[k] t).consume slot =
    { counts := t.last, tally := { pending := none, last := t.last, held := k + 1 }, late := false, held := true }) ∧
  (4 ≤ k → ((fun u : PortTally => (u.consume slot).tally)^[k] t).consume slot =
    { counts := ⟨0, 0, 0⟩, tally := { pending := none, last := ⟨0, 0, 0⟩, held := 4 }, late := false, held := false })) ∧
  (∀ (t : PortTally) (slot : Byte) (x : Tally), t.pending = some x → x.slot = slot →
  t.consume slot =
    { counts := x.counts, tally := { pending := none, last := x.counts, held := 0 }, late := false, held := false }) ∧
  (∀ (t : PortTally) (slot : Byte) (late : Bool), (late = false ∧ t.pending = none) ∨
    (late = true ∧ ∃ x, t.pending = some x ∧ x.slot ≠ slot) →
  (t.held < 4 → t.consume slot =
    { counts := t.last, tally := { pending := none, last := t.last, held := t.held + 1 }, late := late, held := true }) ∧
  (t.held = 4 → t.consume slot =
    { counts := ⟨0, 0, 0⟩, tally := { pending := none, last := ⟨0, 0, 0⟩, held := 4 }, late := late, held := false }))

/-- With no event left due and budget left: a waiting SLOT mark is granted with the slot number, and no GATE change, EMIT
order or refresh is; after it the pending GATE change of the lowest port is granted with the port's gate as it stands
and is no longer pending, and no EMIT order or refresh is; with no GATE change pending the EMIT order at the head of
the queue is granted, and the refresh is not while an order waits; with no GATE change and no EMIT order waiting the
refresh is granted with the gate of the port at the pointer, which advances, and once it has been granted in the slot
it is not granted again. Each grant uses one unit of the budget. Without a waiting SLOT mark, GATE change or EMIT
order the row of each grants nothing (log 2). With the budget spent none of the four grants anything. The ten bytes of
a SLOT, GATE and EMIT record are those of section 12.2 with their check. (R15, R16, R17, R18, R19, R88, R181, R182,
12_wire_formats.md, 12.2 Lane records) -/
def Obligations.ControlLaneGrantsInOrder : Prop :=
  (∀ s : State, s.due = [] → 0 < s.control.budget →
  (s.control.markWaiting = true →
    exec .slotMarkGrant s = .next { s with control := { s.control with budget := s.control.budget - 1, markWaiting := false,
                                                                       lane := some (.slotMark (s.timer.slotCount.setWidth 8)) } } ∧
    exec .gateChangeGrant s = .next s ∧ exec .emitGrant s = .next s ∧ exec .refreshGateGrant s = .next s) ∧
  (∀ p : Port, s.control.markWaiting = false → s.control.pendingGate[p].isSome = true →
    (∀ q : Port, q < p → s.control.pendingGate[q] = none) →
    exec .gateChangeGrant s = .next { s with control := { s.control with budget := s.control.budget - 1,
                                                                         lane := some (.gate p (gateOf (s.port p).state)),
                                                                         pendingGate := s.control.pendingGate.set p none } } ∧
    exec .emitGrant s = .next s ∧ exec .refreshGateGrant s = .next s) ∧
  (s.control.markWaiting = false → exec .slotMarkGrant s = .next s) ∧
  (s.control.markWaiting = false → (∀ q : Port, s.control.pendingGate[q] = none) →
    exec .gateChangeGrant s = .next s ∧
    (s.control.emitQueue = [] → exec .emitGrant s = .next s) ∧
    (∀ o rest, s.control.emitQueue = o :: rest → exec .refreshGateGrant s = .next s ∧
      ∃ t, exec .emitGrant s = .next t ∧ t.control = { s.control with budget := s.control.budget - 1, lane := some (.emit o),
                                                                      emitQueue := rest }) ∧
    (s.control.refreshed = true → exec .refreshGateGrant s = .next s)) ∧
  (s.control.markWaiting = false → (∀ q : Port, s.control.pendingGate[q] = none) → s.control.emitQueue = [] →
    s.control.refreshed = false →
    exec .refreshGateGrant s = .next { s with control := { s.control with budget := s.control.budget - 1, refreshed := true,
                                                                          lane := some (.gate s.control.refreshPtr
                                                                            (gateOf (s.port s.control.refreshPtr).state)),
                                                                          refreshPtr := s.control.refreshPtr + 1 } })) ∧
  (∀ s : State, s.due = [] → s.control.budget = 0 → exec .slotMarkGrant s = .next s ∧ exec .gateChangeGrant s = .next s ∧
  exec .emitGrant s = .next s ∧ exec .refreshGateGrant s = .next s) ∧
  (∀ n : Byte, controlBytes (.slotMark n) = [0x11, 0xFF, n, 0, 0, 0, 0, 0, 0, crc8 [0x11, 0xFF, n, 0, 0, 0, 0, 0, 0]]) ∧
  (∀ (p : Port) (g : Gate), ∃ b c : Byte, b.toNat = p.val ∧
  c.toNat = (match g with | .pass => 0 | .limit => 1 | .shut => 2) ∧
  controlBytes (.gate p g) = [0x12, b, c, 0, 0, 0, 0, 0, 0, crc8 [0x12, b, c, 0, 0, 0, 0, 0, 0]]) ∧
  (∀ o : EmitOrder, ∃ b r1 r0 t1 t0 : Byte, b.toNat = o.origin.val ∧ o.room = r1 ++ r0 ∧ o.tag = t1 ++ t0 ∧
  controlBytes (.emit o) = [0x13, b, r1, r0, t1, t0, 0, 0, 0, crc8 [0x13, b, r1, r0, t1, t0, 0, 0, 0]])

/-- With no event left due, the SLOT mark sent, budget left and no GATE change waiting, EMIT_GRANT takes the order at the
head of the queue: it is on the lane, the budget is one lower, and in a sound probe list exactly the entry of its tag
becomes SENT, its expiry stamp the stamp plus the probe timeout; every other entry and all else stand. (R16, R18, R68) -/
def Obligations.EmitGrantMakesEntrySent : Prop :=
  ∀ (s : State) (o : EmitOrder) (rest : List EmitOrder), s.due = [] → ProbeListSound s → 0 < s.control.budget →
  s.control.markWaiting = false → (∀ q : Port, s.control.pendingGate[q] = none) → s.control.emitQueue = o :: rest →
  ∃ t, exec .emitGrant s = .next t ∧
    t.control = { s.control with budget := s.control.budget - 1, lane := some (.emit o), emitQueue := rest } ∧
    t.probes = { s.probes with list := t.probes.list } ∧
    (∃ e, e ∈ s.probes.list ∧ e.tag = o.tag ∧ e.origin = o.origin ∧ e.expiry = none ∧
      { e with expiry := some (s.timer.slotCount.setWidth 16 + BitVec.ofNat 16 s.profile.probeTimeout) } ∈ t.probes.list) ∧
    (∀ e, e.tag ≠ o.tag → (e ∈ t.probes.list ↔ e ∈ s.probes.list)) ∧
    t.probes.list.length = s.probes.list.length ∧ OnlyIn [.control, .probes] s t

/-- For a setup with one of the five windows, a meter restarted with any baseline and then stepped with a list of counts:
H1 holds the last W counts, oldest first, behind the zeros that no count has replaced yet, and S1 is their sum; in the
BOX shape H2 and S2 are zero and L is S1; in the TRIANGLE shape H2 holds the S1 of the last W steps, oldest first, S2
is their sum and L is floor(S2 / W); N is L times 64 / W. So N is 64/W times the sum of the last W counts for BOX, and
64/W times the floor of the W-th part of the sum of the last W such window sums for TRIANGLE, missing counts being 0.
With counts of at most 255, S1 is at most 255 W, S2 at most 255 W^2 and N at most 16320. (R24, R25, R26) -/
def Obligations.MeterLevelIsWindowSum : Prop :=
  ∀ (c : ClassSetup) (th : Thresholds) (base : Nat) (counts : List Nat), c.window ∈ [4, 8, 16, 32, 64] →
  let m := counts.foldl (fun m n => m.step c th n) (Meter.restartedWith c base)
  m.h1 = (List.replicate c.window 0 ++ counts).drop counts.length ∧ m.s1 = m.h1.sum ∧
  (c.shape = .box → m.h2 = List.replicate c.window 0 ∧ m.s2 = 0 ∧ m.level = m.s1 * (64 / c.window) ∧
    m.level = (counts.reverse.take c.window).sum * (64 / c.window)) ∧
  (c.shape = .triangle →
    m.h2 = ((List.range c.window).map fun j => ((counts.reverse.drop j).take c.window).sum).reverse ∧ m.s2 = m.h2.sum ∧
    m.level = m.s2 / c.window * (64 / c.window) ∧ m.level =
      ((List.range c.window).map fun j => ((counts.reverse.drop j).take c.window).sum).sum / c.window * (64 / c.window)) ∧
  ((∀ n ∈ counts, n ≤ 255) → m.s1 ≤ 255 * c.window ∧ m.s2 ≤ 255 * c.window ^ 2 ∧ m.level ≤ 16320)

/-- For every meter, setup, threshold set and count, the stepped meter has E = N - B with the baseline unchanged; if it
was not priming, STORM, SEVERE and CALM are raised exactly when E is at least T_limit, at least T_block, at most
T_calm; if it was priming none is raised; the storm and severe runs go up by 1 to at most 32 on a step with their
condition and are 0 otherwise; and the priming remaining goes down by 1 unless 0. The report of the stepped meter
under a confirm count carries its N, B, E, conditions and priming remaining, with STORM confirmed exactly when the
storm run, and SEVERE confirmed exactly when the severe run, is at least the confirm count. (R27, R28, R29, R30, R32) -/
def Obligations.MeterStepRaisesConditions : Prop :=
  ∀ (c : ClassSetup) (th : Thresholds) (n : Nat) (m : Meter),
  (m.step c th n).base = m.base ∧ (m.step c th n).excess = ((m.step c th n).level : Int) - (m.base : Int) ∧
  (m.priming = 0 → ((m.step c th n).storm = true ↔ th.limit ≤ (m.step c th n).excess) ∧
    ((m.step c th n).severe = true ↔ th.block ≤ (m.step c th n).excess) ∧
    ((m.step c th n).calm = true ↔ (m.step c th n).excess ≤ th.calm)) ∧
  (m.priming ≠ 0 → (m.step c th n).storm = false ∧ (m.step c th n).severe = false ∧ (m.step c th n).calm = false) ∧
  (m.step c th n).stormRun = (if (m.step c th n).storm then min (m.stormRun + 1) 32 else 0) ∧
  (m.step c th n).severeRun = (if (m.step c th n).severe then min (m.severeRun + 1) 32 else 0) ∧
  (m.step c th n).priming = m.priming - 1 ∧
  (∀ confirm : Nat, let r := (m.step c th n).report confirm
    r.level = (m.step c th n).level ∧ r.base = m.base ∧ r.excess = (m.step c th n).excess ∧
    r.storm = (m.step c th n).storm ∧ r.severe = (m.step c th n).severe ∧ r.calm = (m.step c th n).calm ∧
    r.priming = m.priming - 1 ∧ (r.stormConfirmed = true ↔ confirm ≤ (m.step c th n).stormRun) ∧
    (r.severeConfirmed = true ↔ confirm ≤ (m.step c th n).severeRun))

/-- For a meter not priming whose E = N - B is below T_limit and whose baseline is within a ceiling of 0 or more: the
baseline after the step is B plus floor((N - B) / 2^a), or the ceiling when that is lower; when N is below B it is
lower than B and not below N; when N is B or above it by less than 2^a it is B; when N is above B it is at least B and
at most N; and E is formed again. A priming meter or one with E at T_limit or above is left as it stands, by the
conditions of R36. (R37) -/
def Obligations.BaselineStepMovesTowardLevel : Prop :=
  ∀ (c : ClassSetup) (th : Thresholds) (m : Meter), m.excess = (m.level : Int) - (m.base : Int) → 0 ≤ th.ceil →
  (m.base : Int) ≤ th.ceil →
  (m.priming = 0 → m.excess < th.limit →
    ((m.baselineStep c th).base : Int) =
      min ((m.base : Int) + ((m.level : Int) - (m.base : Int)) / ((2 ^ c.shift : Nat) : Int)) th.ceil ∧
    ((m.baselineStep c th).base : Int) ≤ th.ceil ∧
    (m.level < m.base → (m.baselineStep c th).base < m.base ∧ m.level ≤ (m.baselineStep c th).base) ∧
    (m.base ≤ m.level → m.level - m.base < 2 ^ c.shift → (m.baselineStep c th).base = m.base) ∧
    (m.base ≤ m.level → m.base ≤ (m.baselineStep c th).base ∧ (m.baselineStep c th).base ≤ m.level) ∧
    (m.baselineStep c th).excess = (m.level : Int) - ((m.baselineStep c th).base : Int)) ∧
  (m.priming ≠ 0 ∨ th.limit ≤ m.excess → m.baselineStep c th = m)

/-- With no event left due and a SAMPLE at the head of the FIFO: on a port that is not OPEN or LIMITED or not guarded,
only the FIFO changes; at the home of its entry, that entry's last-seen becomes the second count and nothing else of
the table changes; for an address not in a table of fewer than 512 entries, one entry joins, unpinned, without moves,
at a position no entry holds and below which every position is held, and the others stay. (R48, R49, R50, R51) -/
def Obligations.SampleLearnsRefreshesOrIsDropped : Prop :=
  ∀ (s : State) (p : Port) (a : Address) (rest : List SightingRecord), s.due = [] →
  s.receiver.fifo = .sample p a :: rest →
  ((s.port p).role = .off ∨ (s.port p).state ≠ .opened ∧ (s.port p).state ≠ .limited →
    exec .sampleDispatch s = .next { s with receiver := { s.receiver with fifo := rest } }) ∧
  ((s.port p).role ≠ .off → (s.port p).state = .opened ∨ (s.port p).state = .limited →
    (∀ e, findStation a s.stations = some e → e.home = p →
      exec .sampleDispatch s = .next { s with
        receiver := { s.receiver with fifo := rest },
        stations := s.stations.map fun x => if x.address = a then { x with lastSeen := s.timer.secondCount } else x }) ∧
    (findStation a s.stations = none → s.stations.length < 512 → (s.stations.map (·.position)).Pairwise (· < ·) →
      ∃ t new, exec .sampleDispatch s = .next t ∧ t.receiver = { s.receiver with fifo := rest } ∧
        new.address = a ∧ new.home = p ∧ new.lastSeen = s.timer.secondCount ∧ new.pinned = false ∧ new.moves = [] ∧
        (∀ e ∈ s.stations, e.position ≠ new.position) ∧
        (∀ n < new.position, ∃ e ∈ s.stations, e.position = n) ∧
        t.stations.Perm (new :: s.stations) ∧ (t.stations.map (·.position)).Pairwise (· < ·) ∧
        OnlyIn [.receiver, .stations] s t))

/-- With no event left due and a SAMPLE of an address not in the table at the head, on a guarded OPEN or LIMITED port, and
a table of 512 entries listed in rising position below 512 with some unpinned entry: SAMPLE_DISPATCH removes one entry
and adds one at its position, with the port as home, last-seen the second count, unpinned and without moves; the
removed entry is unpinned, no unpinned entry has an older last-seen, and none of the same last-seen stands at a lower
position. The same of every insertion into such a table, the new entry pinned or not. (R48, R49, R50, R58) -/
def Obligations.FullTableEvictsOldestUnpinned : Prop :=
  (∀ (table : List StationEntry) (a : Address) (home : Port) (now : Word) (pinned : Bool), table.length = 512 →
  (table.map (·.position)).Pairwise (· < ·) → (∀ e ∈ table, e.position < 512) → (∃ e ∈ table, e.pinned = false) →
  ∃ v ∈ table, v.pinned = false ∧ (∀ e ∈ table, e.pinned = false → v.lastSeen.toNat ≤ e.lastSeen.toNat) ∧
    (∀ e ∈ table, e.pinned = false → e.lastSeen = v.lastSeen → v.position ≤ e.position) ∧
    ∀ e, e ∈ insertStation a home now pinned table ↔
      (e ∈ table ∧ e ≠ v) ∨
      e = { position := v.position, address := a, home := home, lastSeen := now, pinned := pinned, moves := [] }) ∧
  (∀ (s : State) (p : Port) (a : Address) (rest : List SightingRecord), s.due = [] →
  s.receiver.fifo = .sample p a :: rest → (s.port p).role ≠ .off →
  (s.port p).state = .opened ∨ (s.port p).state = .limited → findStation a s.stations = none →
  s.stations.length = 512 → (s.stations.map (·.position)).Pairwise (· < ·) → (∀ e ∈ s.stations, e.position < 512) →
  (∃ e ∈ s.stations, e.pinned = false) →
  ∃ t, exec .sampleDispatch s = .next t ∧ t.receiver = { s.receiver with fifo := rest } ∧
    OnlyIn [.receiver, .stations] s t ∧ t.stations.length = 512 ∧
    ∃ v ∈ s.stations, v.pinned = false ∧ (∀ e ∈ s.stations, e.pinned = false → v.lastSeen.toNat ≤ e.lastSeen.toNat) ∧
      (∀ e ∈ s.stations, e.pinned = false → e.lastSeen = v.lastSeen → v.position ≤ e.position) ∧
      ∀ e, e ∈ t.stations ↔ (e ∈ s.stations ∧ e ≠ v) ∨
        e = { position := v.position, address := a, home := p, lastSeen := s.timer.secondCount, pinned := false,
              moves := [] })

/-- With no event left due and a SAMPLE at the head on a guarded OPEN or LIMITED port p of a station whose home is another
port: without a flap the entry has the move at the front of at most four, last-seen refreshed, and home p unless it is
pinned, and nothing else changes; with a flap the entry has an empty move list and the home it then has, FLAP is
raised naming p and the partner q, which is not p, and FLAP joins the QUEUED entry, or else the want set, of p, and of
q when q is guarded and OPEN or LIMITED; every port's record, every other purpose and all else of the Probe Engine
stand. A flap is found exactly when the list holds at least the flap limit of moves and that many of the newest all
have an age below the flap window; the partner is the port of the second-newest move when there is one and it is not
p, and the home as it stood otherwise. (R47, R52, R53, R54, R62) -/
def Obligations.MoveIsListedAndFlapsProbe : Prop :=
  (∀ (s : State) (p : Port) (a : Address) (rest : List SightingRecord) (e : StationEntry),
  s.due = [] → s.receiver.fifo = .sample p a :: rest → (s.port p).role ≠ .off →
  (s.port p).state = .opened ∨ (s.port p).state = .limited → findStation a s.stations = some e → e.home ≠ p →
  (flapFound s.profile.flapLimit s.profile.flapWindow s.stamp ((⟨p, s.stamp⟩ :: e.moves).take 4) = false →
    exec .sampleDispatch s = .next { s with
      receiver := { s.receiver with fifo := rest },
      stations := s.stations.map fun x => if x.address = a then
        { e with moves := (⟨p, s.stamp⟩ :: e.moves).take 4, lastSeen := s.timer.secondCount,
                 home := if e.pinned then e.home else p } else x }) ∧
  (flapFound s.profile.flapLimit s.profile.flapWindow s.stamp ((⟨p, s.stamp⟩ :: e.moves).take 4) = true →
    ∃ t q, exec .sampleDispatch s = .next t ∧ q = flapPartner p e.home ((⟨p, s.stamp⟩ :: e.moves).take 4) ∧ q ≠ p ∧
      t.receiver = { s.receiver with fifo := rest } ∧
      t.stations = (s.stations.map fun x => if x.address = a then
        { e with moves := [], lastSeen := s.timer.secondCount, home := if e.pinned then e.home else p } else x) ∧
      t.mgmt = s.mgmt.raise (.flap p q a s.timer.secondCount) ∧
      (let wanted := fun r : Port => decide (r = p ∨ r = q ∧ (s.port q).role ≠ .off ∧
          ((s.port q).state = .opened ∨ (s.port q).state = .limited))
       (∀ r, t.port r = { s.port r with wants := (t.port r).wants }) ∧
       PurposeJoined wanted (fun u => { u with flap := true }) s t) ∧
      OnlyIn [.receiver, .stations, .mgmt, .ports, .probes] s t)) ∧
  (∀ (limit window : Nat) (now : Half) (moves : List Move), flapFound limit window now moves = true ↔
    limit ≤ moves.length ∧ ∀ m ∈ moves.take limit, (now - m.stamp).toNat < window) ∧
  (∀ (p home : Port) (newest second : Move) (older : List Move),
    flapPartner p home (newest :: second :: older) = (if second.port = p then home else second.port) ∧
    flapPartner p home [newest] = home)

/-- With no event left due and LINK UP at the head of the FIFO for a DOWN port: the port is PRIMING with link UP, linkup
result NONE and its role and strikes kept, its counters are 0, its three meters are restarted keeping their baselines,
LINKUP joins its QUEUED entry, or else its want set, and every other port and purpose, the rest of the Probe Engine,
every gate and all else but the FIFO stand; a DOWN port that stood in the trip list, which no run reaches, leaves it.
That a purpose set where it is present counts as set from then on (R77) is the model's choice (log 8, DEDUCED). (R90,
R91, R33, R62) -/
def Obligations.LinkUpPrimesDownPort : Prop :=
  ∀ (s : State) (p : Port) (rest : List SightingRecord), s.due = [] →
  s.receiver.fifo = .link p true :: rest →
  (s.port p).state = .down →
  ∃ t, exec .linkDispatch s = .next t ∧ t.receiver = { s.receiver with fifo := rest } ∧
    t.port p = { s.port p with state := .priming, linkUp := true, linkup := .unset, holdOff := 0, calm := 0, decay := 0,
                               wants := (t.port p).wants } ∧
    PurposeJoined (fun q => decide (q = p)) (fun u => { u with linkup := true, linkupBroken := false }) s t ∧
    (∀ k, (t.portMeters p).get k =
      Meter.restartedWith (s.profile.meters.get k) ((s.portMeters p).get k).base) ∧
    (∀ q, q ≠ p → t.portMeters q = s.portMeters q) ∧ OtherPortsKept p s t ∧ t.trips = removeTrip p s.trips ∧
    OnlyIn [.receiver, .ports, .meters, .probes, .trips] s t

/-- With no event left due and LINK DOWN at the head of the FIFO for a port in PRIMING, OPEN, LIMITED, BLOCKED or TESTING:
the port is DOWN with link DOWN, counters 0, no wants and linkup result NONE, its role and strikes kept; no QUEUED
entry of it and no trip item of it is left; a SHUT GATE change is pending for it when it was OPEN or LIMITED; the
purposes of its want set and then of its QUEUED entry conclude VOID: a SWEEP is counted skipped, which may end the
sweep, a HOST raises CHECK_DONE with VOID, and the sweep and the management link show this alone; other ports and
entries keep all but SWEEP purposes of a sweep that ends so; meters, evidence, stations and profile stand. That the
want set concludes before the entry (log 10), and SWEEP before HOST (log 27), is the model's choice. (R90, R92, R81,
R112, R77, R78) -/
def Obligations.LinkDownClosesPort : Prop :=
  ∀ (s : State) (p : Port) (rest : List SightingRecord), s.due = [] →
  s.receiver.fifo = .link p false :: rest →
  (s.port p).state ∈ [.priming, .opened, .limited, .blocked, .testing] → ProbeListSound s →
  ∃ t, exec .linkDispatch s = .next t ∧ t.receiver = { s.receiver with fifo := rest } ∧
    t.port p = { s.port p with state := .down, linkUp := false, linkup := .unset, holdOff := 0, calm := 0, decay := 0,
                               wants := Purposes.empty } ∧
    (∀ e ∈ t.probes.list, e.origin = p → e.expiry.isSome = true) ∧
    t.trips = removeTrip p s.trips ∧
    t.control.pendingGate = (if (s.port p).state = .opened ∨ (s.port p).state = .limited then
      s.control.pendingGate.set p (some .shut) else s.control.pendingGate) ∧
    t.sweep = (VoidedPort p s).sweep ∧ t.mgmt = (VoidedPort p s).mgmt ∧
    (∀ q, q ≠ p → t.port q = (VoidedPort p s).port q ∧ t.port q = { s.port q with wants := (t.port q).wants }) ∧
    (∀ y, y.origin ≠ p → (y ∈ t.probes.list ↔ y ∈ (VoidedPort p s).probes.list)) ∧
    OnlyIn [.receiver, .ports, .probes, .control, .trips, .sweep, .mgmt] s t

/-- With no event left due and a LINK record at the head of the FIFO: LINK DOWN for a DOWN port and LINK UP for a port in
PRIMING, OPEN, LIMITED, BLOCKED or TESTING change only the FIFO; for an UNGUARDED or HELD port only the link field is
set besides. (R90) -/
def Obligations.LinkRepeatChangesNothing : Prop :=
  ∀ (s : State) (p : Port) (up : Bool) (rest : List SightingRecord), s.due = [] →
  s.receiver.fifo = .link p up :: rest →
  ((s.port p).state = .down → up = false →
    exec .linkDispatch s = .next { s with receiver := { s.receiver with fifo := rest } }) ∧
  ((s.port p).state ∈ [.priming, .opened, .limited, .blocked, .testing] → up = true →
    exec .linkDispatch s = .next { s with receiver := { s.receiver with fifo := rest } }) ∧
  ((s.port p).state = .unguarded ∨ (s.port p).state = .held →
    exec .linkDispatch s = .next { s with receiver := { s.receiver with fifo := rest },
                                          ports := s.ports.set p { s.port p with linkUp := up } })

/-- With no event left due and a PROBE record at the head carrying the room id in force, and a SENT entry of its tag and
origin o in a sound list: PROBE_DISPATCH answers a next state in which no entry has that tag, and which is the
conclusion of the entry's purposes with the outcome of resolving (o, x) after the entry was removed. When o is DOWN or
UNGUARDED (step 1) or, without RECOVER and LINKUP, o or x is BLOCKED, TESTING or HELD (step 3), no port changes state.
The order in which the purposes conclude is the model's choice (log 27). (R70, R71, R75, R77) -/
def Obligations.MatchedReturnEndsProbe : Prop :=
  ∀ (s : State) (x o : Port) (tag : Half) (rest : List SightingRecord) (e : ProbeEntry),
  s.due = [] → s.receiver.fifo = .probe x s.profile.roomId (portByte o) tag :: rest → ProbeListSound s → e ∈ s.probes.list →
  e.tag = tag → e.origin = o → e.expiry.isSome = true →
  ∃ t, exec .probeDispatch s = .next t ∧ t.receiver = { s.receiver with fifo := rest } ∧
    (∀ y ∈ t.probes.list, y.tag ≠ tag) ∧
    (let s1 := ({ s with receiver := { s.receiver with fifo := rest } } : State).setProbes
        { s.probes with list := s.probes.list.filter fun y => y.tag != tag }
     t = (s1.resolve o x e.purposes.recover).1.conclude o e.purposes (s1.resolve o x e.purposes.recover).2 (some x)) ∧
    ((s.port o).state = .down ∨ (s.port o).state = .unguarded ∨
        (e.purposes.recover = false ∧ e.purposes.linkup = false ∧
          ((s.port o).state.shutForTrip = true ∨ (s.port x).state.shutForTrip = true)) →
      (∀ q, (t.port q).state = (s.port q).state) ∧ t.trips = s.trips ∧ t.evidence = s.evidence)

/-- Resolving a proof (o, x) with o in PRIMING, OPEN or LIMITED and x not BLOCKED, TESTING or HELD, without RECOVER: if x
is a DESK in PRIMING, OPEN or LIMITED, x makes a blocking trip with cause SELF_LOOP (outcome LOOPED) when x is o and
cause LOOP with partner o (outcome CONTAINED) otherwise; if x is a DESK in DOWN nothing changes (CONTAINED); if x is
no DESK and o is one, o makes a blocking trip with cause LOOP and partner x (LOOPED). The tripped port has one more
strike up to the limit, is HELD at the limit and BLOCKED otherwise, and heads the trip list; other ports keep their
records. With RECOVER, a TESTING origin re-trips with RETEST_LOOP and x as partner unless x is o (LOOPED). With o
neither DOWN nor UNGUARDED, neither port shut for a trip and neither a DESK, TRUNK_LOOP is raised with o, x and the
second count and each of the two that is guarded and OPEN makes a limiting trip with cause TRUNK_LOOP and the other as
partner, the lower port first (LOOPED): it is LIMITED with its strikes kept, every other record stands, and so does
the buzzer. That TRUNK_LOOP is raised before the TRIPs of the two limits, which R169 orders only among themselves, is
the model's choice (log 10, DEDUCED). (R75, R73, R99, R100, R103, R111, R132, R169) -/
def Obligations.ProofShutsOneDesk : Prop :=
  (∀ (s : State) (o x : Port), (s.port o).state.blockable = true → (s.port x).state.shutForTrip = false →
  ((s.port x).role = .desk → (s.port x).state = .down → s.resolve o x false = (s, .contained)) ∧
  ((s.port x).role = .desk → (s.port x).state.blockable = true →
    (s.resolve o x false).2 = (if x = o then .looped else .contained) ∧
    ((s.resolve o x false).1.port x).strikes = min ((s.port x).strikes + 1) s.profile.strikeLimit ∧
    ((s.resolve o x false).1.port x).state =
      (if min ((s.port x).strikes + 1) s.profile.strikeLimit = s.profile.strikeLimit then .held else .blocked) ∧
    (s.resolve o x false).1.trips =
      { port := x, cause := if x = o then .selfLoop else .loop, partner := if x = o then none else some o } ::
        removeTrip x s.trips ∧
    OtherPortsKept x s (s.resolve o x false).1) ∧
  ((s.port x).role ≠ .desk → (s.port o).role = .desk →
    (s.resolve o x false).2 = .looped ∧
    ((s.resolve o x false).1.port o).strikes = min ((s.port o).strikes + 1) s.profile.strikeLimit ∧
    ((s.resolve o x false).1.port o).state =
      (if min ((s.port o).strikes + 1) s.profile.strikeLimit = s.profile.strikeLimit then .held else .blocked) ∧
    (s.resolve o x false).1.trips = { port := o, cause := .loop, partner := some x } :: removeTrip o s.trips ∧
    OtherPortsKept o s (s.resolve o x false).1)) ∧
  (∀ (s : State) (o x : Port), (s.port o).state = .testing →
  s.resolve o x true = (s.blockingTrip o .retestLoop (if x = o then none else some x) none, .looped)) ∧
  (∀ (s : State) (o x : Port) (recover : Bool), (s.port o).state.blockable = true →
  (s.port x).state.shutForTrip = false → (s.port o).role ≠ .desk → (s.port x).role ≠ .desk →
  let named := s.raise (.trunkLoop o x s.timer.secondCount)
  let limited := fun (v : State) (p q : Port) => if (s.port p).role ≠ .off ∧ (s.port p).state = .opened then
    v.limitingTrip p .trunkLoop (if q = p then none else some q) else v
  s.resolve o x recover = (if x = o then limited named o o
    else if o < x then limited (limited named o x) x o else limited (limited named x o) o x, .looped) ∧
  (∀ p, p = o ∨ p = x → (s.port p).role ≠ .off → (s.port p).state = .opened →
    (s.resolve o x recover).1.port p = { s.port p with state := .limited, holdOff := 0, calm := 0, decay := 0 }) ∧
  (∀ p, (p ≠ o ∧ p ≠ x) ∨ (s.port p).role = .off ∨ (s.port p).state ≠ .opened →
    (s.resolve o x recover).1.port p = s.port p) ∧
  (s.resolve o x recover).1.panel = s.panel)

/-- With no event left due and a PROBE record at the head: with the room id in force and no SENT entry of its tag and
origin, the stale counter goes up when its tag is in the recent window and the unknown counter otherwise, both
saturating, and when the origin byte is 40 or more or names an UNGUARDED port nothing else changes, while an origin
that is a guarded port makes with the arrival port a proof that is resolved without purposes; with the retired room id
the stale counter goes up and nothing else changes, also while a period that has run out waits for its end to be taken
(left 0; log 23, the model's choice). With a PROBE record at the head whose room id is neither that in force nor the
retired one: the foreign counter goes up, saturating; an arrival port that is a DESK in PRIMING, OPEN or LIMITED makes
a blocking trip with cause FOREIGN (HELD at the strike limit, BLOCKED otherwise, head of the trip list), and its
evidence, when unlatched, records the room id, and FOREIGN is raised after it; a DESK in another state changes nothing
but FOREIGN being raised; on a port that is no DESK nothing but the FIFO and the counter changes. That FOREIGN enters
the notice queue after the TRIP, both URGENT, is the model's choice (log 10, DEDUCED): R74 does not order the trip and
the notice. (R70, R72, R74, R83, R98, R99, R132) -/
def Obligations.OtherReturnsAreCountedAndSorted : Prop :=
  (∀ (s : State) (x : Port) (room : Half) (origin : Byte) (tag : Half) (rest : List SightingRecord),
  s.due = [] → s.receiver.fifo = .probe x room origin tag :: rest →
  (room = s.profile.roomId → (∀ e ∈ s.probes.list, e.expiry.isSome = true → e.tag = tag → e.origin.val ≠ origin.toNat) →
    ∃ t, exec .probeDispatch s = .next t ∧
      t.probes.stale = (if tag ∈ s.probes.recent then min (s.probes.stale + 1) 65535 else s.probes.stale) ∧
      t.probes.unknown = (if tag ∈ s.probes.recent then s.probes.unknown else min (s.probes.unknown + 1) 65535) ∧
      t.probes.list.map (·.tag) = s.probes.list.map (·.tag) ∧
      ((∀ o, portOf origin = some o → (s.port o).role = .off) →
        OnlyIn [.receiver, .probes] s t ∧ t.probes.list = s.probes.list) ∧
      (∀ o, portOf origin = some o → (s.port o).role ≠ .off →
        t = (({ s with receiver := { s.receiver with fifo := rest },
                       probes := if tag ∈ s.probes.recent then
                           { s.probes with stale := min (s.probes.stale + 1) 65535 }
                         else { s.probes with unknown := min (s.probes.unknown + 1) 65535 } } : State).resolve
          o x false).1)) ∧
  (room ≠ s.profile.roomId → (∃ left, s.probes.retired = some { room := room, left := left }) →
    exec .probeDispatch s = .next { s with receiver := { s.receiver with fifo := rest },
                                           probes := { s.probes with stale := min (s.probes.stale + 1) 65535 } })) ∧
  (∀ (s : State) (x : Port) (room : Half) (origin : Byte) (tag : Half) (rest : List SightingRecord),
  s.due = [] → s.receiver.fifo = .probe x room origin tag :: rest → room ≠ s.profile.roomId →
  (∀ r, s.probes.retired = some r → r.room ≠ room) →
  ((s.port x).role ≠ .desk → exec .probeDispatch s = .next
    { s with receiver := { s.receiver with fifo := rest },
             probes := { s.probes with foreign := min (s.probes.foreign + 1) 65535 } }) ∧
  ((s.port x).role = .desk → (s.port x).state.blockable = false → exec .probeDispatch s = .next
    { s with receiver := { s.receiver with fifo := rest },
             probes := { s.probes with foreign := min (s.probes.foreign + 1) 65535 },
             mgmt := s.mgmt.raise (.foreign x room s.timer.secondCount) }) ∧
  ((s.port x).role = .desk → (s.port x).state.blockable = true →
    ∃ t, exec .probeDispatch s = .next t ∧
      t.mgmt = (({ s with receiver := { s.receiver with fifo := rest },
                          probes := { s.probes with foreign := min (s.probes.foreign + 1) 65535 } } : State).blockingTrip
        x .foreign none (some room)).mgmt.raise (.foreign x room s.timer.secondCount) ∧
      t.probes.foreign = min (s.probes.foreign + 1) 65535 ∧
      (t.port x).state = (if min ((s.port x).strikes + 1) s.profile.strikeLimit = s.profile.strikeLimit then .held
        else .blocked) ∧
      (t.port x).strikes = min ((s.port x).strikes + 1) s.profile.strikeLimit ∧ OtherPortsKept x s t ∧
      t.trips = { port := x, cause := .foreign, partner := none } :: removeTrip x s.trips ∧
      t.mgmt.flags.tripped = true ∧
      ((s.evidenceOf x).capture = none →
        ∃ y, (t.evidenceOf x).capture = some y ∧ y.cause = .foreign ∧ y.foreign = some room ∧ y.partner = none) ∧
      OnlyIn [.receiver, .ports, .probes, .control, .trips, .evidence, .panel, .mgmt] s t))

/-- When the end due first is that of origin o and an entry e of o has been reached (R69, log 25): e is a SENT entry of
the list, and PROBE_EXPIRY does what it does once the step reports behind a reopening have been acted on (log 4, the
model's choice). With none waiting it removes e, takes the end from the events due and is the conclusion CLEAR of its
purposes: RECOVER alone, unbroken, opens a TESTING origin; HOST alone raises CHECK_DONE with CLEAR, or VOID when DOWN
or UNGUARDED; LINKUP alone, unbroken, gives a PRIMING port not yet primed the result CLEAR. For an origin whose end is
not the next it changes nothing (log 2). The conclusion of a purpose set, which a matched return reaches too, is that
of its LINKUP, SWEEP, RECOVER and HOST in turn, the order being the model's choice (log 27, DESIGN CHOICE); STORM and
FLAP do nothing. LINKUP of a PRIMING port, unbroken, with CLEAR, CONTAINED or LOOPED sets that result; a primed port
then leaves PRIMING: to OPEN for CLEAR and CONTAINED, with a PASS GATE change and no notice, and to LIMITED for
LOOPED, a limiting trip with cause TRUNK_LOOP and no partner that sets TRIPPED and captures and raises TRIP when its
evidence is unlatched, or counts a repeat; counters are 0, strikes and buzzer stand. LINKUP with VOID, broken, or of
another state does nothing. SWEEP is delivered with its number. RECOVER with CLEAR, unbroken, opens a TESTING port,
off the trip list, PASS pending, strikes kept, RECOVERED raised, and does nothing otherwise. HOST raises CHECK_DONE
with the outcome and arrival port, and with VOID for a DOWN or UNGUARDED port. That leaving PRIMING or TESTING marks
the LINKUP or RECOVER that stands as broken (log 8) and that VOID carries no arrival port (log 9) are the model's
choices. (R69, R77, R78, R93, R102, R103, R98, R133, R134) -/
def Obligations.ProbeExpiryConcludesClear : Prop :=
  (∀ (s : State) (o : Port) (e : ProbeEntry), s.endedEntry o = some e →
  (e ∈ s.probes.list ∧ e.origin = o ∧ ∃ x, e.expiry = some x ∧
    ((x - s.timer.slotCount.setWidth 16).toNat = 0 ∨ 32768 ≤ (x - s.timer.slotCount.setWidth 16).toNat)) ∧
  (∃ rest, endedOrigins s.due = o :: rest) ∧
  exec (.probeExpiry o) s = exec (.probeExpiry o) s.finishReports ∧
  (ReportsDone s → exec (.probeExpiry o) s = .next (({ s with
    due := s.due.erase (.probeExpired o),
    probes := { s.probes with list := s.probes.list.filter fun y => y.tag != e.tag } } : State).conclude
      o e.purposes .clear none)) ∧
  (ReportsDone s → e.purposes = { Purposes.empty with recover := true } → (s.port o).state = .testing →
    ∃ t, exec (.probeExpiry o) s = .next t ∧
      t.port o = { s.port o with state := .opened, holdOff := 0, calm := 0, decay := 0, wants := (t.port o).wants } ∧
      (∀ y ∈ t.probes.list, y.tag ≠ e.tag) ∧ t.due = s.due.erase (.probeExpired o) ∧
      t.trips = removeTrip o s.trips ∧ t.control = { s.control with pendingGate := s.control.pendingGate.set o (some .pass) } ∧
      t.mgmt = s.mgmt.raise (.recovered o .testing (s.port o).strikes s.timer.secondCount) ∧ OtherPortsKept o s t ∧
      OnlyIn [.ports, .probes, .trips, .control, .mgmt, .due] s t) ∧
  (∀ tag, ReportsDone s → e.purposes = { Purposes.empty with host := some tag } →
    exec (.probeExpiry o) s = .next { s with
      due := s.due.erase (.probeExpired o),
      probes := { s.probes with list := s.probes.list.filter fun y => y.tag != e.tag },
      mgmt := s.mgmt.raise (.checkDone o tag
        (if (s.port o).state = .down ∨ (s.port o).state = .unguarded then .void else .clear) none
        s.timer.secondCount) }) ∧
  (ReportsDone s → e.purposes = { Purposes.empty with linkup := true } → (s.port o).state = .priming → s.primed o = false →
    exec (.probeExpiry o) s = .next { s with
      due := s.due.erase (.probeExpired o),
      probes := { s.probes with list := s.probes.list.filter fun y => y.tag != e.tag },
      ports := s.ports.set o { s.port o with linkup := .clear } })) ∧
  (∀ (s : State) (o : Port), s.endedEntry o = none → exec (.probeExpiry o) s = .next s) ∧
  (∀ (s : State) (p : Port) (u : Purposes) (outcome : ProbeOutcome) (arrival : Option Port),
  s.conclude p u outcome arrival =
    (((s.conclude p { Purposes.empty with linkup := u.linkup, linkupBroken := u.linkupBroken } outcome arrival).conclude
      p { Purposes.empty with sweep := u.sweep } outcome arrival).conclude
      p { Purposes.empty with recover := u.recover, recoverBroken := u.recoverBroken } outcome arrival).conclude
      p { Purposes.empty with host := u.host } outcome arrival) ∧
  (∀ (s : State) (p : Port) (outcome : ProbeOutcome) (arrival : Option Port),
  (∀ broken : Bool, (s.port p).state ≠ .priming ∨ broken = true ∨ outcome = .void →
    s.conclude p { Purposes.empty with linkup := true, linkupBroken := broken } outcome arrival = s) ∧
  (∀ result : LinkupResult, (s.port p).state = .priming → (outcome = .clear ∧ result = .clear) ∨
      (outcome = .contained ∧ result = .contained) ∨ (outcome = .looped ∧ result = .looped) →
    let t := s.conclude p { Purposes.empty with linkup := true } outcome arrival
    (s.primed p = false → t = { s with ports := s.ports.set p { s.port p with linkup := result } }) ∧
    (s.primed p = true →
      t.port p = { s.port p with
        state := if result = .looped then .limited else .opened, linkup := result, holdOff := 0, calm := 0, decay := 0,
        wants := { (s.port p).wants with linkupBroken := (s.port p).wants.linkupBroken || (s.port p).wants.linkup } } ∧
      t.probes = { s.probes with list := s.probes.list.map fun e => if e.origin = p then
        { e with purposes := { e.purposes with linkupBroken := e.purposes.linkupBroken || e.purposes.linkup } } else e } ∧
      t.control = { s.control with
        pendingGate := s.control.pendingGate.set p (some (if result = .looped then .limit else .pass)) } ∧
      t.trips = removeTrip p s.trips ∧ OtherPortsKept p s t ∧
      (result ≠ .looped → OnlyIn [.ports, .probes, .control, .trips] s t) ∧
      (result = .looped → OnlyIn [.ports, .probes, .control, .trips, .evidence, .mgmt] s t ∧
        (∀ q, q ≠ p → t.evidenceOf q = s.evidenceOf q) ∧
        ((s.evidenceOf p).capture = none →
          (∃ x, t.evidenceOf p = { capture := some x, repeats := 0 } ∧ x.cause = .trunkLoop ∧ x.entered = .limited ∧
            x.partner = none ∧ x.foreign = none ∧ x.strikes = (s.port p).strikes) ∧
          t.mgmt = s.mgmt.flagTripped.raise
            (.trip p .trunkLoop .limited none (s.port p).strikes s.timer.secondCount)) ∧
        (∀ x, (s.evidenceOf p).capture = some x →
          t.evidenceOf p = { capture := some x, repeats := min ((s.evidenceOf p).repeats + 1) 255 } ∧
          t.mgmt = s.mgmt.flagTripped)))) ∧
  (∀ n, s.conclude p { Purposes.empty with sweep := some n } outcome arrival = s.deliverSweep n outcome) ∧
  (∀ broken : Bool, let t := s.conclude p { Purposes.empty with recover := true, recoverBroken := broken } outcome arrival
    ((s.port p).state ≠ .testing ∨ broken = true ∨ outcome ≠ .clear → t = s) ∧
    ((s.port p).state = .testing → broken = false → outcome = .clear →
      t.port p = { s.port p with
        state := .opened, holdOff := 0, calm := 0, decay := 0,
        wants := { (s.port p).wants with recoverBroken := (s.port p).wants.recoverBroken || (s.port p).wants.recover } } ∧
      t.probes = { s.probes with list := s.probes.list.map fun e => if e.origin = p then
        { e with purposes := { e.purposes with recoverBroken := e.purposes.recoverBroken || e.purposes.recover } }
        else e } ∧
      t.control = { s.control with pendingGate := s.control.pendingGate.set p (some .pass) } ∧
      t.trips = removeTrip p s.trips ∧
      t.mgmt = s.mgmt.raise (.recovered p .testing (s.port p).strikes s.timer.secondCount) ∧ OtherPortsKept p s t ∧
      OnlyIn [.ports, .probes, .control, .trips, .mgmt] s t)) ∧
  (∀ tag, s.conclude p { Purposes.empty with host := some tag } outcome arrival =
    if (s.port p).state = .down ∨ (s.port p).state = .unguarded ∨ outcome = .void then
      { s with mgmt := s.mgmt.raise (.checkDone p tag .void none s.timer.secondCount) }
    else { s with mgmt := s.mgmt.raise (.checkDone p tag outcome arrival s.timer.secondCount) }) ∧
  (∀ a b : Bool, s.conclude p { Purposes.empty with linkupBroken := a, recoverBroken := b } outcome arrival = s))

/-- When a port enters a state: its state is the new one with hold-off, calm and decay 0 and its role, link, strikes and
linkup result kept; its pending GATE change becomes that of the new state when the new gate differs from the old and
stands otherwise; the trip list loses the port unless the new state is BLOCKED, TESTING or HELD; other ports,
evidence, meters, panel and the management link stand. (R17, R88) -/
def Obligations.GateFollowsState : Prop :=
  ∀ (s : State) (p : Port) (new : PortState),
  ((gateOf new = .pass ↔ new = .opened ∨ new = .unguarded) ∧ (gateOf new = .limit ↔ new = .limited)) ∧
  (s.enter p new).port p = { s.port p with state := new, holdOff := 0, calm := 0, decay := 0,
                                           wants := ((s.enter p new).port p).wants } ∧
  (s.enter p new).control = (if gateOf (s.port p).state = gateOf new then s.control
    else { s.control with pendingGate := s.control.pendingGate.set p (some (gateOf new)) }) ∧
  (s.enter p new).trips = (if new.shutForTrip then s.trips else removeTrip p s.trips) ∧
  OtherPortsKept p s (s.enter p new) ∧ OnlyIn [.ports, .probes, .control, .trips] s (s.enter p new)

/-- A blocking trip of any port: its strikes go up by 1 to at most the strike limit; it is HELD with hold-off 0 when they
equal the limit, and BLOCKED with hold-off base times 2 to the strikes less 1, at most 600, otherwise; it heads the
trip list with the cause and partner; TRIPPED is set; an unlatched evidence record captures the cause, state entered,
partner, room id, strikes, the N, B and E of each class and the held mark of the latest step report (without a report
N 0, the baseline, E its negative, and no held mark) and TRIP is raised, a latched one keeps its capture and counts a
repeat to at most 255 and raises nothing; the buzzer is restarted with the buzz time or stopped when that is 0; other
ports, meters, stations and the profile stand. (R98, R99, R100, R112, R131, R133, R134, R153) -/
def Obligations.BlockingTripAddsStrike : Prop :=
  ∀ (s : State) (p : Port) (cause : Cause) (partner : Option Port) (room : Option Half),
  let n := min ((s.port p).strikes + 1) s.profile.strikeLimit
  let entered : PortState := if n = s.profile.strikeLimit then .held else .blocked
  let t := s.blockingTrip p cause partner room
  t.port p = { s.port p with state := entered, strikes := n, calm := 0, decay := 0, wants := (t.port p).wants,
                             holdOff := if n = s.profile.strikeLimit then 0
                               else min (s.profile.holdOffBase * 2 ^ (n - 1)) 600 } ∧
  t.trips = { port := p, cause := cause, partner := partner } :: removeTrip p s.trips ∧
  t.mgmt.flags.tripped = true ∧
  ((s.evidenceOf p).capture = none →
    (∃ x, (t.evidenceOf p) = { capture := some x, repeats := 0 } ∧ x.cause = cause ∧ x.entered = entered ∧
      x.partner = partner ∧ x.foreign = room ∧ x.strikes = n ∧ x.second = s.timer.secondCount ∧
      x.stamp = s.timer.slotCount.setWidth 16 ∧
      (∀ r, s.report p = some r → x.held = r.held ∧ ∀ k, x.values.get k =
        { level := (r.classes.get k).level, base := (r.classes.get k).base, excess := (r.classes.get k).excess }) ∧
      (s.report p = none → x.held = false ∧ ∀ k, x.values.get k =
        { level := 0, base := ((s.portMeters p).get k).base, excess := -(((s.portMeters p).get k).base : Int) })) ∧
    t.mgmt = s.mgmt.flagTripped.raise (.trip p cause entered partner n s.timer.secondCount)) ∧
  (∀ x, (s.evidenceOf p).capture = some x →
    t.evidenceOf p = { capture := some x, repeats := min ((s.evidenceOf p).repeats + 1) 255 } ∧
    t.mgmt = s.mgmt.flagTripped) ∧
  (∀ q, q ≠ p → t.evidenceOf q = s.evidenceOf q) ∧
  t.panel = { s.panel with
                buzzer := if s.profile.buzzTime = 0 then none
                else some { remaining := s.profile.buzzTime * 1000, elapsed := 0 } } ∧
  OtherPortsKept p s t ∧ OnlyIn [.ports, .probes, .control, .trips, .evidence, .panel, .mgmt] s t

/-- For an OPEN port: when it is a DESK and a class has SEVERE confirmed, the report acts as the blocking trip with cause
SEVERE of the first such class; otherwise, when a class has STORM confirmed and the report shows grace not active, the
report acts as the limiting trip with cause LIMIT of the first such class: the port is LIMITED, strikes kept and
counters 0, STORM joins its QUEUED entry, or else its want set, every other purpose standing, a LIMIT GATE change is
pending, the port is off the trip list, the buzzer untouched, and an unlatched evidence record captures that cause and
TRIP is raised with it; otherwise nothing changes. A LIMITED port with no desk SEVERE confirmed counts calm up by 1 on
an all-CALM report and to 0 otherwise, and at the calm hold it reopens at once: OPEN with counters 0, off the trip
list, a PASS GATE change pending, RECOVERED raised; a TESTING desk with SEVERE confirmed makes a blocking trip with
RETEST_SEVERE and else stands; a PRIMING port whose meters have primed opens on a CLEAR or CONTAINED linkup result and
makes a limiting trip with cause TRUNK_LOOP on LOOPED, and stands otherwise; DOWN, BLOCKED, HELD and UNGUARDED ports
stand. (R93, R94, R95, R96, R98, R99, R103, R116, R132, R133) -/
def Obligations.StepReportActsByState : Prop :=
  (∀ (s : State) (p : Port) (r : StepReport), (s.port p).state = .opened →
  (∀ k, (s.port p).role = .desk → r.classes.first ClassReport.severeConfirmed = some k →
    s.actOnReport p r = s.blockingTrip p (.severe k) none none) ∧
  (∀ k, ((s.port p).role = .desk → r.classes.first ClassReport.severeConfirmed = none) →
    r.classes.first ClassReport.stormConfirmed = some k → r.grace = false →
    s.actOnReport p r = s.limitingTrip p (.limit k) none ∧
    ((s.evidenceOf p).capture = none →
      (∃ x, (s.actOnReport p r).evidenceOf p = { capture := some x, repeats := 0 } ∧ x.cause = .limit k ∧
        x.entered = .limited ∧ x.partner = none) ∧
      (s.actOnReport p r).mgmt =
        s.mgmt.flagTripped.raise (.trip p (.limit k) .limited none (s.port p).strikes s.timer.secondCount)) ∧
    (s.actOnReport p r).port p = { s.port p with state := .limited, holdOff := 0, calm := 0, decay := 0,
                                                 wants := ((s.actOnReport p r).port p).wants } ∧
    PurposeJoined (fun q => decide (q = p)) (fun u => { u with storm := true }) s (s.actOnReport p r) ∧
    (s.actOnReport p r).control = { s.control with pendingGate := s.control.pendingGate.set p (some .limit) } ∧
    (s.actOnReport p r).trips = removeTrip p s.trips ∧ (s.actOnReport p r).panel = s.panel ∧
    (s.actOnReport p r).mgmt.flags.tripped = true ∧ OtherPortsKept p s (s.actOnReport p r)) ∧
  (((s.port p).role = .desk → r.classes.first ClassReport.severeConfirmed = none) →
    r.classes.first ClassReport.stormConfirmed = none ∨ r.grace = true → s.actOnReport p r = s)) ∧
  (∀ (s : State) (p : Port) (r : StepReport),
  ((s.port p).state = .limited → r.severeClass (s.port p).role = none →
    let calm := if r.classes.all ClassReport.calm then (s.port p).calm + 1 else 0
    s.actOnReport p r = if s.profile.calmHold ≤ calm then
        { s with ports := s.ports.set p { s.port p with state := .opened, holdOff := 0, calm := 0, decay := 0 },
                 control := { s.control with pendingGate := s.control.pendingGate.set p (some .pass) },
                 trips := removeTrip p s.trips,
                 mgmt := s.mgmt.raise (.recovered p .limited (s.port p).strikes s.timer.secondCount) }
      else { s with ports := s.ports.set p { s.port p with calm := calm } }) ∧
  (∀ k, (s.port p).state = .limited → r.severeClass (s.port p).role = some k →
    s.actOnReport p r = s.blockingTrip p (.severe k) none none) ∧
  (∀ k, (s.port p).state = .testing → r.severeClass (s.port p).role = some k →
    s.actOnReport p r = s.blockingTrip p .retestSevere none none) ∧
  ((s.port p).state = .testing → r.severeClass (s.port p).role = none → s.actOnReport p r = s) ∧
  ((s.port p).state = .priming → s.primed p = true →
    ((s.port p).linkup = .clear ∨ (s.port p).linkup = .contained → s.actOnReport p r = s.enter p .opened) ∧
    ((s.port p).linkup = .looped → s.actOnReport p r = s.limitingTrip p .trunkLoop none ∧
      ((s.actOnReport p r).port p).state = .limited ∧ ((s.evidenceOf p).capture = none →
        ∃ x, ((s.actOnReport p r).evidenceOf p).capture = some x ∧ x.cause = .trunkLoop ∧ x.partner = none)) ∧
    ((s.port p).linkup = .unset → s.actOnReport p r = s)) ∧
  ((s.port p).state = .priming → s.primed p = false → s.actOnReport p r = s) ∧
  ((s.port p).state ∈ [.down, .blocked, .held, .unguarded] → s.actOnReport p r = s))

/-- With the event due for a BLOCKED port whose hold-off is 0: the port is TESTING with its strikes kept, RECOVER joins
its QUEUED entry, or else its want set, every other port and purpose and the rest of the Probe Engine stand, and the
trip list, gates, evidence, buzzer and notices stand too; a port in another state is left as it stands. With the event
due for a LIMITED port whose calm counter has reached the calm hold: the port is OPEN with calm and decay 0 and its
strikes kept, a PASS GATE change is pending, RECOVERED names LIMITED and its strikes, and other ports stand; a port
that is no longer LIMITED is left as it stands. With the event due for an OPEN port whose decay counter has reached
the decay period in seconds: its strikes go down by 1 unless 0 and its decay counter is 0; a port that is no longer
OPEN keeps its strikes. Nothing else changes. That a purpose set where it is present counts as set from then on (R77)
is the model's choice (log 8, DEDUCED). (R95, R101, R102, R104, R112, R114, R116, R62) -/
def Obligations.PortTimersRunOut : Prop :=
  (∀ (s : State) (p : Port), Event.holdOff p ∈ s.due →
  ((s.port p).state = .blocked → (s.port p).holdOff = 0 →
    ∃ t, exec (.holdOffExpiry p) s = .next t ∧
      t.port p = { s.port p with state := .testing, holdOff := 0, calm := 0, decay := 0, wants := (t.port p).wants } ∧
      PurposeJoined (fun q => decide (q = p)) (fun u => { u with recover := true, recoverBroken := false }) s t ∧
      OtherPortsKept p s t ∧ t.due = s.due.erase (.holdOff p) ∧ OnlyIn [.ports, .probes, .due] s t) ∧
  ((s.port p).state ≠ .blocked → exec (.holdOffExpiry p) s = .next { s with due := s.due.erase (.holdOff p) })) ∧
  (∀ (s : State) (p : Port), Event.calmHold p ∈ s.due →
  ((s.port p).state = .limited → s.profile.calmHold ≤ (s.port p).calm →
    exec (.calmHoldReached p) s = .next { s with
      due := s.due.erase (.calmHold p),
      ports := s.ports.set p { s.port p with state := .opened, holdOff := 0, calm := 0, decay := 0 },
      control := { s.control with pendingGate := s.control.pendingGate.set p (some .pass) },
      trips := removeTrip p s.trips,
      mgmt := s.mgmt.raise (.recovered p .limited (s.port p).strikes s.timer.secondCount) }) ∧
  ((s.port p).state ≠ .limited →
    exec (.calmHoldReached p) s = .next { s with due := s.due.erase (.calmHold p) })) ∧
  (∀ (s : State) (p : Port), Event.strikeDecay p ∈ s.due →
  ((s.port p).state = .opened → s.profile.decayPeriod * 60 ≤ (s.port p).decay →
    exec (.strikeDecay p) s = .next { s with
      due := s.due.erase (.strikeDecay p),
      ports := s.ports.set p { s.port p with strikes := (s.port p).strikes - 1, decay := 0 } }) ∧
  ((s.port p).state ≠ .opened → exec (.strikeDecay p) s = .next { s with due := s.due.erase (.strikeDecay p) }))

/-- With its event due, GRACE_EXPIRY raises GRACE_END EXPIRED with the second count and changes nothing else; with its
event due and the retire period run out, RETIRE_PERIOD_END leaves no retired room id and changes nothing else. With
the event due in an unreported HUNT episode whose hunt-slot counter has reached 16, FABRIC_LOST raises the notice with
the second count and marks the episode reported; in a reported or ended episode it raises nothing. BUZZER_EXPIRY puts
a SOUNDING buzzer of remaining time 0 OFF and leaves one with time left. FRAME_TIMEOUT discards a frame of age 20 or
more as a request error: REQUEST_ERROR set, the discarded counter up, the receiver HUNTING. (R10, R41, R83, R152,
R154, R157) -/
def Obligations.TimersRunOut : Prop :=
  (∀ s : State, (Event.grace ∈ s.due → exec .graceExpiry s = .next { s with
    due := s.due.erase .grace,
    mgmt := s.mgmt.raise (.graceEnd true s.timer.secondCount) }) ∧
  (∀ room : Half, Event.retireEnd ∈ s.due → s.probes.retired = some { room := room, left := 0 } →
    exec .retirePeriodEnd s = .next { s with due := s.due.erase .retireEnd, probes := { s.probes with retired := none } })) ∧
  (∀ s : State, Event.fabricLost ∈ s.due →
  (s.receiver.synced = false → s.receiver.reported = false → 16 ≤ s.receiver.huntSlots →
    exec .fabricLost s = .next { s with receiver := { s.receiver with reported := true },
                                        mgmt := s.mgmt.raise (.fabricLost s.timer.secondCount),
                                        due := s.due.erase .fabricLost }) ∧
  (s.receiver.synced = true ∨ s.receiver.reported = true →
    exec .fabricLost s = .next { s with due := s.due.erase .fabricLost })) ∧
  (∀ (s : State) (b : Buzzer), Event.buzzer ∈ s.due → s.panel.buzzer = some b →
    exec .buzzerExpiry s = .next { s with
      due := s.due.erase .buzzer,
      panel := { s.panel with buzzer := if b.remaining = 0 then none else some b } }) ∧
  (∀ (s : State) (bytes : List Byte) (age : Nat), Event.frameTimeout ∈ s.due → s.mgmt.receiver = .inFrame bytes age →
    20 ≤ age → exec .frameTimeout s = .next { s with
      due := s.due.erase .frameTimeout,
      mgmt := { s.mgmt with receiver := .hunting, discarded := min (s.mgmt.discarded + 1) 65535,
                            flags := { s.mgmt.flags with requestError := true } } })

/-- AUTO_SWEEP_TIMER_EXPIRY: With its event due: with no sweep in progress the record becomes an AUTO sweep of the next
number over 0..39, next port 0, pacing 1 and counts 0; with a sweep in progress it stands; in both cases the timer is
loaded with the sweep period. Nothing else changes. SWEEP_TAKE_PORT: With its event due, the pacing counter at 0 and
the next port p in the range: an OPEN or LIMITED p gets SWEEP with the sweep's number in its QUEUED entry, or else its
want set, every other purpose and the rest of the Probe Engine standing, admitted goes up, the next port goes up and
pacing is the sweep spacing, or 0 after the last port, when the sweep is not then complete; any other p is skipped
likewise, and when that completes the sweep the record is emptied, SWEEP_DONE raised with outcome DONE and the counts,
and SWEEP taken out of every want set and entry. A SWEEP conclusion with the number of the sweep in progress goes up
in the count of its outcome (VOID in skipped), and when that completes the sweep, its last port taken and the counts
adding up to the range size, the record is emptied, SWEEP_DONE raised with outcome DONE and the counts, and SWEEP
taken out of every want set and entry; one with another number, or without a sweep, is disregarded. With no step
report waiting, PROBE_EXPIRY of an entry with SWEEP alone counts clear. (R62, R117, R118, R119, R120, R121, R123,
R124, R125) -/
def Obligations.SweepsStartAndTakePorts : Prop :=
  (∀ s : State, Event.autoSweep ∈ s.due →
  (s.sweep.record = none → exec .autoSweepTimerExpiry s = .next { s with
    due := s.due.erase .autoSweep,
    sweep := { number := s.sweep.number + 1, timer := s.profile.sweepPeriod,
               record := some { host := none, number := s.sweep.number + 1, first := 0, last := 39, next := 0, pacing := 1,
                                admitted := 0, clear := 0, contained := 0, looped := 0, skipped := 0 } } }) ∧
  (∀ r, s.sweep.record = some r → exec .autoSweepTimerExpiry s = .next { s with
    due := s.due.erase .autoSweep,
    sweep := { s.sweep with timer := s.profile.sweepPeriod } })) ∧
  (∀ (s : State) (r : SweepRecord) (p : Port), Event.sweepTake ∈ s.due → s.sweep.record = some r → r.pacing = 0 →
  r.next = p.val → p ≤ r.last →
  ((s.port p).state = .opened ∨ (s.port p).state = .limited →
    r.clear + r.contained + r.looped + r.skipped < r.last.val + 1 - r.first.val →
    ∃ t, exec .sweepTakePort s = .next t ∧
      t.sweep = { s.sweep with record := some { r with next := p.val + 1, admitted := r.admitted + 1,
                                                       pacing := if p = r.last then 0 else s.profile.sweepSpacing } } ∧
      PurposeJoined (fun q => decide (q = p)) (fun u => { u with sweep := some r.number }) s t ∧
      t.port p = { s.port p with wants := (t.port p).wants } ∧ t.due = s.due.erase .sweepTake ∧ OtherPortsKept p s t ∧ OnlyIn [.sweep, .ports, .probes, .due] s t) ∧
  ((s.port p).state ≠ .opened → (s.port p).state ≠ .limited →
    p ≠ r.last ∨ r.clear + r.contained + r.looped + r.skipped + 1 ≠ r.last.val + 1 - r.first.val →
    exec .sweepTakePort s = .next { s with
      due := s.due.erase .sweepTake,
      sweep := { s.sweep with record := some { r with next := p.val + 1, skipped := r.skipped + 1,
                                                      pacing := if p = r.last then 0 else s.profile.sweepSpacing } } }) ∧
  ((s.port p).state ≠ .opened → (s.port p).state ≠ .limited → p = r.last →
    r.clear + r.contained + r.looped + r.skipped + 1 = r.last.val + 1 - r.first.val →
    ∃ t, exec .sweepTakePort s = .next t ∧ t.sweep = { s.sweep with record := none } ∧
      t.mgmt = s.mgmt.raise (.sweepDone { r with next := p.val + 1, skipped := r.skipped + 1, pacing := 0 } .done
        s.timer.secondCount) ∧
      (∀ q, t.port q = { s.port q with wants := { (s.port q).wants with sweep := none } }) ∧
      t.probes = { s.probes with list := s.probes.list.map fun e => { e with purposes := { e.purposes with sweep := none } } } ∧
      t.due = s.due.erase .sweepTake ∧ OnlyIn [.sweep, .ports, .probes, .mgmt, .due] s t)) ∧
  (∀ (s : State) (r : SweepRecord) (outcome : ProbeOutcome), s.sweep.record = some r →
  let counted : SweepRecord := match outcome with
    | .clear => { r with clear := r.clear + 1 }
    | .contained => { r with contained := r.contained + 1 }
    | .looped => { r with looped := r.looped + 1 }
    | .void => { r with skipped := r.skipped + 1 }
  (∀ n, n ≠ r.number → s.deliverSweep n outcome = s) ∧
  (r.next ≤ r.last.val ∨ r.clear + r.contained + r.looped + r.skipped + 1 ≠ r.last.val + 1 - r.first.val →
    s.deliverSweep r.number outcome = { s with sweep := { s.sweep with record := some counted } }) ∧
  (r.last.val < r.next → r.clear + r.contained + r.looped + r.skipped + 1 = r.last.val + 1 - r.first.val →
    (s.deliverSweep r.number outcome).sweep = { s.sweep with record := none } ∧
    (s.deliverSweep r.number outcome).mgmt = s.mgmt.raise (.sweepDone counted .done s.timer.secondCount) ∧
    (∀ q, (s.deliverSweep r.number outcome).port q = { s.port q with wants := { (s.port q).wants with sweep := none } }) ∧
    (s.deliverSweep r.number outcome).probes =
      { s.probes with list := s.probes.list.map fun e => { e with purposes := { e.purposes with sweep := none } } } ∧
    OnlyIn [.sweep, .ports, .probes, .mgmt] s (s.deliverSweep r.number outcome)) ∧
  (∀ o e, ReportsDone s → s.endedEntry o = some e → e.purposes = { Purposes.empty with sweep := some r.number } →
    exec (.probeExpiry o) s = .next (({ s with
      due := s.due.erase (.probeExpired o),
      probes := { s.probes with list := s.probes.list.filter fun y => y.tag != e.tag } } : State).deliverSweep
        r.number .clear))) ∧
  (∀ (s : State) (n : Byte) (outcome : ProbeOutcome), s.sweep.record = none → s.deliverSweep n outcome = s)

/-- For a filter whose change run is 0: after fewer than 20 samples in a row against its level it has its old level; the
20th such sample changes the level, with an edge and the run at 0; a sample that equals the level sets the run to 0
without an edge. A SLOT_EXPIRY with no event left due samples each key's filter with its line; a press or a release
falls due exactly at an edge to that level; the press counter goes up, to at most 8000, while REL is PRESSED without
an edge; with both keys PRESSED the combination counter goes up, to at most 8000, and the combination mark is set,
else the counter is 0 and the mark stands; the done mark is cleared when both are RELEASED; the two-key release falls
due exactly when the counter reaches the authorise time with both PRESSED and the done mark clear. A SOUNDING buzzer
counts one slot elapsed and one less remaining, its expiry falling due exactly when none remains; cells and scan
stand. The buzzer clause is of a part none of whose desks is OPEN, LIMITED or TESTING, so that no report of the expiry
trips one. The events are left to their own rows (log 3). (R146, R147, R149, R150, R152) -/
def Obligations.KeyFilterTakesTwentySlots : Prop :=
  (∀ (f : KeyFilter), f.run = 0 →
  (∀ n < 20, (fun g : KeyFilter => (g.sample (!f.pressed)).1)^[n] f = { pressed := f.pressed, run := n }) ∧
  (((fun g : KeyFilter => (g.sample (!f.pressed)).1)^[19] f).sample (!f.pressed) =
    ({ pressed := !f.pressed, run := 0 }, true)) ∧
  (∀ n, ({ f with run := n } : KeyFilter).sample f.pressed = ({ f with run := 0 }, false))) ∧
  (∀ (s : State) (lines : SlotLines) (admitFirst : Bool), s.due = [] →
  let rel := s.panel.rel.sample lines.relDown
  let sil := s.panel.sil.sample lines.silDown
  let combo := if rel.1.pressed = true ∧ sil.1.pressed = true then min (s.panel.comboCounter + 1) 8000 else 0
  ∃ t, exec (.slotExpiry lines ⟨.ownRows, admitFirst⟩) s = .next t ∧
    t.panel = { s.panel with
      rel := rel.1, sil := sil.1, comboCounter := combo,
      pressCounter := if rel.1.pressed = true ∧ rel.2 = false then min (s.panel.pressCounter + 1) 8000
        else s.panel.pressCounter,
      comboMark := if rel.1.pressed = true ∧ sil.1.pressed = true then true else s.panel.comboMark,
      doneMark := if rel.1.pressed = false ∧ sil.1.pressed = false then false else s.panel.doneMark,
      buzzer := t.panel.buzzer } ∧
    (Event.relPress ∈ t.due ↔ rel.2 = true ∧ rel.1.pressed = true) ∧
    (Event.relRelease ∈ t.due ↔ rel.2 = true ∧ rel.1.pressed = false) ∧
    (Event.silPress ∈ t.due ↔ sil.2 = true ∧ sil.1.pressed = true) ∧
    (Event.silRelease ∈ t.due ↔ sil.2 = true ∧ sil.1.pressed = false) ∧
    (Event.twoKey ∈ t.due ↔ rel.1.pressed = true ∧ sil.1.pressed = true ∧ s.panel.doneMark = false ∧
      s.profile.authoriseTime * 1000 ≤ combo) ∧
    (Event.buzzer ∈ t.due ↔ ∃ b, s.panel.buzzer = some b ∧ b.remaining ≤ 1) ∧
    ((∀ p, (s.port p).role = .desk → (s.port p).state ≠ .opened ∧ (s.port p).state ≠ .limited ∧
        (s.port p).state ≠ .testing) →
      t.panel.buzzer = s.panel.buzzer.map fun b => { remaining := b.remaining - 1, elapsed := b.elapsed + 1 }))

/-- With its event due (log 3), SIL_PRESS sets KEY, puts the buzzer OFF and raises PANEL SILENCE with whether the buzzer
was SOUNDING, in every key mode; KEY_RELEASE_SIL is taken and changes nothing else. That the events of an expiry wait
in a list is the model's choice (log 3). (R146, R148) -/
def Obligations.SilenceKeyStopsBuzzer : Prop :=
  ∀ s : State,
  (Event.silPress ∈ s.due → exec .silPress s = .next { s with
    due := s.due.erase .silPress,
    panel := { s.panel with buzzer := none },
    mgmt := ({ s.mgmt with flags := { s.mgmt.flags with key := true } } : Mgmt).raise
      (.panel (.silence s.panel.buzzer.isSome) s.timer.secondCount) }) ∧
  (Event.silRelease ∈ s.due → exec .keyReleaseSil s = .next { s with due := s.due.erase .silRelease })

/-- With its event due, REL_PRESS sets KEY, the press counter to 0 and the combination mark to whether the combination
counter is above 0: R149 clears the mark at a press and sets it at an expiry at which the counter goes up, and that a
press at such an expiry leaves it set is the model's reading of R147 and R149 (log 19, DEDUCED). With its event due,
REL_RELEASE in SILENCE_ONLY mode, with the combination mark set or after a press as long as the authorise time does
nothing; a short press with a BLOCKED or HELD port at the head of the trip list acts as the release of that port and
raises PANEL RELEASE with it: the port goes to TESTING when BLOCKED or a HELD linked DESK, keeps its place in the trip
list and gets RECOVER in its QUEUED entry, or else its want set; it goes to DOWN when HELD and unlinked and to OPEN
with a PASS GATE change when a HELD linked TRUNK, leaves the list and gets no want; its strikes and counters are 0,
the rest of its record, every other purpose, GATE change and port and all else stand; with an empty list or a TESTING
head it raises PANEL RELEASE with no port. That a purpose set where it is present counts as set from then on (R77) is
the model's choice (log 8, DEDUCED). (R62, R107, R112, R149, R151) -/
def Obligations.ReleaseKeyShortPress : Prop :=
  ∀ s : State,
  (Event.relPress ∈ s.due → exec .relPress s = .next { s with
    due := s.due.erase .relPress,
    panel := { s.panel with pressCounter := 0, comboMark := decide (0 < s.panel.comboCounter) },
    mgmt := { s.mgmt with flags := { s.mgmt.flags with key := true } } }) ∧
  (Event.relRelease ∈ s.due →
    (s.profile.keyMode = .silenceOnly ∨ s.panel.comboMark = true ∨
        s.profile.authoriseTime * 1000 ≤ s.panel.pressCounter →
      exec .relRelease s = .next { s with due := s.due.erase .relRelease }) ∧
    (s.profile.keyMode = .full → s.panel.comboMark = false → s.panel.pressCounter < s.profile.authoriseTime * 1000 →
      (s.trips = [] ∨ (∃ i rest, s.trips = i :: rest ∧ (s.port i.port).state = .testing) →
        exec .relRelease s = .next { s with
          due := s.due.erase .relRelease,
          mgmt := s.mgmt.raise (.panel (.release none) s.timer.secondCount) }) ∧
      (∀ i rest, s.trips = i :: rest → (s.port i.port).state = .blocked ∨ (s.port i.port).state = .held →
        let target : PortState := if (s.port i.port).state = .blocked then .testing
          else if (s.port i.port).linkUp = false then .down
          else if (s.port i.port).role = .trunk then .opened else .testing
        ∃ t, exec .relRelease s = .next t ∧
          t.port i.port = { s.port i.port with state := target, strikes := 0, holdOff := 0, calm := 0, decay := 0,
                                               wants := (t.port i.port).wants } ∧
          PurposeJoined (fun q => decide (q = i.port ∧ target = .testing))
            (fun u => { u with recover := true, recoverBroken := false }) s t ∧
          t.trips = (if target = .testing then s.trips else removeTrip i.port s.trips) ∧
          t.control = (if target = .opened then
              { s.control with pendingGate := s.control.pendingGate.set i.port (some .pass) } else s.control) ∧
          t.mgmt = s.mgmt.raise (.panel (.release (some i.port)) s.timer.secondCount) ∧
          t.due = s.due.erase .relRelease ∧ OtherPortsKept i.port s t ∧
          OnlyIn [.ports, .probes, .control, .trips, .mgmt, .due] s t)))

/-- With its event due, the done mark clear and the combination counter at the authorise time: the done mark is set; in
FULL mode every BLOCKED and HELD port is released, every other port keeps its record, and PANEL ROOM_RELEASE is raised
with the number released; in SILENCE_ONLY mode nothing else changes. Each released port goes to TESTING when BLOCKED
or a HELD linked DESK, to DOWN when HELD and unlinked, to OPEN when a HELD linked TRUNK, with strikes and counters 0
and the rest of its record kept; RECOVER joins the QUEUED entry, or else the want set, of each in TESTING, which keeps
its place in the trip list, one in DOWN or OPEN leaves it and gets no want, and a PASS GATE change is pending for
exactly those in OPEN, no other GATE change, no other purpose and nothing else of the Probe Engine being touched. With
the done mark set nothing changes. That a purpose set where it is present counts as set from then on (R77) is the
model's choice (log 8, DEDUCED). (R62, R150, R151, R107, R108, R112) -/
def Obligations.TwoKeysReleaseTheRoom : Prop :=
  (∀ s : State, Event.twoKey ∈ s.due →
  (s.panel.doneMark = true → exec .twoKeyRoomRelease s = .next { s with due := s.due.erase .twoKey }) ∧
  (s.panel.doneMark = false → s.profile.authoriseTime * 1000 ≤ s.panel.comboCounter →
    (s.profile.keyMode = .silenceOnly → exec .twoKeyRoomRelease s = .next { s with
      due := s.due.erase .twoKey,
      panel := { s.panel with doneMark := true } }) ∧
    (s.profile.keyMode = .full → ∃ t, exec .twoKeyRoomRelease s = .next t ∧
      t.panel = { s.panel with doneMark := true } ∧
      (∀ p, (s.port p).state ≠ .blocked → (s.port p).state ≠ .held → t.port p = s.port p) ∧
      (∀ q, (s.port q).state = .blocked ∨ (s.port q).state = .held →
        t.port q = { s.port q with state := releaseTarget (s.port q), strikes := 0, holdOff := 0, calm := 0, decay := 0,
                                   wants := (t.port q).wants } ∧
        (releaseTarget (s.port q) ≠ .testing → (t.port q).wants = (s.port q).wants)) ∧
      PurposeJoined (fun q => decide (((s.port q).state = .blocked ∨ (s.port q).state = .held) ∧
        releaseTarget (s.port q) = .testing)) (fun u => { u with recover := true, recoverBroken := false }) s t ∧
      t.trips = s.trips.filter (fun i => !decide (((s.port i.port).state = .blocked ∨ (s.port i.port).state = .held) ∧
        releaseTarget (s.port i.port) ≠ .testing)) ∧
      t.control = { s.control with pendingGate := t.control.pendingGate } ∧
      (∀ q : Port, t.control.pendingGate[q] = if (s.port q).state = .held ∧ releaseTarget (s.port q) = .opened then some .pass
        else s.control.pendingGate[q]) ∧
      t.mgmt = s.mgmt.raise (.panel (.roomRelease
        (allPorts.filter fun p => decide ((s.port p).state = .blocked ∨ (s.port p).state = .held)).length)
        s.timer.secondCount) ∧
      OnlyIn [.ports, .probes, .control, .trips, .panel, .mgmt, .due] s t ∧ t.due = s.due.erase .twoKey))) ∧
  (∀ r : PortRecord, (r.state = .blocked → releaseTarget r = .testing) ∧
    (r.state = .held → r.linkUp = false → releaseTarget r = .down) ∧
    (r.state = .held → r.linkUp = true → r.role = .desk → releaseTarget r = .testing) ∧
    (r.state = .held → r.linkUp = true → r.role = .trunk → releaseTarget r = .opened))

/-- For every common c and segment k below 10: bit k of the segments is set exactly when cell 10c + k is below 80 and lit;
a cell owned by the host shows its host value; an AUTO cell p shows the red value and AUTO cell 40 + p the green value
of port p's state: red OFF and green OFF for UNGUARDED and DOWN, OFF and FAST for PRIMING, OFF and ON for OPEN, SLOW
and ON for LIMITED, ON and OFF for BLOCKED, ON and FAST for TESTING, FAST and OFF for HELD; SLOW is lit while the slot
count mod 1000 is below 500 and FAST while it mod 250 is below 125. With no event left due SCAN_NEXT_COMMON drives the
next common below the duty of the pass, or common 0 with the duty read anew, with those segments, and changes nothing
else. (R139, R140, R141, R142, R143) -/
def Obligations.ScanDrivesLitCells : Prop :=
  (∀ (s : State) (c k : Nat), k < 10 →
  ((s.segments c).getLsbD k = true ↔ ∃ h : 10 * c + k < 80, lit (s.cellValue ⟨10 * c + k, h⟩) s.timer.slotCount = true) ∧
  (∀ n : Fin 80, s.panel.cells[n].hostOwned = true → s.cellValue n = s.panel.cells[n].value) ∧
  (∀ p : Port, s.panel.cells[p.val].hostOwned = false → s.cellValue ⟨p.val, by omega⟩ = redValue (s.port p).state) ∧
  (∀ p : Port, s.panel.cells[40 + p.val].hostOwned = false →
    s.cellValue ⟨40 + p.val, by omega⟩ = greenValue (s.port p).state) ∧
  (∀ x : Word, (lit .slow x = true ↔ x.toNat % 1000 < 500) ∧ (lit .fast x = true ↔ x.toNat % 250 < 125) ∧
    lit .on x = true ∧ lit .off x = false)) ∧
  (∀ s : State, s.due = [] →
  (s.panel.scan.common + 1 < s.panel.scan.duty → exec .scanNextCommon s = .next { s with
    panel := { s.panel with scan := { s.panel.scan with common := s.panel.scan.common + 1,
                                                        segments := s.segments (s.panel.scan.common + 1) } } }) ∧
  (s.panel.scan.duty ≤ s.panel.scan.common + 1 → exec .scanNextCommon s = .next { s with
    panel := { s.panel with scan := { common := 0, duty := s.profile.panelDuty, segments := s.segments 0 } } })) ∧
  (∀ x : PortState, (redValue x, greenValue x) = match x with
    | .unguarded => (.off, .off)
    | .down => (.off, .off)
    | .priming => (.off, .fast)
    | .opened => (.off, .on)
    | .limited => (.slow, .on)
    | .blocked => (.on, .off)
    | .testing => (.on, .fast)
    | .held => (.fast, .off))

/-- For every kind, tag and body of at most 200 bytes: from a state with no event left due whose receiver is HUNTING, the
steps that receive the characters of the encoded frame lead to the state in which the link is TALKING, the receiver
HUNTING and the frame of that kind, tag and body has been offered to the request queue (joined, or discarded as a
request error when four wait); nothing else has changed. With any other byte in place of the check byte they lead to
the state in which the frame is discarded as a request error, the receiver HUNTING and the link state and the queue as
they were. (R155, R156, R157, R158, R181) -/
def Obligations.FrameCharactersMakeARequest : Prop :=
  ∀ (s : State) (kind tag : Byte) (body : List Byte) (rest : List Instr), body.length ≤ 200 →
  s.due = [] → s.mgmt.receiver = .hunting →
  (s.pending = (frameBytes kind tag body).map (fun b => Instr.mlCharacterReceive b true) ++ rest →
  Host.Core.run Sys2Proof.core (body.length + 5) s = .next { s with
    pending := rest
    mgmt := if s.mgmt.requests.length < 4 then
        { s.mgmt with talking := true, requests := s.mgmt.requests ++ [{ kind := kind, tag := tag, body := body }] }
      else { s.mgmt with talking := true, discarded := min (s.mgmt.discarded + 1) 65535,
                         flags := { s.mgmt.flags with requestError := true } } }) ∧
  (∀ b : Byte, b ≠ crc8 (natByte body.length :: kind :: tag :: body) →
    s.pending = ((0xC3 :: natByte body.length :: kind :: tag :: body) ++ [b]).map (fun b => Instr.mlCharacterReceive b true) ++
      rest →
    Host.Core.run Sys2Proof.core (body.length + 5) s = .next { s with
      pending := rest
      mgmt := { s.mgmt with discarded := min (s.mgmt.discarded + 1) 65535,
                            flags := { s.mgmt.flags with requestError := true } } })

/-- With no event left due: in HUNTING every character but a good 0xC3 is ignored and 0xC3 starts a frame of age 0; in a
frame a broken character, or a length byte above 200, is a request error; in BREAK_WAIT no character is taken. With
its event due and the break counter at 5, LINK_BREAK empties the request queue, reply slot, notice queue and line,
enables every notice, clears flags and counters, makes the link QUIET and waits in BREAK_WAIT, and touches no other
block. With no event left due BREAK_WAIT_END returns to HUNTING with the break counter at 0, and changes nothing in
another receive state (log 2, the model's choice). A SLOT_EXPIRY with no event left due that leaves its events to
their own rows (log 3) counts the age of a frame in progress, FRAME_TIMEOUT falling due exactly when it reaches 20,
and leaves another receive state; outside BREAK_WAIT it counts the break counter up for a line low throughout the slot
and to 0 otherwise, LINK_BREAK falling due exactly when it reaches 5, and in BREAK_WAIT the counter stands. (R155,
R156, R157, R163, R164) -/
def Obligations.ReceiverErrorsAndLinkBreak : Prop :=
  ∀ s : State,
  (s.due = [] → ∀ b stop, s.mgmt.receiver = .hunting → stop = false ∨ b ≠ 0xC3 → exec (.mlCharacterReceive b stop) s = .next s) ∧
  (s.due = [] → s.mgmt.receiver = .hunting →
    exec (.mlCharacterReceive 0xC3 true) s = .next { s with mgmt := { s.mgmt with receiver := .inFrame [] 0 } }) ∧
  (s.due = [] → ∀ b bytes age, s.mgmt.receiver = .inFrame bytes age → exec (.mlCharacterReceive b false) s = .next { s with
    mgmt := { s.mgmt with receiver := .hunting, discarded := min (s.mgmt.discarded + 1) 65535,
                          flags := { s.mgmt.flags with requestError := true } } }) ∧
  (s.due = [] → ∀ (b : Byte) age, s.mgmt.receiver = .inFrame [] age → 200 < b.toNat →
    exec (.mlCharacterReceive b true) s = .next { s with
      mgmt := { s.mgmt with receiver := .hunting, discarded := min (s.mgmt.discarded + 1) 65535,
                            flags := { s.mgmt.flags with requestError := true } } }) ∧
  (s.due = [] → ∀ b stop, s.mgmt.receiver = .breakWait → exec (.mlCharacterReceive b stop) s = .next s) ∧
  (Event.linkBreak ∈ s.due → s.mgmt.receiver ≠ .breakWait → 5 ≤ s.mgmt.breakCount →
    exec .linkBreak s = .next { s with
      due := s.due.erase .linkBreak,
      mgmt := { straps := s.mgmt.straps, receiver := .breakWait, breakCount := s.mgmt.breakCount, requests := [],
                reply := none, line := .idle, talking := false, queue := [], mask := 0x07FF, flags := Flags.clear,
                lost := 0, discarded := 0, dropped := 0 } }) ∧
  (s.due = [] → s.mgmt.receiver = .breakWait → exec .breakWaitEnd s = .next { s with
    mgmt := { s.mgmt with receiver := .hunting, breakCount := 0 } }) ∧
  (s.due = [] → s.mgmt.receiver ≠ .breakWait → exec .breakWaitEnd s = .next s) ∧
  (∀ (lines : SlotLines) (admitFirst : Bool), s.due = [] →
    ∃ t, exec (.slotExpiry lines ⟨.ownRows, admitFirst⟩) s = .next t ∧
      t.mgmt.receiver = (match s.mgmt.receiver with
        | .inFrame bytes age => .inFrame bytes (age + 1)
        | other => other) ∧
      (Event.frameTimeout ∈ t.due ↔ ∃ bytes age, s.mgmt.receiver = .inFrame bytes age ∧ 19 ≤ age) ∧
      t.mgmt.breakCount = (if s.mgmt.receiver = .breakWait then s.mgmt.breakCount
        else if lines.rxLow then s.mgmt.breakCount + 1 else 0) ∧
      (Event.linkBreak ∈ t.due ↔ s.mgmt.receiver ≠ .breakWait ∧ lines.rxLow = true ∧ 4 ≤ s.mgmt.breakCount))

/-- With no event left due: REPLY_SENT with a reply on the line empties the reply slot and the line, and the notice queue
too when the reply was that of a RESTART taken. NOTICE_FRAME_END with a notice on the line begins the waiting reply,
or leaves the line idle. NOTICE_SEND, with the line idle, the reply slot and the request queue empty and the link
TALKING, takes out of the queue and sends the oldest notice of the highest class; otherwise, or with an empty notice
queue, it changes nothing. A raised notice whose kind is masked changes nothing; one that shares its key with a queued
notice takes that notice's place with the repeat field one higher, to at most 255; else it joins as the youngest with
repeat field 1 while fewer than 16 are queued; else, when its class is above the lowest present, it joins as the
youngest and the youngest of that lowest class is removed, and otherwise it is discarded, NOTICE_DROPPED being set and
the dropped counter advanced in both. The classes are URGENT for TRIP, FOREIGN and TRUNK_LOOP, FABRIC for FABRIC_LOST
and FABRIC_BACK, RESULT for RECOVERED, CHECK_DONE and SWEEP_DONE, and INFO for FLAP, PANEL and GRACE_END, in falling
order. Two notices share a key when they are of one kind and name the same port for TRIP, FOREIGN and RECOVERED, the
same pair in either order for TRUNK_LOOP, the same lower port for FLAP, and always for FABRIC_LOST, FABRIC_BACK, PANEL
and GRACE_END; CHECK_DONE and SWEEP_DONE never do. The frame of a notice carries its code, tag 0, the body of section
12.4 and its repeat field. (R158, R161, R162, R167, R169, R170, R171, R172, R173, R181, 12_wire_formats.md, 12.3
Management frames and kinds, 12_wire_formats.md, 12.4 Tables and blocks) -/
def Obligations.LineSendsRepliesThenNotices : Prop :=
  (∀ s : State, s.due = [] →
  (∀ bytes r, s.mgmt.line = .reply bytes → s.mgmt.reply = some r → exec .replySent s = .next { s with
    mgmt := { s.mgmt with line := .idle, reply := none, queue := if r.flush then [] else s.mgmt.queue } }) ∧
  (∀ bytes r, s.mgmt.line = .notice bytes → s.mgmt.reply = some r → exec .noticeFrameEnd s = .next { s with
    mgmt := { s.mgmt with line := .reply (frameBytes r.kind r.tag r.body) } }) ∧
  (∀ bytes, s.mgmt.line = .notice bytes → s.mgmt.reply = none → exec .noticeFrameEnd s = .next { s with
    mgmt := { s.mgmt with line := .idle } }) ∧
  (∀ before q after, s.mgmt.line = .idle → s.mgmt.reply = none → s.mgmt.requests = [] →
    s.mgmt.talking = true →
    s.mgmt.queue = before ++ q :: after → (∀ x ∈ before, x.rank < q.rank) → (∀ x ∈ after, x.rank ≤ q.rank) →
    exec .noticeSend s = .next { s with
      mgmt := { s.mgmt with line := .notice (noticeFrame q), queue := before ++ after } }) ∧
  (s.mgmt.line ≠ .idle ∨ s.mgmt.reply ≠ none ∨ s.mgmt.requests ≠ [] ∨ s.mgmt.talking = false ∨ s.mgmt.queue = [] →
    exec .noticeSend s = .next s)) ∧
  (∀ (m : Mgmt) (n : Notice),
  (kindEnabled m.mask n = false → m.raise n = m) ∧
  (kindEnabled m.mask n = true →
    (∀ before q after, m.queue = before ++ q :: after → (∀ x ∈ before, sameKey n x.notice = false) →
      sameKey n q.notice = true →
      m.raise n = { m with queue := before ++ { notice := n, repeats := min (q.repeats + 1) 255 } :: after }) ∧
    ((∀ x ∈ m.queue, sameKey n x.notice = false) → m.queue.length < 16 →
      m.raise n = { m with queue := m.queue ++ [{ notice := n, repeats := 1 }] }) ∧
    (∀ before q after, (∀ x ∈ m.queue, sameKey n x.notice = false) → 16 ≤ m.queue.length →
      m.queue = before ++ q :: after → (∀ x ∈ before, q.rank ≤ x.rank) → (∀ x ∈ after, q.rank < x.rank) →
      q.rank < (classOfNotice n).rank →
      m.raise n = { m with
        queue := before ++ after ++ [{ notice := n, repeats := 1 }], dropped := min (m.dropped + 1) 65535,
        flags := { m.flags with noticeDropped := true } }) ∧
    ((∀ x ∈ m.queue, sameKey n x.notice = false) → 16 ≤ m.queue.length →
      (∀ x ∈ m.queue, (classOfNotice n).rank ≤ x.rank) →
      m.raise n = { m with
        dropped := min (m.dropped + 1) 65535, flags := { m.flags with noticeDropped := true } }))) ∧
  (∀ (n : Notice) (repeats : Nat), ∃ code body, noticeFrame { notice := n, repeats := repeats } =
    frameBytes code 0 (body ++ [natByte repeats]) ∧
  (code, body) = match n with
    | .trip p cause entered partner strikes t => ((0x40 : Byte),
        [portByte p, causeCode cause, stateCode entered, partnerByte partner, natByte strikes] ++ wordBytes t)
    | .foreign x room t => (0x41, [portByte x] ++ halfBytes room ++ wordBytes t)
    | .trunkLoop o x t => (0x42, [portByte o, portByte x] ++ wordBytes t)
    | .fabricLost t => (0x43, wordBytes t)
    | .fabricBack slots t => (0x44, natBytes slots ++ wordBytes t)
    | .recovered p left strikes t => (0x45, [portByte p, stateCode left, natByte strikes] ++ wordBytes t)
    | .checkDone p tag outcome arrival t =>
      (0x46, [portByte p, tag, outcomeCode outcome, partnerByte arrival] ++ wordBytes t)
    | .sweepDone r outcome t => (0x47, [if r.host.isSome then 1 else 0, r.host.getD 0, r.number, portByte r.first,
        portByte r.last, sweepEndCode outcome, natByte r.admitted, natByte r.clear, natByte r.contained,
        natByte r.looped, natByte r.skipped] ++ wordBytes t)
    | .flap p q a t => (0x48, [portByte p, portByte q] ++ addressBytes a ++ wordBytes t)
    | .panel (.silence was) t => (0x49, [0, if was then 1 else 0] ++ wordBytes t)
    | .panel (.release p) t => (0x49, [1, partnerByte p] ++ wordBytes t)
    | .panel (.roomRelease count) t => (0x49, [2, natByte count] ++ wordBytes t)
    | .graceEnd expired t => (0x4A, [if expired then 1 else 0] ++ wordBytes t)) ∧
  (NoticeClass.info.rank < NoticeClass.result.rank ∧ NoticeClass.result.rank < NoticeClass.fabric.rank ∧
    NoticeClass.fabric.rank < NoticeClass.urgent.rank ∧
    (∀ q : QueuedNotice, q.rank = (classOfNotice q.notice).rank) ∧ ∀ n : Notice, classOfNotice n = match n with
      | .trip .. => .urgent
      | .foreign .. => .urgent
      | .trunkLoop .. => .urgent
      | .fabricLost .. => .fabric
      | .fabricBack .. => .fabric
      | .recovered .. => .result
      | .checkDone .. => .result
      | .sweepDone .. => .result
      | .flap .. => .info
      | .panel .. => .info
      | .graceEnd .. => .info) ∧
  (∀ a b : Notice, sameKey a b = match a, b with
    | .trip p .., .trip q .. => decide (p = q)
    | .foreign p .., .foreign q .. => decide (p = q)
    | .trunkLoop o x _, .trunkLoop o2 x2 _ => decide (o = o2 ∧ x = x2 ∨ o = x2 ∧ x = o2)
    | .fabricLost .., .fabricLost .. => true
    | .fabricBack .., .fabricBack .. => true
    | .recovered p .., .recovered q .. => decide (p = q)
    | .flap p q .., .flap p2 q2 .. => decide (min p.val q.val = min p2.val q2.val)
    | .panel .., .panel .. => true
    | .graceEnd .., .graceEnd .. => true
    | _, _ => false)

/-- With no event left due, the reply slot empty and a frame at the head of the request queue of a TALKING link (each
frame made it so, see FramesHeard), REQUEST_TAKE takes it out: a kind that names no request is answered BAD_KIND under
the kind with its top bit set, a body of the wrong length BAD_LENGTH, and any other frame does exactly what the
command it stands for does on the state with an empty request queue, the frames behind it staying queued. With the
reply slot full, or no frame queued, REQUEST_TAKE changes nothing; with the reply slot full, or a frame queued, no
request command changes anything (log 5, the model's choice). (R158, R159, R183) -/
def Obligations.RequestTakeServesTheHeadFrame : Prop :=
  ∀ s : State, s.due = [] →
  (∀ f rest, s.mgmt.talking = true → s.mgmt.reply = none → s.mgmt.requests = f :: rest →
    (∀ c, commandOf f = some c →
      ∃ t, exec c { s with mgmt := { s.mgmt with requests := [] } } = .next t ∧
        exec .requestTake s = .next { t with mgmt := { t.mgmt with requests := rest } }) ∧
    (bodyLength f.kind = none → exec .requestTake s = .next (Replied { s with mgmt := { s.mgmt with requests := rest } }
      (f.kind ||| 0x80) f.tag [2])) ∧
    (∀ n, bodyLength f.kind = some n → f.body.length ≠ n →
      exec .requestTake s = .next (Replied { s with mgmt := { s.mgmt with requests := rest } } (f.kind + 0x80) f.tag [3])) ∧
    (∀ n, bodyLength f.kind = some n → f.body.length = n → (commandOf f).isSome = true)) ∧
  (s.mgmt.reply ≠ none ∨ s.mgmt.requests = [] → exec .requestTake s = .next s) ∧
  (∀ f c, commandOf f = some c → s.mgmt.reply ≠ none ∨ s.mgmt.requests ≠ [] → exec c s = .next s)

/-- When a request is taken at once: STATUS replies with part code, revision, room id, slot and second count, link state
TALKING, receiver state, grace, flags and counters, clearing the seven flags with CLEAR and refusing any option but 0
and 1 with BAD_VALUE; PROFILE GET replies with the sixteen fields and forty roles; METER GET replies with the class's
setup and both threshold sets and refuses an unknown class; TRIP LIST replies with the count and the items head first.
Nothing but the reply (and the cleared flags) changes. The command is the receipt of its frame too and makes the link
TALKING (log 5). (R45, R113, R162, R166, R175) -/
def Obligations.StatusProfileMetersAndTripsAreRead : Prop :=
  ∀ (s : State) (tag : Byte), TakesRequests s →
  (∀ option : Byte, option = 0 ∨ option = 1 → exec (.status tag option) s = .next (Replied
    (if option = 1 then { s with mgmt := { s.mgmt with flags := Flags.clear } } else s) 0x81 tag
    ([0, 0x4C, 0x30, 1] ++ halfBytes s.profile.roomId ++ wordBytes s.timer.slotCount ++ wordBytes s.timer.secondCount ++
      [1, boolByte s.receiver.synced, natByte s.grace, flagsByte s.mgmt.flags] ++
      natBytes s.mgmt.lost ++ natBytes s.mgmt.discarded ++ natBytes s.mgmt.dropped))) ∧
  (∀ option : Byte, option ≠ 0 → option ≠ 1 → exec (.status tag option) s = .next (Replied s 0x81 tag [10])) ∧
  exec (.profileGet tag) s = .next (Replied s 0x82 tag
    ([0] ++ halfBytes s.profile.roomId ++ [natByte s.profile.probeTimeout] ++ natBytes s.profile.sweepPeriod ++
      [natByte s.profile.sweepSpacing, natByte s.profile.holdOffBase, natByte s.profile.strikeLimit,
       natByte s.profile.decayPeriod] ++ natBytes s.profile.calmHold ++ [natByte s.profile.confirmCount] ++
      natBytes s.profile.flapWindow ++ [natByte s.profile.flapLimit] ++ natBytes s.profile.stationAge ++
      [natByte s.profile.panelDuty, natByte s.profile.buzzTime, natByte s.profile.authoriseTime,
       keyModeCode s.profile.keyMode] ++ allPorts.map fun p => roleCode (s.port p).role)) ∧
  (∀ k, exec (.meterGet tag (classCode k)) s = .next (Replied s 0x84 tag
    ([0, classCode k, natByte (s.profile.meters.get k).window, shapeCode (s.profile.meters.get k).shape,
      natByte (s.profile.meters.get k).shift] ++
      intBytes (s.profile.meters.get k).desk.limit ++ intBytes (s.profile.meters.get k).desk.block ++
      intBytes (s.profile.meters.get k).desk.calm ++ intBytes (s.profile.meters.get k).desk.ceil ++
      intBytes (s.profile.meters.get k).trunk.limit ++ intBytes (s.profile.meters.get k).trunk.block ++
      intBytes (s.profile.meters.get k).trunk.calm ++ intBytes (s.profile.meters.get k).trunk.ceil))) ∧
  (∀ cls : Byte, 3 ≤ cls.toNat → exec (.meterGet tag cls) s = .next (Replied s 0x84 tag [10])) ∧
  exec (.tripList tag) s = .next (Replied s 0x8D tag ([0, natByte s.trips.length] ++ s.trips.flatMap fun i =>
    natBytes (i.port.val * 1024 + (match i.partner with | some q => q.val | none => 63) * 16 + causeNumber i.cause) ++
    natBytes ((match (s.port i.port).state with | .blocked => 1 | .testing => 2 | .held => 3 | _ => 0) * 16384 +
      (s.port i.port).strikes * 1024 + (s.port i.port).holdOff)))

/-- When a request is taken at once: PORT GET of a port replies with its port, meter and probe sections at the offsets of
section 12.4, EVIDENCE GET with its record (10 bytes unlatched, 41 latched), STATION FIND with the entry of the
address (30 bytes) or NOT_FOUND; port numbers of 40 or more are refused with BAD_PORT. Nothing but the reply changes.
The command is the receipt of its frame too and makes the link TALKING (log 5). (R57, R115, R136) -/
def Obligations.PortEvidenceAndStationAreRead : Prop :=
  ∀ (s : State) (tag : Byte), TakesRequests s →
  (∀ port : Byte, 40 ≤ port.toNat → exec (.portGet tag port) s = .next (Replied s 0x88 tag [4]) ∧
    exec (.evidenceGet tag port) s = .next (Replied s 0x91 tag [4])) ∧
  (∀ p : Port, ∃ b, exec (.portGet tag (portByte p)) s = .next (Replied s 0x88 tag b) ∧ b.length = 61 ∧
    b.take 7 = [0, portByte p, roleCode (s.port p).role, stateCode (s.port p).state, boolByte (s.port p).linkUp,
      gateCode (gateOf (s.port p).state), natByte (s.port p).strikes] ∧
    halfAt b 7 = BitVec.ofNat 16 (s.port p).holdOff ∧ halfAt b 9 = BitVec.ofNat 16 (s.port p).calm ∧
    halfAt b 11 = BitVec.ofNat 16 (s.port p).decay ∧ byteAt b 13 = linkupCode (s.port p).linkup ∧
    (∀ before i after, s.trips = before ++ i :: after → i.port = p → (∀ x ∈ before, x.port ≠ p) →
      byteAt b 14 = natByte (before.length + 1) ∧ byteAt b 15 = causeCode i.cause ∧ byteAt b 16 = partnerByte i.partner) ∧
    ((∀ x ∈ s.trips, x.port ≠ p) → byteAt b 14 = 0 ∧ byteAt b 15 = 0 ∧ byteAt b 16 = 0xFF) ∧
    (∀ k : TrafficClass, let i := 17 + 9 * (classCode k).toNat
      let m := (s.portMeters p).get k
      halfAt b i = BitVec.ofNat 16 m.level ∧ halfAt b (i + 2) = BitVec.ofNat 16 m.base ∧
      halfAt b (i + 4) = BitVec.ofInt 16 m.excess ∧ byteAt b (i + 6) = natByte m.stormRun ∧
      byteAt b (i + 7) = natByte m.severeRun ∧ byteAt b (i + 8) = natByte m.priming) ∧
    byteAt b 44 = purposeCode (s.port p).wants ∧ byteAt b 45 = (s.port p).wants.host.getD 0 ∧
    byteAt b 46 = (s.port p).wants.sweep.getD 0 ∧
    (s.entryOf p = none → byteAt b 47 = 0) ∧
    (∀ e, s.entryOf p = some e → byteAt b 47 = (if e.expiry = none then 1 else 2) ∧ halfAt b 48 = e.tag ∧
      byteAt b 50 = purposeCode e.purposes ∧ byteAt b 51 = e.purposes.host.getD 0 ∧
      byteAt b 52 = e.purposes.sweep.getD 0 ∧
      ∀ x, e.expiry = some x → byteAt b 53 = natByte (x - s.timer.slotCount.setWidth 16).toNat) ∧
    halfAt b 54 = BitVec.ofNat 16 s.probes.stale ∧ halfAt b 56 = BitVec.ofNat 16 s.probes.unknown ∧
    halfAt b 58 = BitVec.ofNat 16 s.probes.foreign ∧ byteAt b 60 = natByte s.probes.list.length) ∧
  (∀ p : Port, ∃ b, exec (.evidenceGet tag (portByte p)) s = .next (Replied s 0x91 tag b) ∧
    b.take 10 = [0, portByte p, boolByte (s.evidenceOf p).capture.isSome, natByte (s.evidenceOf p).repeats] ++
      wordBytes s.timer.secondCount ++ halfBytes (s.timer.slotCount.setWidth 16) ∧
    ((s.evidenceOf p).capture = none → b.length = 10) ∧
    (∀ x, (s.evidenceOf p).capture = some x → b.drop 10 =
      [causeCode x.cause, stateCode x.entered, partnerByte x.partner,
       natByte ((if x.foreign.isSome then 1 else 0) + if x.held then 2 else 0)] ++ halfBytes (x.foreign.getD 0) ++
      wordBytes x.second ++ halfBytes x.stamp ++ [natByte x.strikes] ++
      natBytes x.values.bcast.level ++ natBytes x.values.bcast.base ++ intBytes x.values.bcast.excess ++
      natBytes x.values.mcast.level ++ natBytes x.values.mcast.base ++ intBytes x.values.mcast.excess ++
      natBytes x.values.flood.level ++ natBytes x.values.flood.base ++ intBytes x.values.flood.excess)) ∧
  (∀ a : Address, findStation a s.stations = none →
    exec (.stationFind tag a) s = .next (Replied s 0x93 tag [9])) ∧
  (∀ (a : Address) (e : StationEntry), findStation a s.stations = some e → ∃ b,
    exec (.stationFind tag a) s = .next (Replied s 0x93 tag b) ∧ b.length = 30 ∧ byteAt b 0 = 0 ∧
    halfAt b 1 = BitVec.ofNat 16 e.position ∧ addressAt b 3 = e.address ∧ byteAt b 9 = portByte e.home ∧
    (b.drop 10).take 4 = wordBytes e.lastSeen ∧ byteAt b 14 = boolByte e.pinned ∧ byteAt b 15 = natByte e.moves.length ∧
    (∀ i (h : i < e.moves.length), i < 4 → byteAt b (16 + 3 * i) = portByte e.moves[i].port ∧
      halfAt b (17 + 3 * i) = e.moves[i].stamp) ∧
    halfAt b 28 = s.timer.slotCount.setWidth 16)

/-- When a request is taken at once and the probe list is sound: a bad key mode or role code is refused with BAD_VALUE and
the profile as it stands. Otherwise the profile takes the sixteen fields clamped and keeps the meter setups; each port
has its new role, a changed one restarted with strikes 0 in the state its role and link give, an unchanged one keeping
its state with strikes lowered to a lowered limit; the want set and QUEUED entry of each port whose role changes
conclude VOID, lower ports first; a changed room id empties the probe list, EMIT queue and recent window, concludes
every entry left VOID, lower ports first, retires the old id, and leaves a LINKUP want on every PRIMING port and a
RECOVER want on every TESTING port; VOID counts a SWEEP skipped and raises CHECK_DONE with VOID for a HOST; wants of
other purposes of a port whose role stands stay; a changed sweep period loads the timer; a buzz time of 0 stops the
buzzer; the reply is CLAMPED exactly when a field was out of range, and carries the profile. That the entries a
changed room id removes conclude lower ports first (log 10), and SWEEP before HOST (log 27), is the model's choice.
The command is the receipt of its frame too and makes the link TALKING (log 5). (R160, R174, R176, R177, R77, R78,
R82, R83, R105, R110) -/
def Obligations.ProfileSetReplacesTheProfile : Prop :=
  ∀ (s : State) (tag : Byte) (b : ProfileBlock), TakesRequests s → ProbeListSound s →
  (keyModeOf b.keyMode = none ∨ (∃ p : Port, roleOf b.roles[p] = none) →
    exec (.profileSet tag b) s = .next (Replied s 0x83 tag (10 :: s.profileBytes))) ∧
  (∀ (mode : KeyMode) (roles : Port → Role), keyModeOf b.keyMode = some mode →
    (∀ p : Port, roleOf b.roles[p] = some (roles p)) →
    ∃ t, exec (.profileSet tag b) s = .next t ∧
      t.profile = {
        roomId := b.roomId, probeTimeout := clampNat 10 250 b.probeTimeout.toNat,
        sweepPeriod := clampNat 0 600 b.sweepPeriod.toNat, sweepSpacing := clampNat 1 100 b.sweepSpacing.toNat,
        holdOffBase := clampNat 1 60 b.holdOffBase.toNat, strikeLimit := clampNat 1 15 b.strikeLimit.toNat,
        decayPeriod := clampNat 1 60 b.decayPeriod.toNat, calmHold := clampNat 100 10000 b.calmHold.toNat,
        confirmCount := clampNat 1 32 b.confirmCount.toNat, flapWindow := clampNat 100 5000 b.flapWindow.toNat,
        flapLimit := clampNat 2 4 b.flapLimit.toNat, stationAge := clampNat 10 3600 b.stationAge.toNat,
        panelDuty := clampNat 4 8 b.panelDuty.toNat, buzzTime := clampNat 0 30 b.buzzTime.toNat,
        authoriseTime := clampNat 1 8 b.authoriseTime.toNat, keyMode := mode, meters := s.profile.meters } ∧
      (∀ p, (t.port p).role = roles p ∧ (t.port p).linkUp = (s.port p).linkUp) ∧
      (∀ p, roles p ≠ (s.port p).role → (t.port p).strikes = 0 ∧
        (t.port p).state = if roles p = .off then .unguarded else if (s.port p).linkUp then .priming else .down) ∧
      (∀ p, roles p = (s.port p).role → (t.port p).state = (s.port p).state ∧
        (t.port p).strikes = if t.profile.strikeLimit < s.profile.strikeLimit then
          min (s.port p).strikes t.profile.strikeLimit else (s.port p).strikes) ∧
      (b.roomId ≠ s.profile.roomId → t.probes.list = [] ∧ t.probes.recent = [] ∧ t.control.emitQueue = [] ∧
        t.probes.retired = some { room := s.profile.roomId, left := 250 } ∧
        (∀ p, (t.port p).state = .priming → (t.port p).wants.linkup = true) ∧
        (∀ p, (t.port p).state = .testing → (t.port p).wants.recover = true)) ∧
      (∀ p, roles p = (s.port p).role → (t.port p).wants.host = (s.port p).wants.host ∧
        (t.port p).wants.storm = (s.port p).wants.storm ∧ (t.port p).wants.flap = (s.port p).wants.flap) ∧
      (b.roomId = s.profile.roomId → t.probes.retired = s.probes.retired ∧ t.probes.recent = s.probes.recent) ∧
      t.panel = { s.panel with buzzer := if t.profile.buzzTime = 0 then none else s.panel.buzzer } ∧
      (let restarted := (allPorts.filter fun p => decide (roles p ≠ (s.port p).role)).foldl (fun v p => VoidedPort p v)
        { s with mgmt := s.mgmt.heard }
       let left := allPorts.flatMap fun p => s.probes.list.filter fun e =>
        decide (e.origin = p ∧ (e.expiry.isSome = true ∨ roles p = (s.port p).role))
       let concluded := if b.roomId = s.profile.roomId then restarted
        else left.foldl (fun v e => Voided e.origin e.purposes v) restarted
       t.sweep = { concluded.sweep with
        timer := if t.profile.sweepPeriod = s.profile.sweepPeriod then s.sweep.timer else t.profile.sweepPeriod } ∧
       t.mgmt = concluded.mgmt.fillReply {
            kind := 0x83, tag := tag, flush := false,
            body := (if ([(b.probeTimeout.toNat, 10, 250), (b.sweepPeriod.toNat, 0, 600), (b.sweepSpacing.toNat, 1, 100),
              (b.holdOffBase.toNat, 1, 60), (b.strikeLimit.toNat, 1, 15), (b.decayPeriod.toNat, 1, 60),
              (b.calmHold.toNat, 100, 10000), (b.confirmCount.toNat, 1, 32), (b.flapWindow.toNat, 100, 5000),
              (b.flapLimit.toNat, 2, 4), (b.stationAge.toNat, 10, 3600), (b.panelDuty.toNat, 4, 8),
              (b.buzzTime.toNat, 0, 30), (b.authoriseTime.toNat, 1, 8)] : List (Nat × Nat × Nat)).any
              (fun x => decide (x.1 < x.2.1) || decide (x.2.2 < x.1)) then 1 else 0) :: t.profileBytes }) ∧
      t.stations = s.stations ∧ t.evidence = s.evidence ∧ t.timer = s.timer ∧ t.grace = s.grace)

/-- When a request is taken at once. METER SET: an unknown class is refused with BAD_VALUE alone, a bad window or shape
with BAD_VALUE and the block as it stands; else the class's setup is in range, with the shift and thresholds clamped
in the order of R43, its meter on every port restarts under it with the baseline clamped to the ceiling of a guarded
port's role, the other classes keep their setups and meters, and the status is CLAMPED exactly when the shift or a
threshold was out of its range, each judged after those before it. BASELINE SET, with a port or 0xFF for every port
and with a class or ALL: each named meter of a guarded port has the value clamped to its ceiling as its baseline and E
formed again, every other meter stands, and the reply carries CLAMPED exactly when the value is above the ceiling of a
meter set, else OK, and the number of meters set, 0 with 0xFF in a room of OFF ports; an OFF port named alone with a
class or ALL is refused WRONG_STATE, ports 40..254 BAD_PORT, and a class above 3 of any other port or of 0xFF
BAD_VALUE. The command is the receipt of its frame too and makes the link TALKING (log 5). (R33, R35, R38, R39, R42,
R43, R44, R160) -/
def Obligations.MeterAndBaselineRequests : Prop :=
  ∀ (s : State) (tag : Byte), TakesRequests s →
  (∀ b : MeterBlock, 3 ≤ b.cls.toNat → exec (.meterSet tag b) s = .next (Replied s 0x85 tag [10])) ∧
  (∀ (b : MeterBlock) (k : TrafficClass), classOf b.cls = some k → windowOf b.window = none ∨ shapeOf b.shape = none →
    exec (.meterSet tag b) s = .next (Replied s 0x85 tag (10 :: s.meterBytes k))) ∧
  (∀ (b : MeterBlock) (k : TrafficClass) (shape : Shape), classOf b.cls = some k →
    b.window.toNat ∈ [4, 8, 16, 32, 64] → shapeOf b.shape = some shape →
    ∃ t c status, exec (.meterSet tag b) s = .next t ∧ c.InRange ∧ c.window = b.window.toNat ∧ c.shape = shape ∧
      c.shift = clampNat 1 8 b.shift.toNat ∧ c.desk.limit = clampInt 1 16320 b.desk.limit.toInt ∧
      c.desk.block = clampInt c.desk.limit 16320 b.desk.block.toInt ∧
      c.desk.calm = clampInt (-16320) (c.desk.limit - 1) b.desk.calm.toInt ∧
      c.desk.ceil = clampInt 0 16320 b.desk.ceil.toInt ∧ c.trunk.limit = clampInt 1 16320 b.trunk.limit.toInt ∧
      c.trunk.block = clampInt c.trunk.limit 16320 b.trunk.block.toInt ∧
      c.trunk.calm = clampInt (-16320) (c.trunk.limit - 1) b.trunk.calm.toInt ∧
      c.trunk.ceil = clampInt 0 16320 b.trunk.ceil.toInt ∧
      t.profile = { s.profile with meters := s.profile.meters.set k c } ∧
      (∀ p j, j ≠ k → (t.portMeters p).get j = (s.portMeters p).get j) ∧
      (∀ p, (t.portMeters p).get k = Meter.restartedWith c (if (s.port p).role = .off then ((s.portMeters p).get k).base
        else min ((s.portMeters p).get k).base (c.thresholds (s.port p).role).ceil.toNat)) ∧
      t.mgmt = s.mgmt.heard.fillReply { kind := 0x85, tag := tag, body := status :: t.meterBytes k, flush := false } ∧
      status = (if b.shift.toNat < 1 ∨ 8 < b.shift.toNat ∨
          [(b.desk, c.desk), (b.trunk, c.trunk)].any (fun x : ThresholdBlock × Thresholds =>
            decide (x.1.limit.toInt < 1) || decide (16320 < x.1.limit.toInt) ||
            decide (x.1.block.toInt < x.2.limit) || decide (16320 < x.1.block.toInt) ||
            decide (x.1.calm.toInt < -16320) || decide (x.2.limit - 1 < x.1.calm.toInt) ||
            decide (x.1.ceil.toInt < 0) || decide (16320 < x.1.ceil.toInt)) = true then 1 else 0) ∧
      OnlyIn [.profile, .meters, .mgmt] s t) ∧
  (∀ (ports : List Port) (classes : List TrafficClass) (port cls : Byte) (v : Half),
    (port = 0xFF ∧ ports = allPorts) ∨ (∃ p, port = portByte p ∧ ports = [p] ∧ (s.port p).role ≠ .off) →
    (cls = 3 ∧ classes = [.bcast, .mcast, .flood]) ∨ (∃ k, cls = classCode k ∧ classes = [k]) →
    let named := ports.filter fun p => decide ((s.port p).role ≠ .off)
    let ceil := fun (p : Port) (k : TrafficClass) => (((s.profile.meters.get k).thresholds (s.port p).role).ceil).toNat
    ∃ t, exec (.baselineSet tag port cls v) s = .next t ∧
      (∀ p k, (t.portMeters p).get k = if p ∈ named ∧ k ∈ classes then
          { (s.portMeters p).get k with
            base := min v.toNat (ceil p k),
            excess := (((s.portMeters p).get k).level : Int) - (min v.toNat (ceil p k) : Nat) }
        else (s.portMeters p).get k) ∧
      t.mgmt = s.mgmt.heard.fillReply {
        kind := 0x86, tag := tag, flush := false,
        body := [if ∃ p ∈ named, ∃ k ∈ classes, ceil p k < v.toNat then 1 else 0,
          natByte (named.length * classes.length)] } ∧ OnlyIn [.meters, .mgmt] s t) ∧
  (∀ (p : Port) (cls : Byte) (v : Half), (s.port p).role = .off → cls.toNat < 4 →
    exec (.baselineSet tag (portByte p) cls v) s = .next (Replied s 0x86 tag [5])) ∧
  (∀ (port cls : Byte) (v : Half), 40 ≤ port.toNat → port ≠ 0xFF →
    exec (.baselineSet tag port cls v) s = .next (Replied s 0x86 tag [4])) ∧
  (∀ (port cls : Byte) (v : Half), port.toNat < 40 ∨ port = 0xFF → 4 ≤ cls.toNat →
    exec (.baselineSet tag port cls v) s = .next (Replied s 0x86 tag [10]))

/-- When a request is taken at once: GRACE of d in 1..120 sets the grace timer to d (OK), above 120 to 120 (CLAMPED),
without a notice; d of 0 sets it to 0 and raises GRACE_END with reason HOST when grace was active, and changes nothing
otherwise (OK). The reply carries the grace remaining. The command is the receipt of its frame too and makes the link
TALKING (log 5). (R40) -/
def Obligations.GraceRequestSetsTimer : Prop :=
  ∀ (s : State) (tag : Byte) (d : Half), TakesRequests s →
  (1 ≤ d.toNat → d.toNat ≤ 120 →
    exec (.grace tag d) s = .next (Replied { s with grace := d.toNat } 0x87 tag [0, natByte d.toNat])) ∧
  (120 < d.toNat → exec (.grace tag d) s = .next (Replied { s with grace := 120 } 0x87 tag [1, 120])) ∧
  (d = 0 → 0 < s.grace → exec (.grace tag d) s = .next (Replied
    { s with grace := 0, mgmt := s.mgmt.raise (.graceEnd false s.timer.secondCount) } 0x87 tag [0, 0])) ∧
  (d = 0 → s.grace = 0 → exec (.grace tag d) s = .next (Replied s 0x87 tag [0, 0]))

/-- When a request is taken at once and a sound probe list: a bad port is refused BAD_PORT and a bad role code BAD_VALUE;
the role in force is answered OK and changes nothing; a new role gives the port that role, strikes and counters 0,
linkup result NONE, its link kept, the state UNGUARDED for OFF, PRIMING with a LINKUP want alone for a linked port and
DOWN without wants for an unlinked one, no QUEUED entry, no trip item, a GATE change exactly when the gate differs,
and its meters restarted with baselines of 0 for OFF and clamped to the new ceilings otherwise; the purposes of its
want set and then of its QUEUED entry conclude VOID, a SWEEP counted skipped and a HOST raising CHECK_DONE with VOID,
and the sweep and the notices show this alone; other ports keep all but SWEEP purposes of a sweep that ends so;
evidence, stations and profile fields stand. That the want set concludes before the entry (log 10), and SWEEP before
HOST (log 27), is the model's choice. The command is the receipt of its frame too and makes the link TALKING (log 5).
(R34, R35, R77, R78, R82, R109, R110, R112) -/
def Obligations.PortRoleRestartsThePort : Prop :=
  ∀ (s : State) (tag : Byte) (p : Port), TakesRequests s →
  (∀ port role : Byte, 40 ≤ port.toNat → exec (.portRole tag port role) s = .next (Replied s 0x89 tag [4])) ∧
  (∀ role : Byte, 3 ≤ role.toNat → exec (.portRole tag (portByte p) role) s = .next (Replied s 0x89 tag [10])) ∧
  (exec (.portRole tag (portByte p) (roleCode (s.port p).role)) s = .next (Replied s 0x89 tag
    [0, portByte p, roleCode (s.port p).role, stateCode (s.port p).state])) ∧
  (∀ role : Role, ProbeListSound s → role ≠ (s.port p).role →
    ∃ t, exec (.portRole tag (portByte p) (roleCode role)) s = .next t ∧
      t.port p = { role := role, state := if role = .off then .unguarded else if (s.port p).linkUp then .priming else .down,
                   linkUp := (s.port p).linkUp, strikes := 0, holdOff := 0, calm := 0, decay := 0, linkup := .unset,
                   wants := if role ≠ .off ∧ (s.port p).linkUp = true then { Purposes.empty with linkup := true }
                     else Purposes.empty } ∧
      (∀ e ∈ t.probes.list, e.origin = p → e.expiry.isSome = true) ∧ t.trips = removeTrip p s.trips ∧
      t.control.pendingGate = (if gateOf (s.port p).state = gateOf (t.port p).state then s.control.pendingGate
        else s.control.pendingGate.set p (some (gateOf (t.port p).state))) ∧
      (∀ k, (t.portMeters p).get k = Meter.restartedWith (s.profile.meters.get k) (if role = .off then 0
        else min ((s.portMeters p).get k).base ((s.profile.meters.get k).thresholds role).ceil.toNat)) ∧
      (let voided := VoidedPort p { s with mgmt := s.mgmt.heard }
       t.sweep = voided.sweep ∧
       t.mgmt = voided.mgmt.fillReply { kind := 0x89, tag := tag, flush := false,
                                        body := [0, portByte p, roleCode role, stateCode (t.port p).state] } ∧
       (∀ q, q ≠ p → t.port q = voided.port q) ∧
       ∀ y, y.origin ≠ p → (y ∈ t.probes.list ↔ y ∈ voided.probes.list)) ∧
      (∀ q, q ≠ p → t.port q = { s.port q with wants := (t.port q).wants } ∧ t.portMeters q = s.portMeters q) ∧
      OnlyIn [.ports, .probes, .trips, .control, .meters, .reports, .sweep, .mgmt] s t)

/-- When a request is taken at once: BLOCK of a port of 40 or more is refused BAD_PORT and of an UNGUARDED port
WRONG_STATE; of a HELD port it is OK and changes nothing; of any other port it makes it HELD with counters 0 and its
role, link, strikes and linkup result kept, at the head of the trip list with cause HOST, a SHUT GATE change pending
when it was OPEN or LIMITED, TRIPPED set, the buzzer restarted, evidence captured and TRIP raised when unlatched and
its repeat counted when latched; other ports, meters, stations and the profile stand. The command is the receipt of
its frame too and makes the link TALKING (log 5). (R98, R106, R112, R133, R153) -/
def Obligations.HostBlockHoldsAPort : Prop :=
  ∀ (s : State) (tag : Byte) (p : Port), TakesRequests s →
  (∀ port : Byte, 40 ≤ port.toNat → exec (.block tag port) s = .next (Replied s 0x8A tag [4])) ∧
  ((s.port p).state = .unguarded → exec (.block tag (portByte p)) s = .next (Replied s 0x8A tag [5])) ∧
  ((s.port p).state = .held → exec (.block tag (portByte p)) s = .next (Replied s 0x8A tag [0, portByte p, 7])) ∧
  ((s.port p).state ≠ .unguarded → (s.port p).state ≠ .held →
    ∃ t, exec (.block tag (portByte p)) s = .next t ∧
      t.port p = { s.port p with state := .held, holdOff := 0, calm := 0, decay := 0, wants := (t.port p).wants } ∧
      t.trips = { port := p, cause := .host, partner := none } :: removeTrip p s.trips ∧
      t.control.pendingGate = (if (s.port p).state = .opened ∨ (s.port p).state = .limited then
        s.control.pendingGate.set p (some .shut) else s.control.pendingGate) ∧
      t.mgmt.flags.tripped = true ∧
      t.panel = { s.panel with
        buzzer := if s.profile.buzzTime = 0 then none
        else some { remaining := s.profile.buzzTime * 1000, elapsed := 0 } } ∧
      ((s.evidenceOf p).capture = none → ∃ x, t.evidenceOf p = { capture := some x, repeats := 0 } ∧ x.cause = .host ∧
        x.entered = .held ∧ x.partner = none ∧ x.foreign = none ∧ x.strikes = (s.port p).strikes) ∧
      (∀ x, (s.evidenceOf p).capture = some x →
        t.evidenceOf p = { capture := some x, repeats := min ((s.evidenceOf p).repeats + 1) 255 }) ∧
      t.mgmt = (if (s.evidenceOf p).capture = none then
          s.mgmt.heard.flagTripped.raise (.trip p .host .held none (s.port p).strikes s.timer.secondCount)
        else s.mgmt.heard.flagTripped).fillReply { kind := 0x8A, tag := tag, body := [0, portByte p, 7], flush := false } ∧
      OtherPortsKept p s t ∧ OnlyIn [.ports, .probes, .control, .trips, .evidence, .panel, .mgmt] s t)

/-- When a request is taken at once: RELEASE of a port of 40 or more is refused BAD_PORT, of a port not BLOCKED or HELD
WRONG_STATE. A BLOCKED port, or a HELD linked DESK, goes to TESTING, keeps its place in the trip list and gets RECOVER
in its QUEUED entry, or else its want set, every other purpose standing; a HELD unlinked port goes to DOWN and a HELD
linked TRUNK to OPEN with a PASS GATE change, and both leave the list; strikes and hold-off are 0, the rest of the
record, evidence, meters, buzzer and notices stand. ROOM RELEASE does this to every BLOCKED and HELD port, wants, trip
list and GATE changes included, leaves every other port, and replies with their number. The command is the receipt of
its frame too and makes the link TALKING (log 5). That a purpose set where it is present counts as set from then on
(R77) is the model's choice (log 8, DEDUCED). (R62, R107, R108, R112) -/
def Obligations.ReleaseSendsShutPortsOn : Prop :=
  ∀ (s : State) (tag : Byte) (p : Port), TakesRequests s →
  (∀ port : Byte, 40 ≤ port.toNat → exec (.release tag port) s = .next (Replied s 0x8B tag [4])) ∧
  ((s.port p).state ≠ .blocked → (s.port p).state ≠ .held →
    exec (.release tag (portByte p)) s = .next (Replied s 0x8B tag [5])) ∧
  (∀ target : PortState, ((s.port p).state = .blocked ∧ target = .testing) ∨
      ((s.port p).state = .held ∧ (s.port p).linkUp = false ∧ target = .down) ∨
      ((s.port p).state = .held ∧ (s.port p).linkUp = true ∧ (s.port p).role = .desk ∧ target = .testing) ∨
      ((s.port p).state = .held ∧ (s.port p).linkUp = true ∧ (s.port p).role = .trunk ∧ target = .opened) →
    ∃ t, exec (.release tag (portByte p)) s = .next t ∧
      t.port p = { s.port p with state := target, strikes := 0, holdOff := 0, calm := 0, decay := 0,
                                 wants := (t.port p).wants } ∧
      PurposeJoined (fun q => decide (q = p ∧ target = .testing))
        (fun u => { u with recover := true, recoverBroken := false }) s t ∧
      t.trips = (if target = .testing then s.trips else removeTrip p s.trips) ∧
      t.control = (if target = .opened then { s.control with pendingGate := s.control.pendingGate.set p (some .pass) }
        else s.control) ∧
      t.mgmt = s.mgmt.heard.fillReply { kind := 0x8B, tag := tag, body := [0, portByte p, stateCode target], flush := false } ∧
      OtherPortsKept p s t ∧ OnlyIn [.ports, .probes, .control, .trips, .mgmt] s t) ∧
  (∃ t, exec (.roomRelease tag) s = .next t ∧
    (∀ q, (s.port q).state ≠ .blocked → (s.port q).state ≠ .held → t.port q = s.port q) ∧
    (∀ q, (s.port q).state = .blocked ∨ (s.port q).state = .held →
      t.port q = { s.port q with state := releaseTarget (s.port q), strikes := 0, holdOff := 0, calm := 0, decay := 0,
                                 wants := (t.port q).wants } ∧
      (releaseTarget (s.port q) ≠ .testing → (t.port q).wants = (s.port q).wants)) ∧
    PurposeJoined (fun q => decide (((s.port q).state = .blocked ∨ (s.port q).state = .held) ∧
      releaseTarget (s.port q) = .testing)) (fun u => { u with recover := true, recoverBroken := false }) s t ∧
    t.trips = s.trips.filter (fun i => !decide (((s.port i.port).state = .blocked ∨ (s.port i.port).state = .held) ∧
      releaseTarget (s.port i.port) ≠ .testing)) ∧
    t.control = { s.control with pendingGate := t.control.pendingGate } ∧
    (∀ q : Port, t.control.pendingGate[q] = if (s.port q).state = .held ∧ releaseTarget (s.port q) = .opened then some .pass
      else s.control.pendingGate[q]) ∧
    t.mgmt = s.mgmt.heard.fillReply {
      kind := 0x8C, tag := tag, flush := false, body := [0, natByte
      (allPorts.filter fun q => decide ((s.port q).state = .blocked ∨ (s.port q).state = .held)).length] } ∧
    OnlyIn [.ports, .probes, .control, .trips, .mgmt] s t) ∧
  (∀ r : PortRecord, (r.state = .blocked → releaseTarget r = .testing) ∧
    (r.state = .held → r.linkUp = false → releaseTarget r = .down) ∧
    (r.state = .held → r.linkUp = true → r.role = .desk → releaseTarget r = .testing) ∧
    (r.state = .held → r.linkUp = true → r.role = .trunk → releaseTarget r = .opened))

/-- When a request is taken at once, by the first line of R79 that applies: BAD_PORT; WRONG_STATE for an UNGUARDED or DOWN
port; IN_FLIGHT when its entry is SENT; OK with HOST joined to its QUEUED entry and that entry's tag in the reply; OK
with HOST in the want set when it has no entry and the list holds fewer than 24; FULL otherwise. Every other purpose
and the rest of the Probe Engine stand. An earlier HOST tag that is replaced raises CHECK_DONE with VOID at once. A
refusal changes nothing. The command is the receipt of its frame too and makes the link TALKING (log 5). (R62, R78,
R79, R80) -/
def Obligations.CheckJoinsEntryOrWants : Prop :=
  ∀ (s : State) (tag : Byte) (p : Port), TakesRequests s →
  (∀ port : Byte, 40 ≤ port.toNat → exec (.check tag port) s = .next (Replied s 0x8E tag [4])) ∧
  ((s.port p).state = .unguarded ∨ (s.port p).state = .down →
    exec (.check tag (portByte p)) s = .next (Replied s 0x8E tag [5])) ∧
  ((s.port p).state ≠ .unguarded → (s.port p).state ≠ .down →
    (∀ e, s.entryOf p = some e → e.expiry.isSome = true →
      exec (.check tag (portByte p)) s = .next (Replied s 0x8E tag [7])) ∧
    (∀ e, s.entryOf p = some e → e.expiry = none →
      ∃ t, exec (.check tag (portByte p)) s = .next t ∧
        t.entryOf p = some { e with purposes := { e.purposes with host := some tag } } ∧
        PurposeJoined (fun q => decide (q = p)) (fun u => { u with host := some tag }) s t ∧
        (e.purposes.host = none → t.mgmt = s.mgmt.heard.fillReply {
          kind := 0x8E, tag := tag, flush := false,
          body := [0, portByte p, 1] ++ halfBytes e.tag }) ∧
        (∀ old, e.purposes.host = some old →
          t.mgmt = (s.mgmt.heard.raise (.checkDone p old .void none s.timer.secondCount)).fillReply
          { kind := 0x8E, tag := tag, flush := false, body := [0, portByte p, 1] ++ halfBytes e.tag }) ∧
        OnlyIn [.probes, .mgmt] s t) ∧
    (s.entryOf p = none → s.probes.list.length < 24 →
      ∃ t, exec (.check tag (portByte p)) s = .next t ∧
        t.port p = { s.port p with wants := { (s.port p).wants with host := some tag } } ∧ OtherPortsKept p s t ∧
        ((s.port p).wants.host = none → t.mgmt = s.mgmt.heard.fillReply {
          kind := 0x8E, tag := tag, flush := false,
          body := [0, portByte p, 0, 0, 0] }) ∧
        (∀ old, (s.port p).wants.host = some old →
          t.mgmt = (s.mgmt.heard.raise (.checkDone p old .void none s.timer.secondCount)).fillReply
            { kind := 0x8E, tag := tag, flush := false, body := [0, portByte p, 0, 0, 0] }) ∧
        OnlyIn [.ports, .mgmt] s t) ∧
    (s.entryOf p = none → 24 ≤ s.probes.list.length →
      exec (.check tag (portByte p)) s = .next (Replied s 0x8E tag [8])))

/-- When a request is taken at once. SWEEP: a range out of 0..39 or reversed is BAD_PORT; a HOST sweep in progress is BUSY
with its progress and changes nothing; else a HOST sweep of the next number starts over the range with pacing 1 and
counts 0, after an AUTO sweep in progress has ended PREEMPTED. ABORT: without a sweep WRONG_STATE; with one, the
record is emptied. A sweep ended by either leaves SWEEP in no want set and no entry and raises SWEEP_DONE with its
counts. The command is the receipt of its frame too and makes the link TALKING (log 5). (R118, R119, R120, R122, R126,
R183) -/
def Obligations.SweepRequestsStartAndEnd : Prop :=
  ∀ (s : State) (tag : Byte), TakesRequests s →
  (∀ first last : Byte, 40 ≤ first.toNat ∨ 40 ≤ last.toNat ∨ last.toNat < first.toNat →
    exec (.sweep tag first last) s = .next (Replied s 0x8F tag [4])) ∧
  (∀ (f l : Port), f ≤ l →
    (s.sweep.record = none → exec (.sweep tag (portByte f) (portByte l)) s = .next (Replied
      { s with
          sweep := { s.sweep with
          number := s.sweep.number + 1,
          record := some { host := some tag, number := s.sweep.number + 1, first := f, last := l, next := f.val, pacing := 1,
                           admitted := 0, clear := 0, contained := 0, looped := 0, skipped := 0 } } } 0x8F tag
      [0, s.sweep.number + 1, 0])) ∧
    (∀ r, s.sweep.record = some r → r.host.isSome = true →
      exec (.sweep tag (portByte f) (portByte l)) s = .next (Replied s 0x8F tag
        [6, r.number, portByte r.first, portByte r.last, natByte r.next, natByte r.admitted, natByte r.clear,
         natByte r.contained, natByte r.looped, natByte r.skipped])) ∧
    (∀ r, s.sweep.record = some r → r.host = none →
      ∃ t, exec (.sweep tag (portByte f) (portByte l)) s = .next t ∧
        t.sweep = { s.sweep with
          number := s.sweep.number + 1,
          record := some { host := some tag, number := s.sweep.number + 1, first := f, last := l, next := f.val, pacing := 1,
                           admitted := 0, clear := 0, contained := 0, looped := 0, skipped := 0 } } ∧
        (∀ q, t.port q = { s.port q with wants := { (s.port q).wants with sweep := none } }) ∧
        t.probes.list = s.probes.list.map (fun e => { e with purposes := { e.purposes with sweep := none } }) ∧
        t.mgmt = (s.mgmt.heard.raise (.sweepDone r .preempted s.timer.secondCount)).fillReply
          { kind := 0x8F, tag := tag, body := [0, s.sweep.number + 1, 1], flush := false } ∧
        OnlyIn [.sweep, .ports, .probes, .mgmt] s t)) ∧
  (s.sweep.record = none → exec (.abort tag) s = .next (Replied s 0x90 tag [5])) ∧
  (∀ r, s.sweep.record = some r → ∃ t, exec (.abort tag) s = .next t ∧ t.sweep = { s.sweep with record := none } ∧
    (∀ q, t.port q = { s.port q with wants := { (s.port q).wants with sweep := none } }) ∧
    t.probes.list = s.probes.list.map (fun e => { e with purposes := { e.purposes with sweep := none } }) ∧
    t.mgmt = (s.mgmt.heard.raise (.sweepDone r .aborted s.timer.secondCount)).fillReply
      { kind := 0x90, tag := tag, flush := false, body := [0, boolByte r.host.isSome, r.host.getD 0, r.number,
          portByte r.first, portByte r.last, natByte r.admitted, natByte r.clear, natByte r.contained, natByte r.looped,
          natByte r.skipped] } ∧
    OnlyIn [.sweep, .ports, .probes, .mgmt] s t)

/-- When a request is taken at once: EVIDENCE CLEAR empties the named record, or all with 0xFF, and replies with how many
were latched; STATION PIN of a present entry, pinned or with fewer than 32 pins, pins it to the port, emptying its
moves when the home changed and keeping last-seen, and answers FULL otherwise without a change; STATION UNPIN unpins a
pinned entry with last-seen the second count, keeps an unpinned one and answers NOT_FOUND for an absent one; STATION
FLUSH removes exactly the unpinned entries of the port, or of all ports with 0xFF, and replies with their number; a
port of 40..254 is BAD_PORT. Only that table and the reply change. That BAD_PORT to STATION PIN is the status byte
alone also when the table holds an entry of the address, while FULL carries the entry held, is the model's choice (log
26, DESIGN CHOICE). The command is the receipt of its frame too and makes the link TALKING (log 5). (R58, R59, R60,
R137) -/
def Obligations.EvidenceAndStationTablesAreEdited : Prop :=
  ∀ (s : State) (tag : Byte), TakesRequests s →
  (∀ port : Byte, 40 ≤ port.toNat → port ≠ 0xFF → exec (.evidenceClear tag port) s = .next (Replied s 0x92 tag [4]) ∧
    exec (.stationFlush tag port) s = .next (Replied s 0x96 tag [4])) ∧
  (∀ p : Port, exec (.evidenceClear tag (portByte p)) s = .next (Replied
    { s with evidence := s.evidence.set p { capture := none, repeats := 0 } } 0x92 tag
    [0, if (s.evidenceOf p).capture.isSome then 1 else 0])) ∧
  (exec (.evidenceClear tag 0xFF) s = .next (Replied
    { s with evidence := Vector.replicate 40 { capture := none, repeats := 0 } } 0x92 tag
    [0, natByte (allPorts.filter fun p => (s.evidenceOf p).capture.isSome).length])) ∧
  (∀ (a : Address) (port : Byte), 40 ≤ port.toNat →
    exec (.stationPin tag a port) s = .next (Replied s 0x94 tag [4])) ∧
  (∀ (a : Address) (p : Port) (e : StationEntry), findStation a s.stations = some e →
    (e.pinned = true ∨ (s.stations.filter fun x => x.pinned).length < 32 →
      ∃ t, exec (.stationPin tag a (portByte p)) s = .next t ∧
        t.stations = (s.stations.map fun x => if x.address = a then
          { x with pinned := true, home := p, moves := if x.home = p then x.moves else [] } else x) ∧
        (∃ b, t.mgmt = s.mgmt.heard.fillReply { kind := 0x94, tag := tag, body := 0 :: b, flush := false } ∧ b.length = 29) ∧
        OnlyIn [.stations, .mgmt] s t) ∧
    (e.pinned = false → 32 ≤ (s.stations.filter fun x => x.pinned).length →
      exec (.stationPin tag a (portByte p)) s = .next (Replied s 0x94 tag (8 :: stationBytes s.stamp e)))) ∧
  (∀ (a : Address) (p : Port), findStation a s.stations = none →
    ((s.stations.filter fun x => x.pinned).length < 32 →
      ∃ t, exec (.stationPin tag a (portByte p)) s = .next t ∧
        t.stations = insertStation a p s.timer.secondCount true s.stations ∧ OnlyIn [.stations, .mgmt] s t) ∧
    (32 ≤ (s.stations.filter fun x => x.pinned).length →
      exec (.stationPin tag a (portByte p)) s = .next (Replied s 0x94 tag [8])) ∧
    exec (.stationUnpin tag a) s = .next (Replied s 0x95 tag [9])) ∧
  (∀ (a : Address) (e : StationEntry), findStation a s.stations = some e →
    (e.pinned = false → exec (.stationUnpin tag a) s = .next (Replied s 0x95 tag (0 :: stationBytes s.stamp e))) ∧
    (e.pinned = true → ∃ t b, exec (.stationUnpin tag a) s = .next t ∧
      t.stations = (s.stations.map fun x => if x.address = a then
        { x with pinned := false, lastSeen := s.timer.secondCount } else x) ∧
      t.mgmt = s.mgmt.heard.fillReply { kind := 0x95, tag := tag, body := 0 :: b, flush := false } ∧
      OnlyIn [.stations, .mgmt] s t)) ∧
  (∀ p : Port, exec (.stationFlush tag (portByte p)) s = .next (Replied
    { s with stations := s.stations.filter fun e => e.pinned || decide (e.home ≠ p) } 0x96 tag
    (0 :: natBytes (s.stations.filter fun e => !e.pinned && decide (e.home = p)).length))) ∧
  (exec (.stationFlush tag 0xFF) s = .next (Replied { s with stations := s.stations.filter fun e => e.pinned } 0x96 tag
    (0 :: natBytes (s.stations.filter fun e => !e.pinned).length)))

/-- When a request is taken at once: PANEL SET with a known value makes exactly the masked cells HOST-owned with it, an
unknown value is refused BAD_VALUE; PANEL RETURN makes exactly the masked cells AUTO with host value OFF; both reply
with a count and the mask of HOST-owned cells. NOTICE MASK with a flag for codes 0x4B to 0x4F is refused BAD_VALUE;
else the mask is the one sent and the queue keeps exactly the notices of enabled kinds, in order, without a drop being
counted. Nothing else changes. The command is the receipt of its frame too and makes the link TALKING (log 5). (R144,
R145, R172, R183) -/
def Obligations.CellsAndNoticeMaskAreSet : Prop :=
  ∀ (s : State) (tag : Byte), TakesRequests s →
  (∀ (mask : BitVec 80) (value : Byte), 4 ≤ value.toNat →
    exec (.panelSet tag mask value) s = .next (Replied s 0x97 tag [10])) ∧
  (∀ (mask : BitVec 80) (value : Byte) (v : CellValue), cellValueOf value = some v →
    ∃ t n m, exec (.panelSet tag mask value) s = .next t ∧ t.panel = { s.panel with cells := t.panel.cells } ∧
      (∀ c : Fin 80, t.panel.cells[c] = if mask.getLsbD c.val then { hostOwned := true, value := v }
        else s.panel.cells[c]) ∧
      t.mgmt = s.mgmt.heard.fillReply { kind := 0x97, tag := tag, flush := false, body := [0, natByte n] ++ cellMaskBytes m } ∧
      n = ((List.finRange 80).filter fun c : Fin 80 => mask.getLsbD c.val).length ∧
      (∀ c : Fin 80, m.getLsbD c.val = t.panel.cells[c].hostOwned) ∧ OnlyIn [.panel, .mgmt] s t) ∧
  (∀ mask : BitVec 80, ∃ t n m, exec (.panelReturn tag mask) s = .next t ∧
    t.panel = { s.panel with cells := t.panel.cells } ∧
    (∀ c : Fin 80, t.panel.cells[c] = if mask.getLsbD c.val then { hostOwned := false, value := .off }
      else s.panel.cells[c]) ∧
    t.mgmt = s.mgmt.heard.fillReply { kind := 0x98, tag := tag, flush := false, body := [0, natByte n] ++ cellMaskBytes m } ∧
    n = ((List.finRange 80).filter fun c : Fin 80 => mask.getLsbD c.val && s.panel.cells[c].hostOwned).length ∧
    (∀ c : Fin 80, m.getLsbD c.val = t.panel.cells[c].hostOwned) ∧ OnlyIn [.panel, .mgmt] s t) ∧
  (∀ mask : Half, (∃ j, 11 ≤ j ∧ mask.getLsbD j = true) →
    exec (.noticeMask tag mask) s = .next (Replied s 0x99 tag [10])) ∧
  (∀ mask : Half, (∀ j, 11 ≤ j → mask.getLsbD j = false) →
    exec (.noticeMask tag mask) s = .next (Replied { s with
        mgmt := { s.mgmt with
        mask := mask,
        queue := s.mgmt.queue.filter fun q => kindEnabled mask q.notice } } 0x99 tag
      ([0] ++ halfBytes mask ++
        [natByte (s.mgmt.queue.filter fun q => !kindEnabled mask q.notice).length])))

/-- When a request is taken at once: a mode other than 0 and 1 is refused BAD_VALUE. KEEP and FACTORY give every block the
state it has after POWER_ON under, respectively, the profile and roles in force or the factory ones, but for the
record last on the control lane and the Management Link Controller, which keeps its rate, receive state, requests,
link state, mask, notices, flags and counters and gets the reply with the mode and the room id in force, marked to
empty the notice queue when it has been sent. That the record last on the lane is kept, that no event is left due and
that the waiting commands stay is the model's choice (log 16, unsafe for the lane record). The command is the receipt
of its frame too and makes the link TALKING (log 5). (R1, R85, R87, R129, R130, R165, R172, R179, R180) -/
def Obligations.RestartResetsAllButTheLink : Prop :=
  ∀ (s : State) (tag mode : Byte), TakesRequests s →
  (mode ≠ 0 → mode ≠ 1 → exec (.restart tag mode) s = .next (Replied s 0x9A tag [10])) ∧
  (mode = 0 ∨ mode = 1 →
    ∃ t, exec (.restart tag mode) s = .next t ∧
      t.profile = (if mode = 0 then s.profile else factoryProfile) ∧
      (∀ p, t.port p = PortRecord.start (if mode = 0 then (s.port p).role else factoryRole p)) ∧
      t.timer = SlotTimer.start ∧ t.receiver = Receiver.start ∧ (∀ p, t.tally p = PortTally.start) ∧
      t.control = { Control.start (Vector.ofFn fun p : Port => gateOf (t.port p).state) s.control.lane with
        pendingGate := t.control.pendingGate } ∧
      (∀ p : Port, t.control.pendingGate[p] = some (gateOf (t.port p).state)) ∧
      (∀ p k, (t.portMeters p).get k = Meter.restartedWith (t.profile.meters.get k) 0) ∧ (∀ p, t.report p = none) ∧
      t.grace = 0 ∧ t.stations = [] ∧ t.probes = ProbeEngine.start ∧
      t.sweep = { record := none, number := 0, timer := t.profile.sweepPeriod } ∧ t.trips = [] ∧
      (∀ p, t.evidenceOf p = { capture := none, repeats := 0 }) ∧ t.panel = Panel.start t.profile.panelDuty ∧
      t.mgmt = s.mgmt.heard.fillReply
        { kind := 0x9A, tag := tag, body := [0, mode] ++ halfBytes t.profile.roomId, flush := true } ∧
      t.due = [] ∧ t.pending = s.pending)
end

