-- ==== Sys2Proof/Laws/State.lean ====
section
/-! SUPPORT. What each state update leaves in each field, by computation; and the port-indexed updates. -/

namespace Sys2Proof.Machine

@[simp] theorem State.setTimer_timer (s : State) (v : SlotTimer) : (s.setTimer v).timer = v := rfl
@[simp] theorem State.setTimer_receiver (s : State) (v : SlotTimer) : (s.setTimer v).receiver = s.receiver := rfl
@[simp] theorem State.setTimer_tallies (s : State) (v : SlotTimer) : (s.setTimer v).tallies = s.tallies := rfl
@[simp] theorem State.setTimer_control (s : State) (v : SlotTimer) : (s.setTimer v).control = s.control := rfl
@[simp] theorem State.setTimer_meters (s : State) (v : SlotTimer) : (s.setTimer v).meters = s.meters := rfl
@[simp] theorem State.setTimer_reports (s : State) (v : SlotTimer) : (s.setTimer v).reports = s.reports := rfl
@[simp] theorem State.setTimer_grace (s : State) (v : SlotTimer) : (s.setTimer v).grace = s.grace := rfl
@[simp] theorem State.setTimer_stations (s : State) (v : SlotTimer) : (s.setTimer v).stations = s.stations := rfl
@[simp] theorem State.setTimer_probes (s : State) (v : SlotTimer) : (s.setTimer v).probes = s.probes := rfl
@[simp] theorem State.setTimer_sweep (s : State) (v : SlotTimer) : (s.setTimer v).sweep = s.sweep := rfl
@[simp] theorem State.setTimer_ports (s : State) (v : SlotTimer) : (s.setTimer v).ports = s.ports := rfl
@[simp] theorem State.setTimer_trips (s : State) (v : SlotTimer) : (s.setTimer v).trips = s.trips := rfl
@[simp] theorem State.setTimer_evidence (s : State) (v : SlotTimer) : (s.setTimer v).evidence = s.evidence := rfl
@[simp] theorem State.setTimer_panel (s : State) (v : SlotTimer) : (s.setTimer v).panel = s.panel := rfl
@[simp] theorem State.setTimer_mgmt (s : State) (v : SlotTimer) : (s.setTimer v).mgmt = s.mgmt := rfl
@[simp] theorem State.setTimer_profile (s : State) (v : SlotTimer) : (s.setTimer v).profile = s.profile := rfl
@[simp] theorem State.setTimer_due (s : State) (v : SlotTimer) : (s.setTimer v).due = s.due := rfl
@[simp] theorem State.setTimer_pending (s : State) (v : SlotTimer) : (s.setTimer v).pending = s.pending := rfl

@[simp] theorem State.setReceiver_timer (s : State) (v : Receiver) : (s.setReceiver v).timer = s.timer := rfl
@[simp] theorem State.setReceiver_receiver (s : State) (v : Receiver) : (s.setReceiver v).receiver = v := rfl
@[simp] theorem State.setReceiver_tallies (s : State) (v : Receiver) : (s.setReceiver v).tallies = s.tallies := rfl
@[simp] theorem State.setReceiver_control (s : State) (v : Receiver) : (s.setReceiver v).control = s.control := rfl
@[simp] theorem State.setReceiver_meters (s : State) (v : Receiver) : (s.setReceiver v).meters = s.meters := rfl
@[simp] theorem State.setReceiver_reports (s : State) (v : Receiver) : (s.setReceiver v).reports = s.reports := rfl
@[simp] theorem State.setReceiver_grace (s : State) (v : Receiver) : (s.setReceiver v).grace = s.grace := rfl
@[simp] theorem State.setReceiver_stations (s : State) (v : Receiver) : (s.setReceiver v).stations = s.stations := rfl
@[simp] theorem State.setReceiver_probes (s : State) (v : Receiver) : (s.setReceiver v).probes = s.probes := rfl
@[simp] theorem State.setReceiver_sweep (s : State) (v : Receiver) : (s.setReceiver v).sweep = s.sweep := rfl
@[simp] theorem State.setReceiver_ports (s : State) (v : Receiver) : (s.setReceiver v).ports = s.ports := rfl
@[simp] theorem State.setReceiver_trips (s : State) (v : Receiver) : (s.setReceiver v).trips = s.trips := rfl
@[simp] theorem State.setReceiver_evidence (s : State) (v : Receiver) : (s.setReceiver v).evidence = s.evidence := rfl
@[simp] theorem State.setReceiver_panel (s : State) (v : Receiver) : (s.setReceiver v).panel = s.panel := rfl
@[simp] theorem State.setReceiver_mgmt (s : State) (v : Receiver) : (s.setReceiver v).mgmt = s.mgmt := rfl
@[simp] theorem State.setReceiver_profile (s : State) (v : Receiver) : (s.setReceiver v).profile = s.profile := rfl
@[simp] theorem State.setReceiver_due (s : State) (v : Receiver) : (s.setReceiver v).due = s.due := rfl
@[simp] theorem State.setReceiver_pending (s : State) (v : Receiver) : (s.setReceiver v).pending = s.pending := rfl

@[simp] theorem State.setTallies_timer (s : State) (v : Vector PortTally 40) : (s.setTallies v).timer = s.timer := rfl
@[simp] theorem State.setTallies_receiver (s : State) (v : Vector PortTally 40) : (s.setTallies v).receiver = s.receiver := rfl
@[simp] theorem State.setTallies_tallies (s : State) (v : Vector PortTally 40) : (s.setTallies v).tallies = v := rfl
@[simp] theorem State.setTallies_control (s : State) (v : Vector PortTally 40) : (s.setTallies v).control = s.control := rfl
@[simp] theorem State.setTallies_meters (s : State) (v : Vector PortTally 40) : (s.setTallies v).meters = s.meters := rfl
@[simp] theorem State.setTallies_reports (s : State) (v : Vector PortTally 40) : (s.setTallies v).reports = s.reports := rfl
@[simp] theorem State.setTallies_grace (s : State) (v : Vector PortTally 40) : (s.setTallies v).grace = s.grace := rfl
@[simp] theorem State.setTallies_stations (s : State) (v : Vector PortTally 40) : (s.setTallies v).stations = s.stations := rfl
@[simp] theorem State.setTallies_probes (s : State) (v : Vector PortTally 40) : (s.setTallies v).probes = s.probes := rfl
@[simp] theorem State.setTallies_sweep (s : State) (v : Vector PortTally 40) : (s.setTallies v).sweep = s.sweep := rfl
@[simp] theorem State.setTallies_ports (s : State) (v : Vector PortTally 40) : (s.setTallies v).ports = s.ports := rfl
@[simp] theorem State.setTallies_trips (s : State) (v : Vector PortTally 40) : (s.setTallies v).trips = s.trips := rfl
@[simp] theorem State.setTallies_evidence (s : State) (v : Vector PortTally 40) : (s.setTallies v).evidence = s.evidence := rfl
@[simp] theorem State.setTallies_panel (s : State) (v : Vector PortTally 40) : (s.setTallies v).panel = s.panel := rfl
@[simp] theorem State.setTallies_mgmt (s : State) (v : Vector PortTally 40) : (s.setTallies v).mgmt = s.mgmt := rfl
@[simp] theorem State.setTallies_profile (s : State) (v : Vector PortTally 40) : (s.setTallies v).profile = s.profile := rfl
@[simp] theorem State.setTallies_due (s : State) (v : Vector PortTally 40) : (s.setTallies v).due = s.due := rfl
@[simp] theorem State.setTallies_pending (s : State) (v : Vector PortTally 40) : (s.setTallies v).pending = s.pending := rfl

@[simp] theorem State.setControl_timer (s : State) (v : Control) : (s.setControl v).timer = s.timer := rfl
@[simp] theorem State.setControl_receiver (s : State) (v : Control) : (s.setControl v).receiver = s.receiver := rfl
@[simp] theorem State.setControl_tallies (s : State) (v : Control) : (s.setControl v).tallies = s.tallies := rfl
@[simp] theorem State.setControl_control (s : State) (v : Control) : (s.setControl v).control = v := rfl
@[simp] theorem State.setControl_meters (s : State) (v : Control) : (s.setControl v).meters = s.meters := rfl
@[simp] theorem State.setControl_reports (s : State) (v : Control) : (s.setControl v).reports = s.reports := rfl
@[simp] theorem State.setControl_grace (s : State) (v : Control) : (s.setControl v).grace = s.grace := rfl
@[simp] theorem State.setControl_stations (s : State) (v : Control) : (s.setControl v).stations = s.stations := rfl
@[simp] theorem State.setControl_probes (s : State) (v : Control) : (s.setControl v).probes = s.probes := rfl
@[simp] theorem State.setControl_sweep (s : State) (v : Control) : (s.setControl v).sweep = s.sweep := rfl
@[simp] theorem State.setControl_ports (s : State) (v : Control) : (s.setControl v).ports = s.ports := rfl
@[simp] theorem State.setControl_trips (s : State) (v : Control) : (s.setControl v).trips = s.trips := rfl
@[simp] theorem State.setControl_evidence (s : State) (v : Control) : (s.setControl v).evidence = s.evidence := rfl
@[simp] theorem State.setControl_panel (s : State) (v : Control) : (s.setControl v).panel = s.panel := rfl
@[simp] theorem State.setControl_mgmt (s : State) (v : Control) : (s.setControl v).mgmt = s.mgmt := rfl
@[simp] theorem State.setControl_profile (s : State) (v : Control) : (s.setControl v).profile = s.profile := rfl
@[simp] theorem State.setControl_due (s : State) (v : Control) : (s.setControl v).due = s.due := rfl
@[simp] theorem State.setControl_pending (s : State) (v : Control) : (s.setControl v).pending = s.pending := rfl

@[simp] theorem State.setMeters_timer (s : State) (v : Vector (PerClass Meter) 40) : (s.setMeters v).timer = s.timer := rfl
@[simp] theorem State.setMeters_receiver (s : State) (v : Vector (PerClass Meter) 40) : (s.setMeters v).receiver = s.receiver := rfl
@[simp] theorem State.setMeters_tallies (s : State) (v : Vector (PerClass Meter) 40) : (s.setMeters v).tallies = s.tallies := rfl
@[simp] theorem State.setMeters_control (s : State) (v : Vector (PerClass Meter) 40) : (s.setMeters v).control = s.control := rfl
@[simp] theorem State.setMeters_meters (s : State) (v : Vector (PerClass Meter) 40) : (s.setMeters v).meters = v := rfl
@[simp] theorem State.setMeters_reports (s : State) (v : Vector (PerClass Meter) 40) : (s.setMeters v).reports = s.reports := rfl
@[simp] theorem State.setMeters_grace (s : State) (v : Vector (PerClass Meter) 40) : (s.setMeters v).grace = s.grace := rfl
@[simp] theorem State.setMeters_stations (s : State) (v : Vector (PerClass Meter) 40) : (s.setMeters v).stations = s.stations := rfl
@[simp] theorem State.setMeters_probes (s : State) (v : Vector (PerClass Meter) 40) : (s.setMeters v).probes = s.probes := rfl
@[simp] theorem State.setMeters_sweep (s : State) (v : Vector (PerClass Meter) 40) : (s.setMeters v).sweep = s.sweep := rfl
@[simp] theorem State.setMeters_ports (s : State) (v : Vector (PerClass Meter) 40) : (s.setMeters v).ports = s.ports := rfl
@[simp] theorem State.setMeters_trips (s : State) (v : Vector (PerClass Meter) 40) : (s.setMeters v).trips = s.trips := rfl
@[simp] theorem State.setMeters_evidence (s : State) (v : Vector (PerClass Meter) 40) : (s.setMeters v).evidence = s.evidence := rfl
@[simp] theorem State.setMeters_panel (s : State) (v : Vector (PerClass Meter) 40) : (s.setMeters v).panel = s.panel := rfl
@[simp] theorem State.setMeters_mgmt (s : State) (v : Vector (PerClass Meter) 40) : (s.setMeters v).mgmt = s.mgmt := rfl
@[simp] theorem State.setMeters_profile (s : State) (v : Vector (PerClass Meter) 40) : (s.setMeters v).profile = s.profile := rfl
@[simp] theorem State.setMeters_due (s : State) (v : Vector (PerClass Meter) 40) : (s.setMeters v).due = s.due := rfl
@[simp] theorem State.setMeters_pending (s : State) (v : Vector (PerClass Meter) 40) : (s.setMeters v).pending = s.pending := rfl

@[simp] theorem State.setReports_timer (s : State) (v : Vector (Option StepReport) 40) : (s.setReports v).timer = s.timer := rfl
@[simp] theorem State.setReports_receiver (s : State) (v : Vector (Option StepReport) 40) : (s.setReports v).receiver = s.receiver := rfl
@[simp] theorem State.setReports_tallies (s : State) (v : Vector (Option StepReport) 40) : (s.setReports v).tallies = s.tallies := rfl
@[simp] theorem State.setReports_control (s : State) (v : Vector (Option StepReport) 40) : (s.setReports v).control = s.control := rfl
@[simp] theorem State.setReports_meters (s : State) (v : Vector (Option StepReport) 40) : (s.setReports v).meters = s.meters := rfl
@[simp] theorem State.setReports_reports (s : State) (v : Vector (Option StepReport) 40) : (s.setReports v).reports = v := rfl
@[simp] theorem State.setReports_grace (s : State) (v : Vector (Option StepReport) 40) : (s.setReports v).grace = s.grace := rfl
@[simp] theorem State.setReports_stations (s : State) (v : Vector (Option StepReport) 40) : (s.setReports v).stations = s.stations := rfl
@[simp] theorem State.setReports_probes (s : State) (v : Vector (Option StepReport) 40) : (s.setReports v).probes = s.probes := rfl
@[simp] theorem State.setReports_sweep (s : State) (v : Vector (Option StepReport) 40) : (s.setReports v).sweep = s.sweep := rfl
@[simp] theorem State.setReports_ports (s : State) (v : Vector (Option StepReport) 40) : (s.setReports v).ports = s.ports := rfl
@[simp] theorem State.setReports_trips (s : State) (v : Vector (Option StepReport) 40) : (s.setReports v).trips = s.trips := rfl
@[simp] theorem State.setReports_evidence (s : State) (v : Vector (Option StepReport) 40) : (s.setReports v).evidence = s.evidence := rfl
@[simp] theorem State.setReports_panel (s : State) (v : Vector (Option StepReport) 40) : (s.setReports v).panel = s.panel := rfl
@[simp] theorem State.setReports_mgmt (s : State) (v : Vector (Option StepReport) 40) : (s.setReports v).mgmt = s.mgmt := rfl
@[simp] theorem State.setReports_profile (s : State) (v : Vector (Option StepReport) 40) : (s.setReports v).profile = s.profile := rfl
@[simp] theorem State.setReports_due (s : State) (v : Vector (Option StepReport) 40) : (s.setReports v).due = s.due := rfl
@[simp] theorem State.setReports_pending (s : State) (v : Vector (Option StepReport) 40) : (s.setReports v).pending = s.pending := rfl

@[simp] theorem State.setGrace_timer (s : State) (v : Nat) : (s.setGrace v).timer = s.timer := rfl
@[simp] theorem State.setGrace_receiver (s : State) (v : Nat) : (s.setGrace v).receiver = s.receiver := rfl
@[simp] theorem State.setGrace_tallies (s : State) (v : Nat) : (s.setGrace v).tallies = s.tallies := rfl
@[simp] theorem State.setGrace_control (s : State) (v : Nat) : (s.setGrace v).control = s.control := rfl
@[simp] theorem State.setGrace_meters (s : State) (v : Nat) : (s.setGrace v).meters = s.meters := rfl
@[simp] theorem State.setGrace_reports (s : State) (v : Nat) : (s.setGrace v).reports = s.reports := rfl
@[simp] theorem State.setGrace_grace (s : State) (v : Nat) : (s.setGrace v).grace = v := rfl
@[simp] theorem State.setGrace_stations (s : State) (v : Nat) : (s.setGrace v).stations = s.stations := rfl
@[simp] theorem State.setGrace_probes (s : State) (v : Nat) : (s.setGrace v).probes = s.probes := rfl
@[simp] theorem State.setGrace_sweep (s : State) (v : Nat) : (s.setGrace v).sweep = s.sweep := rfl
@[simp] theorem State.setGrace_ports (s : State) (v : Nat) : (s.setGrace v).ports = s.ports := rfl
@[simp] theorem State.setGrace_trips (s : State) (v : Nat) : (s.setGrace v).trips = s.trips := rfl
@[simp] theorem State.setGrace_evidence (s : State) (v : Nat) : (s.setGrace v).evidence = s.evidence := rfl
@[simp] theorem State.setGrace_panel (s : State) (v : Nat) : (s.setGrace v).panel = s.panel := rfl
@[simp] theorem State.setGrace_mgmt (s : State) (v : Nat) : (s.setGrace v).mgmt = s.mgmt := rfl
@[simp] theorem State.setGrace_profile (s : State) (v : Nat) : (s.setGrace v).profile = s.profile := rfl
@[simp] theorem State.setGrace_due (s : State) (v : Nat) : (s.setGrace v).due = s.due := rfl
@[simp] theorem State.setGrace_pending (s : State) (v : Nat) : (s.setGrace v).pending = s.pending := rfl

@[simp] theorem State.setStations_timer (s : State) (v : List StationEntry) : (s.setStations v).timer = s.timer := rfl
@[simp] theorem State.setStations_receiver (s : State) (v : List StationEntry) : (s.setStations v).receiver = s.receiver := rfl
@[simp] theorem State.setStations_tallies (s : State) (v : List StationEntry) : (s.setStations v).tallies = s.tallies := rfl
@[simp] theorem State.setStations_control (s : State) (v : List StationEntry) : (s.setStations v).control = s.control := rfl
@[simp] theorem State.setStations_meters (s : State) (v : List StationEntry) : (s.setStations v).meters = s.meters := rfl
@[simp] theorem State.setStations_reports (s : State) (v : List StationEntry) : (s.setStations v).reports = s.reports := rfl
@[simp] theorem State.setStations_grace (s : State) (v : List StationEntry) : (s.setStations v).grace = s.grace := rfl
@[simp] theorem State.setStations_stations (s : State) (v : List StationEntry) : (s.setStations v).stations = v := rfl
@[simp] theorem State.setStations_probes (s : State) (v : List StationEntry) : (s.setStations v).probes = s.probes := rfl
@[simp] theorem State.setStations_sweep (s : State) (v : List StationEntry) : (s.setStations v).sweep = s.sweep := rfl
@[simp] theorem State.setStations_ports (s : State) (v : List StationEntry) : (s.setStations v).ports = s.ports := rfl
@[simp] theorem State.setStations_trips (s : State) (v : List StationEntry) : (s.setStations v).trips = s.trips := rfl
@[simp] theorem State.setStations_evidence (s : State) (v : List StationEntry) : (s.setStations v).evidence = s.evidence := rfl
@[simp] theorem State.setStations_panel (s : State) (v : List StationEntry) : (s.setStations v).panel = s.panel := rfl
@[simp] theorem State.setStations_mgmt (s : State) (v : List StationEntry) : (s.setStations v).mgmt = s.mgmt := rfl
@[simp] theorem State.setStations_profile (s : State) (v : List StationEntry) : (s.setStations v).profile = s.profile := rfl
@[simp] theorem State.setStations_due (s : State) (v : List StationEntry) : (s.setStations v).due = s.due := rfl
@[simp] theorem State.setStations_pending (s : State) (v : List StationEntry) : (s.setStations v).pending = s.pending := rfl

@[simp] theorem State.setProbes_timer (s : State) (v : ProbeEngine) : (s.setProbes v).timer = s.timer := rfl
@[simp] theorem State.setProbes_receiver (s : State) (v : ProbeEngine) : (s.setProbes v).receiver = s.receiver := rfl
@[simp] theorem State.setProbes_tallies (s : State) (v : ProbeEngine) : (s.setProbes v).tallies = s.tallies := rfl
@[simp] theorem State.setProbes_control (s : State) (v : ProbeEngine) : (s.setProbes v).control = s.control := rfl
@[simp] theorem State.setProbes_meters (s : State) (v : ProbeEngine) : (s.setProbes v).meters = s.meters := rfl
@[simp] theorem State.setProbes_reports (s : State) (v : ProbeEngine) : (s.setProbes v).reports = s.reports := rfl
@[simp] theorem State.setProbes_grace (s : State) (v : ProbeEngine) : (s.setProbes v).grace = s.grace := rfl
@[simp] theorem State.setProbes_stations (s : State) (v : ProbeEngine) : (s.setProbes v).stations = s.stations := rfl
@[simp] theorem State.setProbes_probes (s : State) (v : ProbeEngine) : (s.setProbes v).probes = v := rfl
@[simp] theorem State.setProbes_sweep (s : State) (v : ProbeEngine) : (s.setProbes v).sweep = s.sweep := rfl
@[simp] theorem State.setProbes_ports (s : State) (v : ProbeEngine) : (s.setProbes v).ports = s.ports := rfl
@[simp] theorem State.setProbes_trips (s : State) (v : ProbeEngine) : (s.setProbes v).trips = s.trips := rfl
@[simp] theorem State.setProbes_evidence (s : State) (v : ProbeEngine) : (s.setProbes v).evidence = s.evidence := rfl
@[simp] theorem State.setProbes_panel (s : State) (v : ProbeEngine) : (s.setProbes v).panel = s.panel := rfl
@[simp] theorem State.setProbes_mgmt (s : State) (v : ProbeEngine) : (s.setProbes v).mgmt = s.mgmt := rfl
@[simp] theorem State.setProbes_profile (s : State) (v : ProbeEngine) : (s.setProbes v).profile = s.profile := rfl
@[simp] theorem State.setProbes_due (s : State) (v : ProbeEngine) : (s.setProbes v).due = s.due := rfl
@[simp] theorem State.setProbes_pending (s : State) (v : ProbeEngine) : (s.setProbes v).pending = s.pending := rfl

@[simp] theorem State.setSweep_timer (s : State) (v : SweepScheduler) : (s.setSweep v).timer = s.timer := rfl
@[simp] theorem State.setSweep_receiver (s : State) (v : SweepScheduler) : (s.setSweep v).receiver = s.receiver := rfl
@[simp] theorem State.setSweep_tallies (s : State) (v : SweepScheduler) : (s.setSweep v).tallies = s.tallies := rfl
@[simp] theorem State.setSweep_control (s : State) (v : SweepScheduler) : (s.setSweep v).control = s.control := rfl
@[simp] theorem State.setSweep_meters (s : State) (v : SweepScheduler) : (s.setSweep v).meters = s.meters := rfl
@[simp] theorem State.setSweep_reports (s : State) (v : SweepScheduler) : (s.setSweep v).reports = s.reports := rfl
@[simp] theorem State.setSweep_grace (s : State) (v : SweepScheduler) : (s.setSweep v).grace = s.grace := rfl
@[simp] theorem State.setSweep_stations (s : State) (v : SweepScheduler) : (s.setSweep v).stations = s.stations := rfl
@[simp] theorem State.setSweep_probes (s : State) (v : SweepScheduler) : (s.setSweep v).probes = s.probes := rfl
@[simp] theorem State.setSweep_sweep (s : State) (v : SweepScheduler) : (s.setSweep v).sweep = v := rfl
@[simp] theorem State.setSweep_ports (s : State) (v : SweepScheduler) : (s.setSweep v).ports = s.ports := rfl
@[simp] theorem State.setSweep_trips (s : State) (v : SweepScheduler) : (s.setSweep v).trips = s.trips := rfl
@[simp] theorem State.setSweep_evidence (s : State) (v : SweepScheduler) : (s.setSweep v).evidence = s.evidence := rfl
@[simp] theorem State.setSweep_panel (s : State) (v : SweepScheduler) : (s.setSweep v).panel = s.panel := rfl
@[simp] theorem State.setSweep_mgmt (s : State) (v : SweepScheduler) : (s.setSweep v).mgmt = s.mgmt := rfl
@[simp] theorem State.setSweep_profile (s : State) (v : SweepScheduler) : (s.setSweep v).profile = s.profile := rfl
@[simp] theorem State.setSweep_due (s : State) (v : SweepScheduler) : (s.setSweep v).due = s.due := rfl
@[simp] theorem State.setSweep_pending (s : State) (v : SweepScheduler) : (s.setSweep v).pending = s.pending := rfl

@[simp] theorem State.setPorts_timer (s : State) (v : Vector PortRecord 40) : (s.setPorts v).timer = s.timer := rfl
@[simp] theorem State.setPorts_receiver (s : State) (v : Vector PortRecord 40) : (s.setPorts v).receiver = s.receiver := rfl
@[simp] theorem State.setPorts_tallies (s : State) (v : Vector PortRecord 40) : (s.setPorts v).tallies = s.tallies := rfl
@[simp] theorem State.setPorts_control (s : State) (v : Vector PortRecord 40) : (s.setPorts v).control = s.control := rfl
@[simp] theorem State.setPorts_meters (s : State) (v : Vector PortRecord 40) : (s.setPorts v).meters = s.meters := rfl
@[simp] theorem State.setPorts_reports (s : State) (v : Vector PortRecord 40) : (s.setPorts v).reports = s.reports := rfl
@[simp] theorem State.setPorts_grace (s : State) (v : Vector PortRecord 40) : (s.setPorts v).grace = s.grace := rfl
@[simp] theorem State.setPorts_stations (s : State) (v : Vector PortRecord 40) : (s.setPorts v).stations = s.stations := rfl
@[simp] theorem State.setPorts_probes (s : State) (v : Vector PortRecord 40) : (s.setPorts v).probes = s.probes := rfl
@[simp] theorem State.setPorts_sweep (s : State) (v : Vector PortRecord 40) : (s.setPorts v).sweep = s.sweep := rfl
@[simp] theorem State.setPorts_ports (s : State) (v : Vector PortRecord 40) : (s.setPorts v).ports = v := rfl
@[simp] theorem State.setPorts_trips (s : State) (v : Vector PortRecord 40) : (s.setPorts v).trips = s.trips := rfl
@[simp] theorem State.setPorts_evidence (s : State) (v : Vector PortRecord 40) : (s.setPorts v).evidence = s.evidence := rfl
@[simp] theorem State.setPorts_panel (s : State) (v : Vector PortRecord 40) : (s.setPorts v).panel = s.panel := rfl
@[simp] theorem State.setPorts_mgmt (s : State) (v : Vector PortRecord 40) : (s.setPorts v).mgmt = s.mgmt := rfl
@[simp] theorem State.setPorts_profile (s : State) (v : Vector PortRecord 40) : (s.setPorts v).profile = s.profile := rfl
@[simp] theorem State.setPorts_due (s : State) (v : Vector PortRecord 40) : (s.setPorts v).due = s.due := rfl
@[simp] theorem State.setPorts_pending (s : State) (v : Vector PortRecord 40) : (s.setPorts v).pending = s.pending := rfl

@[simp] theorem State.setTrips_timer (s : State) (v : List TripItem) : (s.setTrips v).timer = s.timer := rfl
@[simp] theorem State.setTrips_receiver (s : State) (v : List TripItem) : (s.setTrips v).receiver = s.receiver := rfl
@[simp] theorem State.setTrips_tallies (s : State) (v : List TripItem) : (s.setTrips v).tallies = s.tallies := rfl
@[simp] theorem State.setTrips_control (s : State) (v : List TripItem) : (s.setTrips v).control = s.control := rfl
@[simp] theorem State.setTrips_meters (s : State) (v : List TripItem) : (s.setTrips v).meters = s.meters := rfl
@[simp] theorem State.setTrips_reports (s : State) (v : List TripItem) : (s.setTrips v).reports = s.reports := rfl
@[simp] theorem State.setTrips_grace (s : State) (v : List TripItem) : (s.setTrips v).grace = s.grace := rfl
@[simp] theorem State.setTrips_stations (s : State) (v : List TripItem) : (s.setTrips v).stations = s.stations := rfl
@[simp] theorem State.setTrips_probes (s : State) (v : List TripItem) : (s.setTrips v).probes = s.probes := rfl
@[simp] theorem State.setTrips_sweep (s : State) (v : List TripItem) : (s.setTrips v).sweep = s.sweep := rfl
@[simp] theorem State.setTrips_ports (s : State) (v : List TripItem) : (s.setTrips v).ports = s.ports := rfl
@[simp] theorem State.setTrips_trips (s : State) (v : List TripItem) : (s.setTrips v).trips = v := rfl
@[simp] theorem State.setTrips_evidence (s : State) (v : List TripItem) : (s.setTrips v).evidence = s.evidence := rfl
@[simp] theorem State.setTrips_panel (s : State) (v : List TripItem) : (s.setTrips v).panel = s.panel := rfl
@[simp] theorem State.setTrips_mgmt (s : State) (v : List TripItem) : (s.setTrips v).mgmt = s.mgmt := rfl
@[simp] theorem State.setTrips_profile (s : State) (v : List TripItem) : (s.setTrips v).profile = s.profile := rfl
@[simp] theorem State.setTrips_due (s : State) (v : List TripItem) : (s.setTrips v).due = s.due := rfl
@[simp] theorem State.setTrips_pending (s : State) (v : List TripItem) : (s.setTrips v).pending = s.pending := rfl

@[simp] theorem State.setEvidence_timer (s : State) (v : Vector EvidenceRecord 40) : (s.setEvidence v).timer = s.timer := rfl
@[simp] theorem State.setEvidence_receiver (s : State) (v : Vector EvidenceRecord 40) : (s.setEvidence v).receiver = s.receiver := rfl
@[simp] theorem State.setEvidence_tallies (s : State) (v : Vector EvidenceRecord 40) : (s.setEvidence v).tallies = s.tallies := rfl
@[simp] theorem State.setEvidence_control (s : State) (v : Vector EvidenceRecord 40) : (s.setEvidence v).control = s.control := rfl
@[simp] theorem State.setEvidence_meters (s : State) (v : Vector EvidenceRecord 40) : (s.setEvidence v).meters = s.meters := rfl
@[simp] theorem State.setEvidence_reports (s : State) (v : Vector EvidenceRecord 40) : (s.setEvidence v).reports = s.reports := rfl
@[simp] theorem State.setEvidence_grace (s : State) (v : Vector EvidenceRecord 40) : (s.setEvidence v).grace = s.grace := rfl
@[simp] theorem State.setEvidence_stations (s : State) (v : Vector EvidenceRecord 40) : (s.setEvidence v).stations = s.stations := rfl
@[simp] theorem State.setEvidence_probes (s : State) (v : Vector EvidenceRecord 40) : (s.setEvidence v).probes = s.probes := rfl
@[simp] theorem State.setEvidence_sweep (s : State) (v : Vector EvidenceRecord 40) : (s.setEvidence v).sweep = s.sweep := rfl
@[simp] theorem State.setEvidence_ports (s : State) (v : Vector EvidenceRecord 40) : (s.setEvidence v).ports = s.ports := rfl
@[simp] theorem State.setEvidence_trips (s : State) (v : Vector EvidenceRecord 40) : (s.setEvidence v).trips = s.trips := rfl
@[simp] theorem State.setEvidence_evidence (s : State) (v : Vector EvidenceRecord 40) : (s.setEvidence v).evidence = v := rfl
@[simp] theorem State.setEvidence_panel (s : State) (v : Vector EvidenceRecord 40) : (s.setEvidence v).panel = s.panel := rfl
@[simp] theorem State.setEvidence_mgmt (s : State) (v : Vector EvidenceRecord 40) : (s.setEvidence v).mgmt = s.mgmt := rfl
@[simp] theorem State.setEvidence_profile (s : State) (v : Vector EvidenceRecord 40) : (s.setEvidence v).profile = s.profile := rfl
@[simp] theorem State.setEvidence_due (s : State) (v : Vector EvidenceRecord 40) : (s.setEvidence v).due = s.due := rfl
@[simp] theorem State.setEvidence_pending (s : State) (v : Vector EvidenceRecord 40) : (s.setEvidence v).pending = s.pending := rfl

@[simp] theorem State.setPanel_timer (s : State) (v : Panel) : (s.setPanel v).timer = s.timer := rfl
@[simp] theorem State.setPanel_receiver (s : State) (v : Panel) : (s.setPanel v).receiver = s.receiver := rfl
@[simp] theorem State.setPanel_tallies (s : State) (v : Panel) : (s.setPanel v).tallies = s.tallies := rfl
@[simp] theorem State.setPanel_control (s : State) (v : Panel) : (s.setPanel v).control = s.control := rfl
@[simp] theorem State.setPanel_meters (s : State) (v : Panel) : (s.setPanel v).meters = s.meters := rfl
@[simp] theorem State.setPanel_reports (s : State) (v : Panel) : (s.setPanel v).reports = s.reports := rfl
@[simp] theorem State.setPanel_grace (s : State) (v : Panel) : (s.setPanel v).grace = s.grace := rfl
@[simp] theorem State.setPanel_stations (s : State) (v : Panel) : (s.setPanel v).stations = s.stations := rfl
@[simp] theorem State.setPanel_probes (s : State) (v : Panel) : (s.setPanel v).probes = s.probes := rfl
@[simp] theorem State.setPanel_sweep (s : State) (v : Panel) : (s.setPanel v).sweep = s.sweep := rfl
@[simp] theorem State.setPanel_ports (s : State) (v : Panel) : (s.setPanel v).ports = s.ports := rfl
@[simp] theorem State.setPanel_trips (s : State) (v : Panel) : (s.setPanel v).trips = s.trips := rfl
@[simp] theorem State.setPanel_evidence (s : State) (v : Panel) : (s.setPanel v).evidence = s.evidence := rfl
@[simp] theorem State.setPanel_panel (s : State) (v : Panel) : (s.setPanel v).panel = v := rfl
@[simp] theorem State.setPanel_mgmt (s : State) (v : Panel) : (s.setPanel v).mgmt = s.mgmt := rfl
@[simp] theorem State.setPanel_profile (s : State) (v : Panel) : (s.setPanel v).profile = s.profile := rfl
@[simp] theorem State.setPanel_due (s : State) (v : Panel) : (s.setPanel v).due = s.due := rfl
@[simp] theorem State.setPanel_pending (s : State) (v : Panel) : (s.setPanel v).pending = s.pending := rfl

@[simp] theorem State.setMgmt_timer (s : State) (v : Mgmt) : (s.setMgmt v).timer = s.timer := rfl
@[simp] theorem State.setMgmt_receiver (s : State) (v : Mgmt) : (s.setMgmt v).receiver = s.receiver := rfl
@[simp] theorem State.setMgmt_tallies (s : State) (v : Mgmt) : (s.setMgmt v).tallies = s.tallies := rfl
@[simp] theorem State.setMgmt_control (s : State) (v : Mgmt) : (s.setMgmt v).control = s.control := rfl
@[simp] theorem State.setMgmt_meters (s : State) (v : Mgmt) : (s.setMgmt v).meters = s.meters := rfl
@[simp] theorem State.setMgmt_reports (s : State) (v : Mgmt) : (s.setMgmt v).reports = s.reports := rfl
@[simp] theorem State.setMgmt_grace (s : State) (v : Mgmt) : (s.setMgmt v).grace = s.grace := rfl
@[simp] theorem State.setMgmt_stations (s : State) (v : Mgmt) : (s.setMgmt v).stations = s.stations := rfl
@[simp] theorem State.setMgmt_probes (s : State) (v : Mgmt) : (s.setMgmt v).probes = s.probes := rfl
@[simp] theorem State.setMgmt_sweep (s : State) (v : Mgmt) : (s.setMgmt v).sweep = s.sweep := rfl
@[simp] theorem State.setMgmt_ports (s : State) (v : Mgmt) : (s.setMgmt v).ports = s.ports := rfl
@[simp] theorem State.setMgmt_trips (s : State) (v : Mgmt) : (s.setMgmt v).trips = s.trips := rfl
@[simp] theorem State.setMgmt_evidence (s : State) (v : Mgmt) : (s.setMgmt v).evidence = s.evidence := rfl
@[simp] theorem State.setMgmt_panel (s : State) (v : Mgmt) : (s.setMgmt v).panel = s.panel := rfl
@[simp] theorem State.setMgmt_mgmt (s : State) (v : Mgmt) : (s.setMgmt v).mgmt = v := rfl
@[simp] theorem State.setMgmt_profile (s : State) (v : Mgmt) : (s.setMgmt v).profile = s.profile := rfl
@[simp] theorem State.setMgmt_due (s : State) (v : Mgmt) : (s.setMgmt v).due = s.due := rfl
@[simp] theorem State.setMgmt_pending (s : State) (v : Mgmt) : (s.setMgmt v).pending = s.pending := rfl

@[simp] theorem State.setProfile_timer (s : State) (v : Profile) : (s.setProfile v).timer = s.timer := rfl
@[simp] theorem State.setProfile_receiver (s : State) (v : Profile) : (s.setProfile v).receiver = s.receiver := rfl
@[simp] theorem State.setProfile_tallies (s : State) (v : Profile) : (s.setProfile v).tallies = s.tallies := rfl
@[simp] theorem State.setProfile_control (s : State) (v : Profile) : (s.setProfile v).control = s.control := rfl
@[simp] theorem State.setProfile_meters (s : State) (v : Profile) : (s.setProfile v).meters = s.meters := rfl
@[simp] theorem State.setProfile_reports (s : State) (v : Profile) : (s.setProfile v).reports = s.reports := rfl
@[simp] theorem State.setProfile_grace (s : State) (v : Profile) : (s.setProfile v).grace = s.grace := rfl
@[simp] theorem State.setProfile_stations (s : State) (v : Profile) : (s.setProfile v).stations = s.stations := rfl
@[simp] theorem State.setProfile_probes (s : State) (v : Profile) : (s.setProfile v).probes = s.probes := rfl
@[simp] theorem State.setProfile_sweep (s : State) (v : Profile) : (s.setProfile v).sweep = s.sweep := rfl
@[simp] theorem State.setProfile_ports (s : State) (v : Profile) : (s.setProfile v).ports = s.ports := rfl
@[simp] theorem State.setProfile_trips (s : State) (v : Profile) : (s.setProfile v).trips = s.trips := rfl
@[simp] theorem State.setProfile_evidence (s : State) (v : Profile) : (s.setProfile v).evidence = s.evidence := rfl
@[simp] theorem State.setProfile_panel (s : State) (v : Profile) : (s.setProfile v).panel = s.panel := rfl
@[simp] theorem State.setProfile_mgmt (s : State) (v : Profile) : (s.setProfile v).mgmt = s.mgmt := rfl
@[simp] theorem State.setProfile_profile (s : State) (v : Profile) : (s.setProfile v).profile = v := rfl
@[simp] theorem State.setProfile_due (s : State) (v : Profile) : (s.setProfile v).due = s.due := rfl
@[simp] theorem State.setProfile_pending (s : State) (v : Profile) : (s.setProfile v).pending = s.pending := rfl

@[simp] theorem State.setDue_timer (s : State) (v : List Event) : (s.setDue v).timer = s.timer := rfl
@[simp] theorem State.setDue_receiver (s : State) (v : List Event) : (s.setDue v).receiver = s.receiver := rfl
@[simp] theorem State.setDue_tallies (s : State) (v : List Event) : (s.setDue v).tallies = s.tallies := rfl
@[simp] theorem State.setDue_control (s : State) (v : List Event) : (s.setDue v).control = s.control := rfl
@[simp] theorem State.setDue_meters (s : State) (v : List Event) : (s.setDue v).meters = s.meters := rfl
@[simp] theorem State.setDue_reports (s : State) (v : List Event) : (s.setDue v).reports = s.reports := rfl
@[simp] theorem State.setDue_grace (s : State) (v : List Event) : (s.setDue v).grace = s.grace := rfl
@[simp] theorem State.setDue_stations (s : State) (v : List Event) : (s.setDue v).stations = s.stations := rfl
@[simp] theorem State.setDue_probes (s : State) (v : List Event) : (s.setDue v).probes = s.probes := rfl
@[simp] theorem State.setDue_sweep (s : State) (v : List Event) : (s.setDue v).sweep = s.sweep := rfl
@[simp] theorem State.setDue_ports (s : State) (v : List Event) : (s.setDue v).ports = s.ports := rfl
@[simp] theorem State.setDue_trips (s : State) (v : List Event) : (s.setDue v).trips = s.trips := rfl
@[simp] theorem State.setDue_evidence (s : State) (v : List Event) : (s.setDue v).evidence = s.evidence := rfl
@[simp] theorem State.setDue_panel (s : State) (v : List Event) : (s.setDue v).panel = s.panel := rfl
@[simp] theorem State.setDue_mgmt (s : State) (v : List Event) : (s.setDue v).mgmt = s.mgmt := rfl
@[simp] theorem State.setDue_profile (s : State) (v : List Event) : (s.setDue v).profile = s.profile := rfl
@[simp] theorem State.setDue_due (s : State) (v : List Event) : (s.setDue v).due = v := rfl
@[simp] theorem State.setDue_pending (s : State) (v : List Event) : (s.setDue v).pending = s.pending := rfl

/-! ### Port-indexed updates -/

theorem State.port_setPort (s : State) (p q : Port) (v : PortRecord) :
    (s.setPort p v).port q = if p = q then v else s.port q := by
  simp [State.port, State.setPort, Vector.getElem_set, Fin.ext_iff]

@[simp] theorem State.port_setPort_self (s : State) (p : Port) (v : PortRecord) : (s.setPort p v).port p = v := by
  simp [State.port_setPort]

theorem State.port_setPort_of_ne (s : State) (p q : Port) (v : PortRecord) (h : p ≠ q) : (s.setPort p v).port q = s.port q := by
  simp [State.port_setPort, h]

theorem State.portMeters_setPortMeters (s : State) (p q : Port) (v : PerClass Meter) :
    (s.setPortMeters p v).portMeters q = if p = q then v else s.portMeters q := by
  simp [State.portMeters, State.setPortMeters, Vector.getElem_set, Fin.ext_iff]

@[simp] theorem State.portMeters_setPortMeters_self (s : State) (p : Port) (v : PerClass Meter) : (s.setPortMeters p v).portMeters p = v := by
  simp [State.portMeters_setPortMeters]

theorem State.portMeters_setPortMeters_of_ne (s : State) (p q : Port) (v : PerClass Meter) (h : p ≠ q) : (s.setPortMeters p v).portMeters q = s.portMeters q := by
  simp [State.portMeters_setPortMeters, h]

theorem State.tally_setTally (s : State) (p q : Port) (v : PortTally) :
    (s.setTally p v).tally q = if p = q then v else s.tally q := by
  simp [State.tally, State.setTally, Vector.getElem_set, Fin.ext_iff]

@[simp] theorem State.tally_setTally_self (s : State) (p : Port) (v : PortTally) : (s.setTally p v).tally p = v := by
  simp [State.tally_setTally]

theorem State.tally_setTally_of_ne (s : State) (p q : Port) (v : PortTally) (h : p ≠ q) : (s.setTally p v).tally q = s.tally q := by
  simp [State.tally_setTally, h]

theorem State.report_setReport (s : State) (p q : Port) (v : Option StepReport) :
    (s.setReport p v).report q = if p = q then v else s.report q := by
  simp [State.report, State.setReport, Vector.getElem_set, Fin.ext_iff]

@[simp] theorem State.report_setReport_self (s : State) (p : Port) (v : Option StepReport) : (s.setReport p v).report p = v := by
  simp [State.report_setReport]

theorem State.report_setReport_of_ne (s : State) (p q : Port) (v : Option StepReport) (h : p ≠ q) : (s.setReport p v).report q = s.report q := by
  simp [State.report_setReport, h]

theorem State.evidenceOf_setEvidenceOf (s : State) (p q : Port) (v : EvidenceRecord) :
    (s.setEvidenceOf p v).evidenceOf q = if p = q then v else s.evidenceOf q := by
  simp [State.evidenceOf, State.setEvidenceOf, Vector.getElem_set, Fin.ext_iff]

@[simp] theorem State.evidenceOf_setEvidenceOf_self (s : State) (p : Port) (v : EvidenceRecord) : (s.setEvidenceOf p v).evidenceOf p = v := by
  simp [State.evidenceOf_setEvidenceOf]

theorem State.evidenceOf_setEvidenceOf_of_ne (s : State) (p q : Port) (v : EvidenceRecord) (h : p ≠ q) : (s.setEvidenceOf p v).evidenceOf q = s.evidenceOf q := by
  simp [State.evidenceOf_setEvidenceOf, h]

@[simp] theorem State.setPort_timer (s : State) (p : Port) (v : PortRecord) : (s.setPort p v).timer = s.timer := rfl
@[simp] theorem State.setPort_receiver (s : State) (p : Port) (v : PortRecord) : (s.setPort p v).receiver = s.receiver := rfl
@[simp] theorem State.setPort_tallies (s : State) (p : Port) (v : PortRecord) : (s.setPort p v).tallies = s.tallies := rfl
@[simp] theorem State.setPort_control (s : State) (p : Port) (v : PortRecord) : (s.setPort p v).control = s.control := rfl
@[simp] theorem State.setPort_meters (s : State) (p : Port) (v : PortRecord) : (s.setPort p v).meters = s.meters := rfl
@[simp] theorem State.setPort_reports (s : State) (p : Port) (v : PortRecord) : (s.setPort p v).reports = s.reports := rfl
@[simp] theorem State.setPort_grace (s : State) (p : Port) (v : PortRecord) : (s.setPort p v).grace = s.grace := rfl
@[simp] theorem State.setPort_stations (s : State) (p : Port) (v : PortRecord) : (s.setPort p v).stations = s.stations := rfl
@[simp] theorem State.setPort_probes (s : State) (p : Port) (v : PortRecord) : (s.setPort p v).probes = s.probes := rfl
@[simp] theorem State.setPort_sweep (s : State) (p : Port) (v : PortRecord) : (s.setPort p v).sweep = s.sweep := rfl
@[simp] theorem State.setPort_trips (s : State) (p : Port) (v : PortRecord) : (s.setPort p v).trips = s.trips := rfl
@[simp] theorem State.setPort_evidence (s : State) (p : Port) (v : PortRecord) : (s.setPort p v).evidence = s.evidence := rfl
@[simp] theorem State.setPort_panel (s : State) (p : Port) (v : PortRecord) : (s.setPort p v).panel = s.panel := rfl
@[simp] theorem State.setPort_mgmt (s : State) (p : Port) (v : PortRecord) : (s.setPort p v).mgmt = s.mgmt := rfl
@[simp] theorem State.setPort_profile (s : State) (p : Port) (v : PortRecord) : (s.setPort p v).profile = s.profile := rfl
@[simp] theorem State.setPort_due (s : State) (p : Port) (v : PortRecord) : (s.setPort p v).due = s.due := rfl
@[simp] theorem State.setPort_pending (s : State) (p : Port) (v : PortRecord) : (s.setPort p v).pending = s.pending := rfl

@[simp] theorem State.setPortMeters_timer (s : State) (p : Port) (v : PerClass Meter) : (s.setPortMeters p v).timer = s.timer := rfl
@[simp] theorem State.setPortMeters_receiver (s : State) (p : Port) (v : PerClass Meter) : (s.setPortMeters p v).receiver = s.receiver := rfl
@[simp] theorem State.setPortMeters_tallies (s : State) (p : Port) (v : PerClass Meter) : (s.setPortMeters p v).tallies = s.tallies := rfl
@[simp] theorem State.setPortMeters_control (s : State) (p : Port) (v : PerClass Meter) : (s.setPortMeters p v).control = s.control := rfl
@[simp] theorem State.setPortMeters_reports (s : State) (p : Port) (v : PerClass Meter) : (s.setPortMeters p v).reports = s.reports := rfl
@[simp] theorem State.setPortMeters_grace (s : State) (p : Port) (v : PerClass Meter) : (s.setPortMeters p v).grace = s.grace := rfl
@[simp] theorem State.setPortMeters_stations (s : State) (p : Port) (v : PerClass Meter) : (s.setPortMeters p v).stations = s.stations := rfl
@[simp] theorem State.setPortMeters_probes (s : State) (p : Port) (v : PerClass Meter) : (s.setPortMeters p v).probes = s.probes := rfl
@[simp] theorem State.setPortMeters_sweep (s : State) (p : Port) (v : PerClass Meter) : (s.setPortMeters p v).sweep = s.sweep := rfl
@[simp] theorem State.setPortMeters_ports (s : State) (p : Port) (v : PerClass Meter) : (s.setPortMeters p v).ports = s.ports := rfl
@[simp] theorem State.setPortMeters_trips (s : State) (p : Port) (v : PerClass Meter) : (s.setPortMeters p v).trips = s.trips := rfl
@[simp] theorem State.setPortMeters_evidence (s : State) (p : Port) (v : PerClass Meter) : (s.setPortMeters p v).evidence = s.evidence := rfl
@[simp] theorem State.setPortMeters_panel (s : State) (p : Port) (v : PerClass Meter) : (s.setPortMeters p v).panel = s.panel := rfl
@[simp] theorem State.setPortMeters_mgmt (s : State) (p : Port) (v : PerClass Meter) : (s.setPortMeters p v).mgmt = s.mgmt := rfl
@[simp] theorem State.setPortMeters_profile (s : State) (p : Port) (v : PerClass Meter) : (s.setPortMeters p v).profile = s.profile := rfl
@[simp] theorem State.setPortMeters_due (s : State) (p : Port) (v : PerClass Meter) : (s.setPortMeters p v).due = s.due := rfl
@[simp] theorem State.setPortMeters_pending (s : State) (p : Port) (v : PerClass Meter) : (s.setPortMeters p v).pending = s.pending := rfl

@[simp] theorem State.setTally_timer (s : State) (p : Port) (v : PortTally) : (s.setTally p v).timer = s.timer := rfl
@[simp] theorem State.setTally_receiver (s : State) (p : Port) (v : PortTally) : (s.setTally p v).receiver = s.receiver := rfl
@[simp] theorem State.setTally_control (s : State) (p : Port) (v : PortTally) : (s.setTally p v).control = s.control := rfl
@[simp] theorem State.setTally_meters (s : State) (p : Port) (v : PortTally) : (s.setTally p v).meters = s.meters := rfl
@[simp] theorem State.setTally_reports (s : State) (p : Port) (v : PortTally) : (s.setTally p v).reports = s.reports := rfl
@[simp] theorem State.setTally_grace (s : State) (p : Port) (v : PortTally) : (s.setTally p v).grace = s.grace := rfl
@[simp] theorem State.setTally_stations (s : State) (p : Port) (v : PortTally) : (s.setTally p v).stations = s.stations := rfl
@[simp] theorem State.setTally_probes (s : State) (p : Port) (v : PortTally) : (s.setTally p v).probes = s.probes := rfl
@[simp] theorem State.setTally_sweep (s : State) (p : Port) (v : PortTally) : (s.setTally p v).sweep = s.sweep := rfl
@[simp] theorem State.setTally_ports (s : State) (p : Port) (v : PortTally) : (s.setTally p v).ports = s.ports := rfl
@[simp] theorem State.setTally_trips (s : State) (p : Port) (v : PortTally) : (s.setTally p v).trips = s.trips := rfl
@[simp] theorem State.setTally_evidence (s : State) (p : Port) (v : PortTally) : (s.setTally p v).evidence = s.evidence := rfl
@[simp] theorem State.setTally_panel (s : State) (p : Port) (v : PortTally) : (s.setTally p v).panel = s.panel := rfl
@[simp] theorem State.setTally_mgmt (s : State) (p : Port) (v : PortTally) : (s.setTally p v).mgmt = s.mgmt := rfl
@[simp] theorem State.setTally_profile (s : State) (p : Port) (v : PortTally) : (s.setTally p v).profile = s.profile := rfl
@[simp] theorem State.setTally_due (s : State) (p : Port) (v : PortTally) : (s.setTally p v).due = s.due := rfl
@[simp] theorem State.setTally_pending (s : State) (p : Port) (v : PortTally) : (s.setTally p v).pending = s.pending := rfl

@[simp] theorem State.setReport_timer (s : State) (p : Port) (v : Option StepReport) : (s.setReport p v).timer = s.timer := rfl
@[simp] theorem State.setReport_receiver (s : State) (p : Port) (v : Option StepReport) : (s.setReport p v).receiver = s.receiver := rfl
@[simp] theorem State.setReport_tallies (s : State) (p : Port) (v : Option StepReport) : (s.setReport p v).tallies = s.tallies := rfl
@[simp] theorem State.setReport_control (s : State) (p : Port) (v : Option StepReport) : (s.setReport p v).control = s.control := rfl
@[simp] theorem State.setReport_meters (s : State) (p : Port) (v : Option StepReport) : (s.setReport p v).meters = s.meters := rfl
@[simp] theorem State.setReport_grace (s : State) (p : Port) (v : Option StepReport) : (s.setReport p v).grace = s.grace := rfl
@[simp] theorem State.setReport_stations (s : State) (p : Port) (v : Option StepReport) : (s.setReport p v).stations = s.stations := rfl
@[simp] theorem State.setReport_probes (s : State) (p : Port) (v : Option StepReport) : (s.setReport p v).probes = s.probes := rfl
@[simp] theorem State.setReport_sweep (s : State) (p : Port) (v : Option StepReport) : (s.setReport p v).sweep = s.sweep := rfl
@[simp] theorem State.setReport_ports (s : State) (p : Port) (v : Option StepReport) : (s.setReport p v).ports = s.ports := rfl
@[simp] theorem State.setReport_trips (s : State) (p : Port) (v : Option StepReport) : (s.setReport p v).trips = s.trips := rfl
@[simp] theorem State.setReport_evidence (s : State) (p : Port) (v : Option StepReport) : (s.setReport p v).evidence = s.evidence := rfl
@[simp] theorem State.setReport_panel (s : State) (p : Port) (v : Option StepReport) : (s.setReport p v).panel = s.panel := rfl
@[simp] theorem State.setReport_mgmt (s : State) (p : Port) (v : Option StepReport) : (s.setReport p v).mgmt = s.mgmt := rfl
@[simp] theorem State.setReport_profile (s : State) (p : Port) (v : Option StepReport) : (s.setReport p v).profile = s.profile := rfl
@[simp] theorem State.setReport_due (s : State) (p : Port) (v : Option StepReport) : (s.setReport p v).due = s.due := rfl
@[simp] theorem State.setReport_pending (s : State) (p : Port) (v : Option StepReport) : (s.setReport p v).pending = s.pending := rfl

@[simp] theorem State.setEvidenceOf_timer (s : State) (p : Port) (v : EvidenceRecord) : (s.setEvidenceOf p v).timer = s.timer := rfl
@[simp] theorem State.setEvidenceOf_receiver (s : State) (p : Port) (v : EvidenceRecord) : (s.setEvidenceOf p v).receiver = s.receiver := rfl
@[simp] theorem State.setEvidenceOf_tallies (s : State) (p : Port) (v : EvidenceRecord) : (s.setEvidenceOf p v).tallies = s.tallies := rfl
@[simp] theorem State.setEvidenceOf_control (s : State) (p : Port) (v : EvidenceRecord) : (s.setEvidenceOf p v).control = s.control := rfl
@[simp] theorem State.setEvidenceOf_meters (s : State) (p : Port) (v : EvidenceRecord) : (s.setEvidenceOf p v).meters = s.meters := rfl
@[simp] theorem State.setEvidenceOf_reports (s : State) (p : Port) (v : EvidenceRecord) : (s.setEvidenceOf p v).reports = s.reports := rfl
@[simp] theorem State.setEvidenceOf_grace (s : State) (p : Port) (v : EvidenceRecord) : (s.setEvidenceOf p v).grace = s.grace := rfl
@[simp] theorem State.setEvidenceOf_stations (s : State) (p : Port) (v : EvidenceRecord) : (s.setEvidenceOf p v).stations = s.stations := rfl
@[simp] theorem State.setEvidenceOf_probes (s : State) (p : Port) (v : EvidenceRecord) : (s.setEvidenceOf p v).probes = s.probes := rfl
@[simp] theorem State.setEvidenceOf_sweep (s : State) (p : Port) (v : EvidenceRecord) : (s.setEvidenceOf p v).sweep = s.sweep := rfl
@[simp] theorem State.setEvidenceOf_ports (s : State) (p : Port) (v : EvidenceRecord) : (s.setEvidenceOf p v).ports = s.ports := rfl
@[simp] theorem State.setEvidenceOf_trips (s : State) (p : Port) (v : EvidenceRecord) : (s.setEvidenceOf p v).trips = s.trips := rfl
@[simp] theorem State.setEvidenceOf_panel (s : State) (p : Port) (v : EvidenceRecord) : (s.setEvidenceOf p v).panel = s.panel := rfl
@[simp] theorem State.setEvidenceOf_mgmt (s : State) (p : Port) (v : EvidenceRecord) : (s.setEvidenceOf p v).mgmt = s.mgmt := rfl
@[simp] theorem State.setEvidenceOf_profile (s : State) (p : Port) (v : EvidenceRecord) : (s.setEvidenceOf p v).profile = s.profile := rfl
@[simp] theorem State.setEvidenceOf_due (s : State) (p : Port) (v : EvidenceRecord) : (s.setEvidenceOf p v).due = s.due := rfl
@[simp] theorem State.setEvidenceOf_pending (s : State) (p : Port) (v : EvidenceRecord) : (s.setEvidenceOf p v).pending = s.pending := rfl

end Sys2Proof.Machine
end

