-- ==== Sys2Proof/Laws/Frames.lean ====
section
/-! SUPPORT. Which parts of the state each shared operation can change, composed from the single updates up to the slot
expiry. -/

namespace Sys2Proof.Machine

/-! ### Composing frames -/

theorem OnlyIn.refl (l : List Part) (s : State) : OnlyIn l s s := fun part _ => by cases part <;> rfl

theorem SameIn.trans {s t u : State} {part : Part} (h : SameIn s t part) (k : SameIn t u part) : SameIn s u part := by
  cases part <;> exact Eq.trans k h

theorem OnlyIn.trans {l : List Part} {s t u : State} (h : OnlyIn l s t) (k : OnlyIn l t u) : OnlyIn l s u :=
  fun part hp => (h part hp).trans (k part hp)

theorem OnlyIn.mono {a b : List Part} {s t : State} (h : OnlyIn a s t) (hs : a ⊆ b) : OnlyIn b s t :=
  fun part hp => h part fun ha => hp (hs ha)

/-- One more operation within the frame. -/
theorem OnlyIn.step {a l : List Part} {s t u : State} (k : OnlyIn a t u) (hs : a ⊆ l) (h : OnlyIn l s t) : OnlyIn l s u :=
  h.trans (k.mono hs)

theorem OnlyIn.ite {l : List Part} {s t u : State} {c : Prop} [Decidable c] (h : OnlyIn l s t) (k : OnlyIn l s u) :
    OnlyIn l s (if c then t else u) := by split <;> assumption

theorem OnlyIn.foldl {α : Type} {l : List Part} {f : State → α → State} (h : ∀ s a, OnlyIn l s (f s a)) :
    ∀ (xs : List α) (s : State), OnlyIn l s (xs.foldl f s)
  | [], s => OnlyIn.refl l s
  | x :: xs, s => (h s x).trans (OnlyIn.foldl h xs (f s x))

/-! ### Single updates -/

theorem onlyIn_setTimer (s : State) (v : SlotTimer) : OnlyIn [.timer] s (s.setTimer v) := by
  intro part h; cases part <;> simp_all [SameIn]

theorem onlyIn_setReceiver (s : State) (v : Receiver) : OnlyIn [.receiver] s (s.setReceiver v) := by
  intro part h; cases part <;> simp_all [SameIn]

theorem onlyIn_setTallies (s : State) (v : Vector PortTally 40) : OnlyIn [.tallies] s (s.setTallies v) := by
  intro part h; cases part <;> simp_all [SameIn]

theorem onlyIn_setControl (s : State) (v : Control) : OnlyIn [.control] s (s.setControl v) := by
  intro part h; cases part <;> simp_all [SameIn]

theorem onlyIn_setMeters (s : State) (v : Vector (PerClass Meter) 40) : OnlyIn [.meters] s (s.setMeters v) := by
  intro part h; cases part <;> simp_all [SameIn]

theorem onlyIn_setReports (s : State) (v : Vector (Option StepReport) 40) : OnlyIn [.reports] s (s.setReports v) := by
  intro part h; cases part <;> simp_all [SameIn]

theorem onlyIn_setGrace (s : State) (v : Nat) : OnlyIn [.grace] s (s.setGrace v) := by
  intro part h; cases part <;> simp_all [SameIn]

theorem onlyIn_setStations (s : State) (v : List StationEntry) : OnlyIn [.stations] s (s.setStations v) := by
  intro part h; cases part <;> simp_all [SameIn]

theorem onlyIn_setProbes (s : State) (v : ProbeEngine) : OnlyIn [.probes] s (s.setProbes v) := by
  intro part h; cases part <;> simp_all [SameIn]

theorem onlyIn_setSweep (s : State) (v : SweepScheduler) : OnlyIn [.sweep] s (s.setSweep v) := by
  intro part h; cases part <;> simp_all [SameIn]

theorem onlyIn_setPorts (s : State) (v : Vector PortRecord 40) : OnlyIn [.ports] s (s.setPorts v) := by
  intro part h; cases part <;> simp_all [SameIn]

theorem onlyIn_setTrips (s : State) (v : List TripItem) : OnlyIn [.trips] s (s.setTrips v) := by
  intro part h; cases part <;> simp_all [SameIn]

theorem onlyIn_setEvidence (s : State) (v : Vector EvidenceRecord 40) : OnlyIn [.evidence] s (s.setEvidence v) := by
  intro part h; cases part <;> simp_all [SameIn]

theorem onlyIn_setPanel (s : State) (v : Panel) : OnlyIn [.panel] s (s.setPanel v) := by
  intro part h; cases part <;> simp_all [SameIn]

theorem onlyIn_setMgmt (s : State) (v : Mgmt) : OnlyIn [.mgmt] s (s.setMgmt v) := by
  intro part h; cases part <;> simp_all [SameIn]

theorem onlyIn_setProfile (s : State) (v : Profile) : OnlyIn [.profile] s (s.setProfile v) := by
  intro part h; cases part <;> simp_all [SameIn]

theorem onlyIn_setDue (s : State) (v : List Event) : OnlyIn [.due] s (s.setDue v) := by
  intro part h; cases part <;> simp_all [SameIn]

theorem onlyIn_setPort (s : State) (p : Port) (r : PortRecord) : OnlyIn [.ports] s (s.setPort p r) := onlyIn_setPorts s _

theorem onlyIn_setPortMeters (s : State) (p : Port) (m : PerClass Meter) : OnlyIn [.meters] s (s.setPortMeters p m) :=
  onlyIn_setMeters s _

theorem onlyIn_setTally (s : State) (p : Port) (t : PortTally) : OnlyIn [.tallies] s (s.setTally p t) :=
  onlyIn_setTallies s _

theorem onlyIn_setReport (s : State) (p : Port) (r : Option StepReport) : OnlyIn [.reports] s (s.setReport p r) :=
  onlyIn_setReports s _

theorem onlyIn_setEvidenceOf (s : State) (p : Port) (e : EvidenceRecord) : OnlyIn [.evidence] s (s.setEvidenceOf p e) :=
  onlyIn_setEvidence s _

theorem onlyIn_raise (s : State) (n : Notice) : OnlyIn [.mgmt] s (s.raise n) := onlyIn_setMgmt s _

theorem onlyIn_pushDue (s : State) (e : Event) : OnlyIn [.due] s (s.pushDue e) := onlyIn_setDue s _

/-! ### Wants -/

theorem onlyIn_supersede (s : State) (p : Port) (w : Want) (u : Purposes) : OnlyIn [.mgmt] s (s.supersede p w u) := by
  unfold State.supersede
  split
  · exact onlyIn_raise s _
  · exact OnlyIn.refl _ s

theorem onlyIn_joinWants (s : State) (p : Port) (w : Want) : OnlyIn [.ports] s (s.joinWants p w) := onlyIn_setPort s p _

theorem onlyIn_setWant (s : State) (p : Port) (w : Want) : OnlyIn [.ports, .probes, .mgmt] s (s.setWant p w) := by
  unfold State.setWant
  split
  · exact OnlyIn.step (onlyIn_setProbes _ _) (by decide) (OnlyIn.mono (onlyIn_supersede s p w _) (by decide))
  · exact OnlyIn.step (onlyIn_joinWants _ p w) (by decide) (OnlyIn.mono (onlyIn_supersede s p w _) (by decide))

/-- A want other than HOST supersedes nothing, so no notice is raised. -/
theorem setWant_mgmt (s : State) (p : Port) (w : Want) (h : ∀ t, w ≠ .host t) : (s.setWant p w).mgmt = s.mgmt := by
  cases w <;> simp_all [State.setWant, State.supersede, State.joinWants] <;> split <;> simp

theorem onlyIn_setWant_of_ne_host (s : State) (p : Port) (w : Want) (h : ∀ t, w ≠ .host t) :
    OnlyIn [.ports, .probes] s (s.setWant p w) := by
  intro part hp
  by_cases hm : part = .mgmt
  · subst hm; exact setWant_mgmt s p w h
  · exact onlyIn_setWant s p w part (by cases part <;> simp_all)

theorem onlyIn_wantLinkup (s : State) (p : Port) : OnlyIn [.ports, .probes] s (s.setWant p .linkup) :=
  onlyIn_setWant_of_ne_host s p _ (by simp)

theorem onlyIn_wantStorm (s : State) (p : Port) : OnlyIn [.ports, .probes] s (s.setWant p .storm) :=
  onlyIn_setWant_of_ne_host s p _ (by simp)

theorem onlyIn_wantFlap (s : State) (p : Port) : OnlyIn [.ports, .probes] s (s.setWant p .flap) :=
  onlyIn_setWant_of_ne_host s p _ (by simp)

theorem onlyIn_wantRecover (s : State) (p : Port) : OnlyIn [.ports, .probes] s (s.setWant p .recover) :=
  onlyIn_setWant_of_ne_host s p _ (by simp)

theorem onlyIn_wantSweep (s : State) (p : Port) (n : Byte) : OnlyIn [.ports, .probes] s (s.setWant p (.sweep n)) :=
  onlyIn_setWant_of_ne_host s p _ (by simp)

/-! ### State changes and trips -/

theorem onlyIn_mapPurposes (s : State) (p : Port) (f : Purposes → Purposes) :
    OnlyIn [.ports, .probes] s (s.mapPurposes p f) := by
  simp only [State.mapPurposes]
  all_goals
    repeat with_reducible first
      | apply OnlyIn.refl
      | (apply OnlyIn.step (onlyIn_setProbes _ _); (· decide))
      | (apply OnlyIn.step (onlyIn_setPort _ _ _); (· decide))

theorem onlyIn_leaveState (s : State) (p : Port) :
    OnlyIn [.ports, .probes] s (s.leaveState p) := by
  simp only [State.leaveState]
  repeat' split
  all_goals
    repeat with_reducible first
      | apply OnlyIn.refl
      | (apply OnlyIn.step (onlyIn_mapPurposes _ _ _); (· decide))

theorem onlyIn_enter (s : State) (p : Port) (new : PortState) :
    OnlyIn [.ports, .probes, .control, .trips] s (s.enter p new) := by
  simp only [State.enter, State.pendGate]
  repeat' split
  all_goals
    repeat with_reducible first
      | apply OnlyIn.refl
      | (apply OnlyIn.step (onlyIn_setTrips _ _); (· decide))
      | (apply OnlyIn.step (onlyIn_setControl _ _); (· decide))
      | (apply OnlyIn.step (onlyIn_setPort _ _ _); (· decide))
      | (apply OnlyIn.step (onlyIn_leaveState _ _); (· decide))

theorem onlyIn_startBuzzer (s : State) : OnlyIn [.panel] s s.startBuzzer := onlyIn_setPanel s _

theorem onlyIn_recordTrip (s : State) (p : Port) (c : Cause) (e : PortState) (q : Option Port) (r : Option Half) :
    OnlyIn [.evidence, .mgmt] s (s.recordTrip p c e q r) := by
  simp only [State.recordTrip]
  repeat' split
  all_goals
    repeat with_reducible first
      | apply OnlyIn.refl
      | (apply OnlyIn.step (onlyIn_raise _ _); (· decide))
      | (apply OnlyIn.step (onlyIn_setEvidenceOf _ _ _); (· decide))

theorem onlyIn_trip (s : State) (p : Port) (c : Cause) (e : PortState) (q : Option Port) (r : Option Half) :
    OnlyIn [.ports, .probes, .control, .trips, .evidence, .mgmt, .panel] s (s.trip p c e q r) := by
  simp only [State.trip]
  repeat' split
  all_goals
    repeat with_reducible first
      | apply OnlyIn.refl
      | (apply OnlyIn.step (onlyIn_setTrips _ _); (· decide))
      | (apply OnlyIn.step (onlyIn_startBuzzer _); (· decide))
      | (apply OnlyIn.step (onlyIn_recordTrip _ _ _ _ _ _); (· decide))
      | (apply OnlyIn.step (onlyIn_setMgmt _ _); (· decide))
      | (apply OnlyIn.step (onlyIn_enter _ _ _); (· decide))

/-- A trip into LIMITED leaves the buzzer alone (R153). -/
theorem onlyIn_trip_limited (s : State) (p : Port) (c : Cause) (q : Option Port) (r : Option Half) :
    OnlyIn [.ports, .probes, .control, .trips, .evidence, .mgmt] s (s.trip p c .limited q r) := by
  simp only [State.trip, PortState.shutForTrip, Bool.false_eq_true, if_false]
  all_goals
    repeat with_reducible first
      | apply OnlyIn.refl
      | (apply OnlyIn.step (onlyIn_recordTrip _ _ _ _ _ _); (· decide))
      | (apply OnlyIn.step (onlyIn_setMgmt _ _); (· decide))
      | (apply OnlyIn.step (onlyIn_enter _ _ _); (· decide))

theorem onlyIn_blockingTrip (s : State) (p : Port) (c : Cause) (q : Option Port) (r : Option Half) :
    OnlyIn [.ports, .probes, .control, .trips, .evidence, .mgmt, .panel] s (s.blockingTrip p c q r) := by
  simp only [State.blockingTrip]
  repeat' split
  all_goals
    repeat with_reducible first
      | apply OnlyIn.refl
      | (apply OnlyIn.step (onlyIn_setPort _ _ _); (· decide))
      | (apply OnlyIn.step (onlyIn_trip _ _ _ _ _ _); (· decide))

theorem onlyIn_limitingTrip (s : State) (p : Port) (c : Cause) (q : Option Port) :
    OnlyIn [.ports, .probes, .control, .trips, .evidence, .mgmt] s (s.limitingTrip p c q) := by
  simp only [State.limitingTrip]
  repeat' split
  all_goals
    repeat with_reducible first
      | apply OnlyIn.refl
      | (apply OnlyIn.step (onlyIn_wantStorm _ _); (· decide))
      | (apply OnlyIn.step (onlyIn_trip_limited _ _ _ _ _); (· decide))

theorem onlyIn_primingExit (s : State) (p : Port) :
    OnlyIn [.ports, .probes, .control, .trips, .evidence, .mgmt] s (s.primingExit p) := by
  simp only [State.primingExit]
  repeat' split
  all_goals
    repeat with_reducible first
      | apply OnlyIn.refl
      | (apply OnlyIn.step (onlyIn_enter _ _ _); (· decide))
      | (apply OnlyIn.step (onlyIn_limitingTrip _ _ _ _); (· decide))

theorem onlyIn_reopen (s : State) (p : Port) :
    OnlyIn [.ports, .probes, .control, .trips, .mgmt] s (s.reopen p) := by
  simp only [State.reopen]
  all_goals
    repeat with_reducible first
      | apply OnlyIn.refl
      | (apply OnlyIn.step (onlyIn_raise _ _); (· decide))
      | (apply OnlyIn.step (onlyIn_enter _ _ _); (· decide))

theorem onlyIn_countCalm (s : State) (p : Port) (r : StepReport) : OnlyIn [.ports] s (s.countCalm p r) :=
  onlyIn_setPort s p _

theorem onlyIn_judgeReport (s : State) (p : Port) (r : StepReport) :
    OnlyIn [.ports, .probes, .control, .trips, .evidence, .mgmt, .panel] s (s.judgeReport p r) := by
  simp only [State.judgeReport]
  repeat' split
  all_goals
    repeat with_reducible first
      | apply OnlyIn.refl
      | (apply OnlyIn.step (onlyIn_blockingTrip _ _ _ _ _); (· decide))
      | (apply OnlyIn.step (onlyIn_limitingTrip _ _ _ _); (· decide))
      | (apply OnlyIn.step (onlyIn_countCalm _ _ _); (· decide))
      | (apply OnlyIn.step (onlyIn_primingExit _ _); (· decide))

theorem onlyIn_takeCalmHold (s : State) (p : Port) :
    OnlyIn [.ports, .probes, .control, .trips, .mgmt] s (s.takeCalmHold p) :=
  OnlyIn.ite (onlyIn_reopen s p) (OnlyIn.refl _ s)

theorem onlyIn_actOnReport (s : State) (p : Port) (r : StepReport) :
    OnlyIn [.ports, .probes, .control, .trips, .evidence, .mgmt, .panel] s (s.actOnReport p r) :=
  OnlyIn.ite (OnlyIn.step (onlyIn_takeCalmHold _ p) (by decide) (onlyIn_judgeReport s p r)) (onlyIn_judgeReport s p r)

/-! ### Sweeps and conclusions -/

theorem onlyIn_dropSweeps (s : State) :
    OnlyIn [.ports, .probes] s (s.dropSweeps) := by
  simp only [State.dropSweeps]
  all_goals
    repeat with_reducible first
      | apply OnlyIn.refl
      | (apply OnlyIn.step (onlyIn_setProbes _ _); (· decide))
      | (apply OnlyIn.step (onlyIn_setPorts _ _); (· decide))

theorem onlyIn_endSweep (s : State) (r : SweepRecord) (e : SweepEnd) :
    OnlyIn [.ports, .probes, .mgmt, .sweep] s (s.endSweep r e) := by
  simp only [State.endSweep]
  all_goals
    repeat with_reducible first
      | apply OnlyIn.refl
      | (apply OnlyIn.step (onlyIn_setSweep _ _); (· decide))
      | (apply OnlyIn.step (onlyIn_raise _ _); (· decide))
      | (apply OnlyIn.step (onlyIn_dropSweeps _); (· decide))

theorem onlyIn_putSweep (s : State) (r : SweepRecord) :
    OnlyIn [.ports, .probes, .mgmt, .sweep] s (s.putSweep r) := by
  simp only [State.putSweep]
  repeat' split
  all_goals
    repeat with_reducible first
      | apply OnlyIn.refl
      | (apply OnlyIn.step (onlyIn_endSweep _ _ _); (· decide))
      | (apply OnlyIn.step (onlyIn_setSweep _ _); (· decide))

theorem onlyIn_deliverSweep (s : State) (n : Byte) (o : ProbeOutcome) :
    OnlyIn [.ports, .probes, .mgmt, .sweep] s (s.deliverSweep n o) := by
  simp only [State.deliverSweep]
  repeat' split
  all_goals
    repeat with_reducible first
      | apply OnlyIn.refl
      | (apply OnlyIn.step (onlyIn_putSweep _ _); (· decide))

theorem onlyIn_startSweep (s : State) (h : Option Byte) (f l : Port) : OnlyIn [.sweep] s (s.startSweep h f l) :=
  onlyIn_setSweep s _

theorem onlyIn_takeSweepPort (s : State) :
    OnlyIn [.ports, .probes, .mgmt, .sweep] s (s.takeSweepPort) := by
  simp only [State.takeSweepPort]
  repeat' split
  all_goals
    repeat with_reducible first
      | apply OnlyIn.refl
      | (apply OnlyIn.step (onlyIn_putSweep _ _); (· decide))
      | (apply OnlyIn.step (onlyIn_wantSweep _ _ _); (· decide))

theorem onlyIn_concludeHost (s : State) (p : Port) (u : Purposes) (o : ProbeOutcome) (a : Option Port) :
    OnlyIn [.mgmt] s (s.concludeHost p u o a) := by
  simp only [State.concludeHost, State.raiseCheckDone]
  repeat' split
  all_goals
    repeat with_reducible first
      | apply OnlyIn.refl
      | (apply OnlyIn.step (onlyIn_raise _ _); (· decide))

theorem onlyIn_concludeLinkup (s : State) (p : Port) (u : Purposes) (o : ProbeOutcome) :
    OnlyIn [.ports, .probes, .control, .trips, .evidence, .mgmt] s (s.concludeLinkup p u o) := by
  simp only [State.concludeLinkup]
  repeat' split
  all_goals
    repeat with_reducible first
      | apply OnlyIn.refl
      | (apply OnlyIn.step (onlyIn_primingExit _ _); (· decide))
      | (apply OnlyIn.step (onlyIn_setPort _ _ _); (· decide))

theorem onlyIn_concludeSweep (s : State) (u : Purposes) (o : ProbeOutcome) :
    OnlyIn [.ports, .probes, .mgmt, .sweep] s (s.concludeSweep u o) := by
  simp only [State.concludeSweep]
  repeat' split
  all_goals
    repeat with_reducible first
      | apply OnlyIn.refl
      | (apply OnlyIn.step (onlyIn_deliverSweep _ _ _); (· decide))

theorem onlyIn_concludeRecover (s : State) (p : Port) (u : Purposes) (o : ProbeOutcome) :
    OnlyIn [.ports, .probes, .control, .trips, .mgmt] s (s.concludeRecover p u o) := by
  simp only [State.concludeRecover]
  repeat' split
  all_goals
    repeat with_reducible first
      | apply OnlyIn.refl
      | (apply OnlyIn.step (onlyIn_reopen _ _); (· decide))

theorem onlyIn_conclude (s : State) (p : Port) (u : Purposes) (o : ProbeOutcome) (a : Option Port) :
    OnlyIn [.ports, .probes, .control, .trips, .evidence, .mgmt, .sweep] s (s.conclude p u o a) := by
  simp only [State.conclude]
  all_goals
    repeat with_reducible first
      | apply OnlyIn.refl
      | (apply OnlyIn.step (onlyIn_concludeHost _ _ _ _ _); (· decide))
      | (apply OnlyIn.step (onlyIn_concludeRecover _ _ _ _); (· decide))
      | (apply OnlyIn.step (onlyIn_concludeSweep _ _ _); (· decide))
      | (apply OnlyIn.step (onlyIn_concludeLinkup _ _ _ _); (· decide))

/-- A VOID conclusion moves no port's state, so gates, trip list and evidence stand (R77). -/
theorem onlyIn_conclude_void (s : State) (p : Port) (u : Purposes) (a : Option Port) :
    OnlyIn [.ports, .probes, .mgmt, .sweep] s (s.conclude p u .void a) := by
  have h1 : s.concludeLinkup p u .void = s := by simp [State.concludeLinkup]
  have h2 : ∀ t : State, t.concludeRecover p u .void = t := by simp [State.concludeRecover]
  rw [State.conclude, h1, h2]
  exact OnlyIn.step (onlyIn_concludeHost _ p u _ a) (by decide) (onlyIn_concludeSweep s u .void)

theorem onlyIn_voidWants (s : State) (p : Port) :
    OnlyIn [.ports, .probes, .mgmt, .sweep] s (s.voidWants p) := by
  simp only [State.voidWants]
  all_goals
    repeat with_reducible first
      | apply OnlyIn.refl
      | (apply OnlyIn.step (onlyIn_conclude_void _ _ _ _); (· decide))
      | (apply OnlyIn.step (onlyIn_setPort _ _ _); (· decide))

theorem onlyIn_removeQueued (s : State) (p : Port) :
    OnlyIn [.ports, .probes, .mgmt, .sweep, .control] s (s.removeQueued p) := by
  simp only [State.removeQueued]
  repeat' split
  all_goals
    repeat with_reducible first
      | apply OnlyIn.refl
      | (apply OnlyIn.step (onlyIn_conclude_void _ _ _ _); (· decide))
      | (apply OnlyIn.step (onlyIn_setControl _ _); (· decide))
      | (apply OnlyIn.step (onlyIn_setProbes _ _); (· decide))

/-! ### Links, roles, orders and releases -/

theorem onlyIn_restartMeters (s : State) (p : Port) : OnlyIn [.meters] s (s.restartMeters p) := onlyIn_setPortMeters s p _

theorem onlyIn_restartForRole (s : State) (p : Port) (r : Role) : OnlyIn [.meters] s (s.restartForRole p r) :=
  onlyIn_setPortMeters s p _

theorem onlyIn_linkUp (s : State) (p : Port) :
    OnlyIn [.ports, .probes, .control, .trips, .meters] s (s.linkUp p) := by
  simp only [State.linkUp]
  all_goals
    repeat with_reducible first
      | apply OnlyIn.refl
      | (apply OnlyIn.step (onlyIn_wantLinkup _ _); (· decide))
      | (apply OnlyIn.step (onlyIn_restartMeters _ _); (· decide))
      | (apply OnlyIn.step (onlyIn_setPort _ _ _); (· decide))
      | (apply OnlyIn.step (onlyIn_enter _ _ _); (· decide))

theorem onlyIn_linkDown (s : State) (p : Port) :
    OnlyIn [.ports, .probes, .control, .trips, .mgmt, .sweep] s (s.linkDown p) := by
  simp only [State.linkDown]
  all_goals
    repeat with_reducible first
      | apply OnlyIn.refl
      | (apply OnlyIn.step (onlyIn_removeQueued _ _); (· decide))
      | (apply OnlyIn.step (onlyIn_voidWants _ _); (· decide))
      | (apply OnlyIn.step (onlyIn_setPort _ _ _); (· decide))
      | (apply OnlyIn.step (onlyIn_enter _ _ _); (· decide))

theorem onlyIn_takeLink (s : State) (p : Port) (up : Bool) :
    OnlyIn [.ports, .probes, .control, .trips, .meters, .mgmt, .sweep] s (s.takeLink p up) := by
  simp only [State.takeLink, State.setLink]
  repeat' split
  all_goals
    repeat with_reducible first
      | apply OnlyIn.refl
      | (apply OnlyIn.step (onlyIn_setPort _ _ _); (· decide))
      | (apply OnlyIn.step (onlyIn_linkUp _ _); (· decide))
      | (apply OnlyIn.step (onlyIn_linkDown _ _); (· decide))

theorem onlyIn_forgetReport (s : State) (p : Port) (a b : Role) :
    OnlyIn [.reports] s (s.forgetReport p a b) := by
  simp only [State.forgetReport]
  repeat' split
  all_goals
    repeat with_reducible first
      | apply OnlyIn.refl
      | (apply OnlyIn.step (onlyIn_setReport _ _ _); (· decide))

theorem onlyIn_changeRole (s : State) (p : Port) (r : Role) :
    OnlyIn [.ports, .probes, .control, .trips, .meters, .reports, .mgmt, .sweep] s (s.changeRole p r) := by
  simp only [State.changeRole]
  repeat' split
  all_goals
    repeat with_reducible first
      | apply OnlyIn.refl
      | (apply OnlyIn.step (onlyIn_wantLinkup _ _); (· decide))
      | (apply OnlyIn.step (onlyIn_forgetReport _ _ _ _); (· decide))
      | (apply OnlyIn.step (onlyIn_restartForRole _ _ _); (· decide))
      | (apply OnlyIn.step (onlyIn_enter _ _ _); (· decide))
      | (apply OnlyIn.step (onlyIn_setPort _ _ _); (· decide))
      | (apply OnlyIn.step (onlyIn_removeQueued _ _); (· decide))
      | (apply OnlyIn.step (onlyIn_voidWants _ _); (· decide))

theorem onlyIn_release (s : State) (p : Port) :
    OnlyIn [.ports, .probes, .control, .trips] s (s.release p) := by
  simp only [State.release]
  repeat' split
  all_goals
    repeat with_reducible first
      | apply OnlyIn.refl
      | (apply OnlyIn.step (onlyIn_wantRecover _ _); (· decide))
      | (apply OnlyIn.step (onlyIn_enter _ _ _); (· decide))
      | (apply OnlyIn.step (onlyIn_setPort _ _ _); (· decide))

theorem onlyIn_roomRelease (s : State) : OnlyIn [.ports, .probes, .control, .trips] s s.roomRelease :=
  OnlyIn.foldl onlyIn_release _ s

theorem onlyIn_limitTrunk (s : State) (p : Port) (q : Option Port) :
    OnlyIn [.ports, .probes, .control, .trips, .evidence, .mgmt] s (s.limitTrunk p q) := by
  simp only [State.limitTrunk]
  repeat' split
  all_goals
    repeat with_reducible first
      | apply OnlyIn.refl
      | (apply OnlyIn.step (onlyIn_limitingTrip _ _ _ _); (· decide))

theorem onlyIn_trunkLoop (s : State) (o x : Port) :
    OnlyIn [.ports, .probes, .control, .trips, .evidence, .mgmt] s (s.trunkLoop o x) := by
  simp only [State.trunkLoop]
  repeat' split
  all_goals
    repeat with_reducible first
      | apply OnlyIn.refl
      | (apply OnlyIn.step (onlyIn_limitTrunk _ _ _); (· decide))
      | (apply OnlyIn.step (onlyIn_raise _ _); (· decide))

theorem onlyIn_resolve (s : State) (o x : Port) (r : Bool) :
    OnlyIn [.ports, .probes, .control, .trips, .evidence, .mgmt, .panel] s ((s.resolve o x r).1) := by
  simp only [State.resolve]
  repeat' split
  all_goals
    repeat with_reducible first
      | apply OnlyIn.refl
      | (apply OnlyIn.step (onlyIn_blockingTrip _ _ _ _ _); (· decide))
      | (apply OnlyIn.step (onlyIn_trunkLoop _ _ _); (· decide))

/-! ### Stations and probes -/

theorem onlyIn_flapWant (s : State) (p : Port) :
    OnlyIn [.ports, .probes] s (s.flapWant p) := by
  simp only [State.flapWant]
  repeat' split
  all_goals
    repeat with_reducible first
      | apply OnlyIn.refl
      | (apply OnlyIn.step (onlyIn_wantFlap _ _); (· decide))

theorem onlyIn_flap (s : State) (a : Address) (p q : Port) :
    OnlyIn [.stations, .mgmt, .ports, .probes] s (s.flap a p q) := by
  simp only [State.flap]
  all_goals
    repeat with_reducible first
      | apply OnlyIn.refl
      | (apply OnlyIn.step (onlyIn_setStations _ _); (· decide))
      | (apply OnlyIn.step (onlyIn_flapWant _ _); (· decide))
      | (apply OnlyIn.step (onlyIn_raise _ _); (· decide))

theorem onlyIn_moveStation (s : State) (e : StationEntry) (p : Port) :
    OnlyIn [.stations, .mgmt, .ports, .probes] s (s.moveStation e p) := by
  simp only [State.moveStation]
  repeat' split
  all_goals
    repeat with_reducible first
      | apply OnlyIn.refl
      | (apply OnlyIn.step (onlyIn_flap _ _ _ _); (· decide))
      | (apply OnlyIn.step (onlyIn_setStations _ _); (· decide))

theorem onlyIn_learn (s : State) (p : Port) (a : Address) :
    OnlyIn [.stations, .mgmt, .ports, .probes] s (s.learn p a) := by
  simp only [State.learn]
  repeat' split
  all_goals
    repeat with_reducible first
      | apply OnlyIn.refl
      | (apply OnlyIn.step (onlyIn_moveStation _ _ _); (· decide))
      | (apply OnlyIn.step (onlyIn_setStations _ _); (· decide))

theorem onlyIn_admitPort (s : State) (p : Port) :
    OnlyIn [.ports, .probes, .control] s (s.admitPort p) := by
  simp only [State.admitPort]
  repeat' split
  all_goals
    repeat with_reducible first
      | apply OnlyIn.refl
      | (apply OnlyIn.step (onlyIn_setControl _ _); (· decide))
      | (apply OnlyIn.step (onlyIn_setPort _ _ _); (· decide))
      | (apply OnlyIn.step (onlyIn_setProbes _ _); (· decide))

theorem onlyIn_admit (s : State) : OnlyIn [.ports, .probes, .control] s s.admitWants := OnlyIn.foldl onlyIn_admitPort _ s

theorem onlyIn_countProbes (s : State) : OnlyIn [.due] s s.countProbes := onlyIn_setDue s _

theorem onlyIn_takeProbeExpiry (s : State) (o : Port) :
    OnlyIn [.ports, .probes, .control, .trips, .evidence, .mgmt, .sweep] s (s.takeProbeExpiry o) := by
  simp only [State.takeProbeExpiry]
  repeat' split
  all_goals
    repeat with_reducible first
      | apply OnlyIn.refl
      | (apply OnlyIn.step (onlyIn_conclude _ _ _ _ _); (· decide))
      | (apply OnlyIn.step (onlyIn_setProbes _ _); (· decide))

theorem onlyIn_matchedReturn (s : State) (e : ProbeEntry) (x : Port) :
    OnlyIn [.ports, .probes, .control, .trips, .evidence, .mgmt, .panel, .sweep] s (s.matchedReturn e x) := by
  simp only [State.matchedReturn]
  all_goals
    repeat with_reducible first
      | apply OnlyIn.refl
      | (apply OnlyIn.step (onlyIn_conclude _ _ _ _ _); (· decide))
      | (apply OnlyIn.step (onlyIn_resolve _ _ _ _); (· decide))
      | (apply OnlyIn.step (onlyIn_setProbes _ _); (· decide))

theorem onlyIn_unmatchedReturn (s : State) (x : Port) (o : Byte) (tag : Half) :
    OnlyIn [.ports, .probes, .control, .trips, .evidence, .mgmt, .panel] s (s.unmatchedReturn x o tag) := by
  simp only [State.unmatchedReturn]
  repeat' split
  all_goals
    repeat with_reducible first
      | apply OnlyIn.refl
      | (apply OnlyIn.step (onlyIn_resolve _ _ _ _); (· decide))
      | (apply OnlyIn.step (onlyIn_setProbes _ _); (· decide))

theorem onlyIn_foreignReturn (s : State) (x : Port) (room : Half) :
    OnlyIn [.ports, .probes, .control, .trips, .evidence, .mgmt, .panel] s (s.foreignReturn x room) := by
  simp only [State.foreignReturn]
  repeat' split
  all_goals
    repeat with_reducible first
      | apply OnlyIn.refl
      | (apply OnlyIn.step (onlyIn_raise _ _); (· decide))
      | (apply OnlyIn.step (onlyIn_blockingTrip _ _ _ _ _); (· decide))
      | (apply OnlyIn.step (onlyIn_setProbes _ _); (· decide))

theorem onlyIn_takeReturn (s : State) (x : Port) (room : Half) (o : Byte) (tag : Half) :
    OnlyIn [.ports, .probes, .control, .trips, .evidence, .mgmt, .panel, .sweep] s (s.takeReturn x room o tag) := by
  simp only [State.takeReturn]
  repeat' split
  all_goals
    repeat with_reducible first
      | apply OnlyIn.refl
      | (apply OnlyIn.step (onlyIn_matchedReturn _ _ _); (· decide))
      | (apply OnlyIn.step (onlyIn_unmatchedReturn _ _ _ _); (· decide))
      | (apply OnlyIn.step (onlyIn_foreignReturn _ _ _); (· decide))
      | (apply OnlyIn.step (onlyIn_setProbes _ _); (· decide))

theorem onlyIn_renewWant (s : State) (p : Port) :
    OnlyIn [.ports, .probes] s (s.renewWant p) := by
  simp only [State.renewWant]
  repeat' split
  all_goals
    repeat with_reducible first
      | apply OnlyIn.refl
      | (apply OnlyIn.step (onlyIn_wantLinkup _ _); (· decide))
      | (apply OnlyIn.step (onlyIn_wantRecover _ _); (· decide))

theorem onlyIn_roomChanged (s : State) (old : Half) :
    OnlyIn [.ports, .probes, .mgmt, .sweep, .control] s (s.roomChanged old) := by
  simp only [State.roomChanged]
  refine OnlyIn.step (OnlyIn.foldl onlyIn_renewWant _ _) (by decide) ?_
  refine OnlyIn.step (OnlyIn.foldl (fun t (e : ProbeEntry) => onlyIn_conclude_void t e.origin e.purposes none) _ _) (by decide) ?_
  exact OnlyIn.step (onlyIn_setControl _ _) (by decide) (OnlyIn.mono (onlyIn_setProbes s _) (by decide))

/-! ### The events of an expiry -/

theorem onlyIn_countPortSecond (s : State) (p : Port) :
    OnlyIn [.ports, .due] s (s.countPortSecond p) := by
  simp only [State.countPortSecond]
  repeat' split
  all_goals
    repeat with_reducible first
      | apply OnlyIn.refl
      | (apply OnlyIn.step (onlyIn_pushDue _ _); (· decide))
      | (apply OnlyIn.step (onlyIn_setPort _ _ _); (· decide))

theorem onlyIn_countGrace (s : State) :
    OnlyIn [.grace, .due] s (s.countGrace) := by
  simp only [State.countGrace]
  repeat' split
  all_goals
    repeat with_reducible first
      | apply OnlyIn.refl
      | (apply OnlyIn.step (onlyIn_pushDue _ _); (· decide))
      | (apply OnlyIn.step (onlyIn_setGrace _ _); (· decide))

theorem onlyIn_countAutoSweep (s : State) :
    OnlyIn [.sweep, .due] s (s.countAutoSweep) := by
  simp only [State.countAutoSweep]
  repeat' split
  all_goals
    repeat with_reducible first
      | apply OnlyIn.refl
      | (apply OnlyIn.step (onlyIn_pushDue _ _); (· decide))
      | (apply OnlyIn.step (onlyIn_setSweep _ _); (· decide))

theorem onlyIn_takeSecond (s : State) : OnlyIn [.timer, .grace, .stations, .sweep, .ports, .due] s s.takeSecond := by
  simp only [State.takeSecond, State.countStations]
  refine OnlyIn.step (onlyIn_countAutoSweep _) (by decide) ?_
  refine OnlyIn.step (OnlyIn.foldl onlyIn_countPortSecond _ _) (by decide) ?_
  refine OnlyIn.step (onlyIn_setStations _ _) (by decide) ?_
  exact OnlyIn.step (onlyIn_countGrace _) (by decide) (OnlyIn.mono (onlyIn_setTimer s _) (by decide))

theorem onlyIn_takeFabricLost (s : State) :
    OnlyIn [.receiver, .mgmt] s (s.takeFabricLost) := by
  simp only [State.takeFabricLost]
  repeat' split
  all_goals
    repeat with_reducible first
      | apply OnlyIn.refl
      | (apply OnlyIn.step (onlyIn_raise _ _); (· decide))
      | (apply OnlyIn.step (onlyIn_setReceiver _ _); (· decide))

theorem onlyIn_takeRetireEnd (s : State) :
    OnlyIn [.probes] s (s.takeRetireEnd) := by
  simp only [State.takeRetireEnd]
  repeat' split
  all_goals
    repeat with_reducible first
      | apply OnlyIn.refl
      | (apply OnlyIn.step (onlyIn_setProbes _ _); (· decide))

theorem onlyIn_takeHoldOff (s : State) (p : Port) :
    OnlyIn [.ports, .probes, .control, .trips] s (s.takeHoldOff p) := by
  simp only [State.takeHoldOff]
  repeat' split
  all_goals
    repeat with_reducible first
      | apply OnlyIn.refl
      | (apply OnlyIn.step (onlyIn_wantRecover _ _); (· decide))
      | (apply OnlyIn.step (onlyIn_enter _ _ _); (· decide))

theorem onlyIn_takeStrikeDecay (s : State) (p : Port) :
    OnlyIn [.ports] s (s.takeStrikeDecay p) := by
  simp only [State.takeStrikeDecay]
  repeat' split
  all_goals
    repeat with_reducible first
      | apply OnlyIn.refl
      | (apply OnlyIn.step (onlyIn_setPort _ _ _); (· decide))

theorem onlyIn_takeAutoSweep (s : State) :
    OnlyIn [.sweep] s (s.takeAutoSweep) := by
  simp only [State.takeAutoSweep]
  repeat' split
  all_goals
    repeat with_reducible first
      | apply OnlyIn.refl
      | (apply OnlyIn.step (onlyIn_setSweep _ _); (· decide))
      | (apply OnlyIn.step (onlyIn_startSweep _ _ _ _); (· decide))

theorem onlyIn_takeSweepTake (s : State) :
    OnlyIn [.ports, .probes, .mgmt, .sweep] s (s.takeSweepTake) := by
  simp only [State.takeSweepTake]
  repeat' split
  all_goals
    repeat with_reducible first
      | apply OnlyIn.refl
      | (apply OnlyIn.step (onlyIn_takeSweepPort _); (· decide))

theorem onlyIn_takeSilPress (s : State) :
    OnlyIn [.mgmt, .panel] s (s.takeSilPress) := by
  simp only [State.takeSilPress, State.flagKey, State.stopBuzzer, State.raisePanel]
  all_goals
    repeat with_reducible first
      | apply OnlyIn.refl
      | (apply OnlyIn.step (onlyIn_raise _ _); (· decide))
      | (apply OnlyIn.step (onlyIn_setPanel _ _); (· decide))
      | (apply OnlyIn.step (onlyIn_setMgmt _ _); (· decide))

theorem onlyIn_takeRelPress (s : State) :
    OnlyIn [.mgmt, .panel] s (s.takeRelPress) := by
  simp only [State.takeRelPress, State.flagKey]
  all_goals
    repeat with_reducible first
      | apply OnlyIn.refl
      | (apply OnlyIn.step (onlyIn_setPanel _ _); (· decide))
      | (apply OnlyIn.step (onlyIn_setMgmt _ _); (· decide))

theorem onlyIn_takeRelRelease (s : State) :
    OnlyIn [.ports, .probes, .control, .trips, .mgmt] s (s.takeRelRelease) := by
  simp only [State.takeRelRelease, State.releaseHead, State.raisePanel]
  repeat' split
  all_goals
    repeat with_reducible first
      | apply OnlyIn.refl
      | (apply OnlyIn.step (onlyIn_raise _ _); (· decide))
      | (apply OnlyIn.step (onlyIn_release _ _); (· decide))

theorem onlyIn_takeTwoKey (s : State) :
    OnlyIn [.ports, .probes, .control, .trips, .mgmt, .panel] s (s.takeTwoKey) := by
  simp only [State.takeTwoKey, State.raisePanel]
  repeat' split
  all_goals
    repeat with_reducible first
      | apply OnlyIn.refl
      | (apply OnlyIn.step (onlyIn_raise _ _); (· decide))
      | (apply OnlyIn.step (onlyIn_roomRelease _); (· decide))
      | (apply OnlyIn.step (onlyIn_setPanel _ _); (· decide))

theorem onlyIn_takeBuzzerExpiry (s : State) :
    OnlyIn [.panel] s (s.takeBuzzerExpiry) := by
  simp only [State.takeBuzzerExpiry, State.stopBuzzer]
  repeat' split
  all_goals
    repeat with_reducible first
      | apply OnlyIn.refl
      | (apply OnlyIn.step (onlyIn_setPanel _ _); (· decide))

theorem onlyIn_takeFrameTimeout (s : State) :
    OnlyIn [.mgmt] s (s.takeFrameTimeout) := by
  simp only [State.takeFrameTimeout]
  repeat' split
  all_goals
    repeat with_reducible first
      | apply OnlyIn.refl
      | (apply OnlyIn.step (onlyIn_setMgmt _ _); (· decide))

theorem onlyIn_takeLinkBreak (s : State) :
    OnlyIn [.mgmt] s (s.takeLinkBreak) := by
  simp only [State.takeLinkBreak]
  repeat' split
  all_goals
    repeat with_reducible first
      | apply OnlyIn.refl
      | (apply OnlyIn.step (onlyIn_setMgmt _ _); (· decide))

/-! ### The step reports -/

theorem onlyIn_applyTally (s : State) (p : Port) (u : TallyUse) :
    OnlyIn [.tallies, .mgmt] s (s.applyTally p u) := by
  simp only [State.applyTally]
  repeat' split
  all_goals
    repeat with_reducible first
      | apply OnlyIn.refl
      | (apply OnlyIn.step (onlyIn_setMgmt _ _); (· decide))
      | (apply OnlyIn.step (onlyIn_setTally _ _ _); (· decide))

theorem onlyIn_stepMeters (s : State) (p : Port) (c : PerClass Nat) : OnlyIn [.meters] s (s.stepMeters p c) :=
  onlyIn_setPortMeters s p _

theorem onlyIn_stepBaselines (s : State) (p : Port) : OnlyIn [.meters] s (s.stepBaselines p) :=
  OnlyIn.ite (onlyIn_setPortMeters s p _) (OnlyIn.refl _ s)

theorem onlyIn_stepPort (slot : Byte) (baseline : Bool) (s : State) (p : Port) :
    OnlyIn [.meters, .tallies, .reports, .mgmt] s (State.stepPort slot baseline s p) := by
  simp only [State.stepPort]
  repeat' split
  all_goals
    repeat with_reducible first
      | apply OnlyIn.refl
      | (apply OnlyIn.step (onlyIn_stepBaselines _ _); (· decide))
      | (apply OnlyIn.step (onlyIn_setReport _ _ _); (· decide))
      | (apply OnlyIn.step (onlyIn_stepMeters _ _ _); (· decide))
      | (apply OnlyIn.step (onlyIn_applyTally _ _ _); (· decide))
      | (apply OnlyIn.step (onlyIn_setTally _ _ _); (· decide))

theorem onlyIn_stepPorts (s : State) : OnlyIn [.meters, .tallies, .reports, .mgmt] s s.stepPorts :=
  OnlyIn.foldl (onlyIn_stepPort _ _) _ s

theorem onlyIn_handReport (s : State) (p : Port) :
    OnlyIn [.ports, .probes, .control, .trips, .evidence, .mgmt, .panel] s (s.handReport p) := by
  simp only [State.handReport]
  repeat' split
  all_goals
    repeat with_reducible first
      | apply OnlyIn.refl
      | (apply OnlyIn.step (onlyIn_actOnReport _ _ _); (· decide))

theorem onlyIn_handReports (l : List Port) (s : State) :
    OnlyIn [.ports, .probes, .control, .trips, .evidence, .mgmt, .panel] s (l.foldl State.handReport s) :=
  OnlyIn.foldl onlyIn_handReport l s

theorem onlyIn_meterWork (s : State) (firstSlot : Bool) :
    OnlyIn [.meters, .tallies, .reports, .ports, .probes, .control, .trips, .evidence, .mgmt, .panel] s
      (s.meterWork firstSlot) :=
  OnlyIn.ite (OnlyIn.refl _ s) (OnlyIn.step (onlyIn_handReports _ _) (by decide) ((onlyIn_stepPorts s).mono (by decide)))

theorem onlyIn_handUntilCalm : ∀ (l : List Port) (s : State),
    OnlyIn [.ports, .probes, .control, .trips, .evidence, .mgmt, .panel, .due] s (s.handUntilCalm l)
  | [], s => OnlyIn.refl _ s
  | p :: rest, s => by
    simp only [State.handUntilCalm]
    repeat' split
    · exact OnlyIn.step (onlyIn_pushDue _ _) (by decide) (OnlyIn.step (onlyIn_pushDue _ _) (by decide)
        ((onlyIn_judgeReport s p _).mono (by decide)))
    · exact ((onlyIn_judgeReport s p _).mono (by decide)).trans (onlyIn_handUntilCalm rest _)
    · exact onlyIn_handUntilCalm rest s

/-! ### Taking the events -/

/-- No event but the second expiry changes which events are due. -/
theorem onlyIn_takeEvent_of_ne (s : State) (e : Event) (h : e ≠ .second) :
    OnlyIn [.timer, .receiver, .control, .grace, .stations, .probes, .sweep, .ports, .trips, .evidence, .panel, .mgmt] s
      (s.takeEvent e) :=
  match e, h with
  | .second, h => absurd rfl h
  | .fabricLost, _ => (onlyIn_takeFabricLost s).mono (by decide)
  | .calmHold p, _ => (onlyIn_takeCalmHold s p).mono (by decide)
  | .probeExpired o, _ => (onlyIn_takeProbeExpiry s o).mono (by decide)
  | .retireEnd, _ => (onlyIn_takeRetireEnd s).mono (by decide)
  | .holdOff p, _ => (onlyIn_takeHoldOff s p).mono (by decide)
  | .strikeDecay p, _ => (onlyIn_takeStrikeDecay s p).mono (by decide)
  | .grace, _ => (onlyIn_raise s _).mono (by decide)
  | .autoSweep, _ => (onlyIn_takeAutoSweep s).mono (by decide)
  | .sweepTake, _ => (onlyIn_takeSweepTake s).mono (by decide)
  | .silPress, _ => (onlyIn_takeSilPress s).mono (by decide)
  | .relPress, _ => (onlyIn_takeRelPress s).mono (by decide)
  | .relRelease, _ => (onlyIn_takeRelRelease s).mono (by decide)
  | .silRelease, _ => OnlyIn.refl _ s
  | .twoKey, _ => (onlyIn_takeTwoKey s).mono (by decide)
  | .buzzer, _ => (onlyIn_takeBuzzerExpiry s).mono (by decide)
  | .frameTimeout, _ => (onlyIn_takeFrameTimeout s).mono (by decide)
  | .linkBreak, _ => (onlyIn_takeLinkBreak s).mono (by decide)
  | .reports p, _ => (onlyIn_handReports (portsAbove p) s).mono (by decide)
  | .admission, _ => (onlyIn_admit s).mono (by decide)

/-- No event of an expiry touches the profile, the meters, the tallies, the step reports or the waiting commands. -/
theorem onlyIn_takeEvent (s : State) (e : Event) :
    OnlyIn [.timer, .receiver, .control, .grace, .stations, .probes, .sweep, .ports, .trips, .evidence, .panel, .mgmt,
      .due] s (s.takeEvent e) := by
  by_cases h : e = .second
  · subst h; exact (onlyIn_takeSecond s).mono (by decide)
  · exact (onlyIn_takeEvent_of_ne s e h).mono (by decide)

theorem onlyIn_takeDue (s : State) (e : Event) :
    OnlyIn [.timer, .receiver, .control, .grace, .stations, .probes, .sweep, .ports, .trips, .evidence, .panel, .mgmt,
      .due] s (s.takeDue e) :=
  OnlyIn.ite (OnlyIn.step (onlyIn_takeEvent _ e) (by decide) ((onlyIn_setDue s _).mono (by decide))) (OnlyIn.refl _ s)

/-- An event of the step reports taken changes what a report acted on may change. -/
theorem onlyIn_takeDue_of_reports (s : State) (e : Event) (h : e.ofReports = true) :
    OnlyIn [.ports, .probes, .control, .trips, .evidence, .mgmt, .panel, .due] s (s.takeDue e) := by
  have due := (onlyIn_setDue s (s.due.erase e)).mono
    (show [Part.due] ⊆ [.ports, .probes, .control, .trips, .evidence, .mgmt, .panel, .due] by decide)
  refine OnlyIn.ite (due.trans ?_) (OnlyIn.refl _ s)
  match e, h with
  | .calmHold p, _ => exact (onlyIn_takeCalmHold _ p).mono (by decide)
  | .reports p, _ => exact (onlyIn_handReports (portsAbove p) _).mono (by decide)

theorem onlyIn_finishReports (s : State) :
    OnlyIn [.ports, .probes, .control, .trips, .evidence, .mgmt, .panel, .due] s s.finishReports := by
  have key : ∀ (l : List Event) (u : State), (∀ e ∈ l, e.ofReports = true) →
      OnlyIn [.ports, .probes, .control, .trips, .evidence, .mgmt, .panel, .due] u (l.foldl State.takeDue u) := by
    intro l
    induction l with
    | nil => exact fun u _ => OnlyIn.refl _ u
    | cons e rest ih =>
      intro u h
      exact (onlyIn_takeDue_of_reports u e (h e (List.mem_cons_self ..))).trans
        (ih _ fun x hx => h x (List.mem_cons_of_mem _ hx))
  exact key _ s fun e he => (List.mem_filter.1 he).2

/-- An event of the step reports taken leaves the due list and brings about no other. -/
theorem due_takeDue_of_reports (s : State) (e : Event) (h : e.ofReports = true) : (s.takeDue e).due = s.due.erase e := by
  unfold State.takeDue
  split
  · match e, h with
    | .calmHold p, _ => exact onlyIn_takeCalmHold _ p .due (by decide)
    | .reports p, _ => exact onlyIn_handReports (portsAbove p) _ .due (by decide)
  · exact (List.erase_of_not_mem ‹_›).symm

/-- Finishing the step reports takes their events from the due list and leaves every other in its place. -/
theorem due_finishReports (s : State) : s.finishReports.due = s.due.filter fun e => !e.ofReports := by
  have fold : ∀ (l : List Event) (u : State), (∀ e ∈ l, e.ofReports = true) → (l.foldl State.takeDue u).due = u.due.diff l := by
    intro l
    induction l with
    | nil => exact fun u _ => rfl
    | cons e rest ih =>
      intro u h
      rw [List.foldl_cons, ih _ fun x hx => h x (List.mem_cons_of_mem _ hx),
        due_takeDue_of_reports u e (h e (List.mem_cons_self ..)), List.diff_cons]
  have diff : ∀ l : List Event, l.diff (l.filter Event.ofReports) = l.filter fun e => !e.ofReports := by
    intro l
    induction l with
    | nil => rfl
    | cons a rest ih =>
      by_cases h : a.ofReports = true
      · simp [h, List.diff_cons, ih]
      · rw [List.filter_cons_of_neg h, List.cons_diff_of_not_mem (by simp [h]), ih]
        simp [h]
  exact (fold _ s fun e he => (List.mem_filter.1 he).2).trans (diff s.due)

theorem reportsDone_finishReports (s : State) : ReportsDone s.finishReports := fun e he => by
  rw [due_finishReports] at he
  simpa using (List.mem_filter.1 he).2

/-- With no step report waiting there is none to finish. -/
theorem finishReports_of_none (s : State) (h : ReportsDone s) : s.finishReports = s := by
  have : s.due.filter Event.ofReports = [] := List.filter_eq_nil_iff.2 fun e he => by simp [h e he]
  simp [State.finishReports, this]

/-- With no step report waiting an event that comes after them is taken as it stands. -/
theorem takeAfterReports_of_done (s : State) (e : Event) (h : ReportsDone s) : s.takeAfterReports e = s.takeDue e := by
  unfold State.takeAfterReports State.takeDue
  rw [finishReports_of_none s h]
  split <;> rfl

theorem onlyIn_takeAfterReports (s : State) (e : Event) :
    OnlyIn [.timer, .receiver, .control, .grace, .stations, .probes, .sweep, .ports, .trips, .evidence, .panel, .mgmt,
      .due] s (s.takeAfterReports e) :=
  OnlyIn.ite (((onlyIn_finishReports s).mono (by decide)).trans (onlyIn_takeDue _ e)) (OnlyIn.refl _ s)

theorem onlyIn_close (s : State) :
    OnlyIn [.timer, .receiver, .control, .grace, .stations, .probes, .sweep, .ports, .trips, .evidence, .panel, .mgmt,
      .due] s s.close := by
  have rest : OnlyIn [.timer, .receiver, .control, .grace, .stations, .probes, .sweep, .ports, .trips, .evidence, .panel,
      .mgmt, .due] s (((s.finishReports.takeDue .second).due.filter fun e => e != .second && e != .admission).foldl
        State.takeEvent ((s.finishReports.takeDue .second).setDue [])) := by
    refine OnlyIn.trans ?_ (OnlyIn.foldl onlyIn_takeEvent _ _)
    exact OnlyIn.step (onlyIn_setDue _ _) (by decide)
      (((onlyIn_finishReports s).mono (by decide)).trans (onlyIn_takeDue _ .second))
  exact OnlyIn.ite (rest.trans ((onlyIn_admit _).mono (by decide))) rest

/-- Closing an expiry leaves no event due. -/
@[simp] theorem close_due (s : State) : s.close.due = [] := by
  have key : ∀ (l : List Event) (u : State), (∀ e ∈ l, e ≠ .second) → (l.foldl State.takeEvent u).due = u.due := by
    intro l
    induction l with
    | nil => exact fun u _ => rfl
    | cons e rest ih =>
      intro u h
      rw [List.foldl_cons, ih _ fun x hx => h x (List.mem_cons_of_mem _ hx)]
      exact onlyIn_takeEvent_of_ne u e (h e (List.mem_cons_self ..)) .due (by decide)
  unfold State.close
  dsimp only
  split
  · rw [onlyIn_admit _ .due (by decide), key _ _ (by simp +contextual)]
    rfl
  · rw [key _ _ (by simp +contextual)]
    rfl

/-- With no event due there is nothing to close. -/
theorem close_of_due_nil (s : State) (h : s.due = []) : s.close = s := by
  have done : s.finishReports = s := finishReports_of_none s (by simp [ReportsDone, h])
  unfold State.close
  rw [done]
  cases s
  simp_all [State.takeDue, State.setDue]

@[simp] theorem close_close (s : State) : s.close.close = s.close := close_of_due_nil _ (close_due s)

@[simp] theorem close_pending (s : State) : s.close.pending = s.pending := onlyIn_close s .pending (by decide)

/-! ### The works of a slot expiry -/

theorem onlyIn_advanceTimer (s : State) :
    OnlyIn [.timer, .due] s (s.advanceTimer) := by
  simp only [State.advanceTimer]
  repeat' split
  all_goals
    repeat with_reducible first
      | apply OnlyIn.refl
      | (apply OnlyIn.step (onlyIn_pushDue _ _); (· decide))
      | (apply OnlyIn.step (onlyIn_setTimer _ _); (· decide))

theorem onlyIn_countHunt (s : State) :
    OnlyIn [.receiver, .due] s (s.countHunt) := by
  simp only [State.countHunt]
  repeat' split
  all_goals
    repeat with_reducible first
      | apply OnlyIn.refl
      | (apply OnlyIn.step (onlyIn_pushDue _ _); (· decide))
      | (apply OnlyIn.step (onlyIn_setReceiver _ _); (· decide))

theorem onlyIn_countRetire (s : State) :
    OnlyIn [.probes, .due] s (s.countRetire) := by
  simp only [State.countRetire]
  repeat' split
  all_goals
    repeat with_reducible first
      | apply OnlyIn.refl
      | (apply OnlyIn.step (onlyIn_pushDue _ _); (· decide))
      | (apply OnlyIn.step (onlyIn_setProbes _ _); (· decide))

theorem onlyIn_countPacing (s : State) :
    OnlyIn [.sweep, .due] s (s.countPacing) := by
  simp only [State.countPacing]
  repeat' split
  all_goals
    repeat with_reducible first
      | apply OnlyIn.refl
      | (apply OnlyIn.step (onlyIn_pushDue _ _); (· decide))
      | (apply OnlyIn.step (onlyIn_setSweep _ _); (· decide))

theorem onlyIn_countKeys (s : State) (l : SlotLines) :
    OnlyIn [.panel, .due] s (s.countKeys l) := by
  simp only [State.countKeys]
  all_goals
    repeat with_reducible first
      | apply OnlyIn.refl
      | (apply OnlyIn.step (onlyIn_setDue _ _); (· decide))
      | (apply OnlyIn.step (onlyIn_setPanel _ _); (· decide))

theorem onlyIn_countBuzzer (s : State) :
    OnlyIn [.panel, .due] s (s.countBuzzer) := by
  simp only [State.countBuzzer]
  repeat' split
  all_goals
    repeat with_reducible first
      | apply OnlyIn.refl
      | (apply OnlyIn.step (onlyIn_setDue _ _); (· decide))
      | (apply OnlyIn.step (onlyIn_setPanel _ _); (· decide))

theorem onlyIn_countFrameAge (s : State) :
    OnlyIn [.mgmt, .due] s (s.countFrameAge) := by
  simp only [State.countFrameAge]
  repeat' split
  all_goals
    repeat with_reducible first
      | apply OnlyIn.refl
      | (apply OnlyIn.step (onlyIn_pushDue _ _); (· decide))
      | (apply OnlyIn.step (onlyIn_setMgmt _ _); (· decide))

theorem onlyIn_countBreak (s : State) (low : Bool) :
    OnlyIn [.mgmt, .due] s (s.countBreak low) := by
  simp only [State.countBreak]
  repeat' split
  all_goals
    repeat with_reducible first
      | apply OnlyIn.refl
      | (apply OnlyIn.step (onlyIn_pushDue _ _); (· decide))
      | (apply OnlyIn.step (onlyIn_setMgmt _ _); (· decide))

theorem onlyIn_openSlot (s : State) : OnlyIn [.control] s s.openSlot := onlyIn_setControl s _

theorem onlyIn_countSlot (s : State) (l : SlotLines) :
    OnlyIn [.timer, .control, .receiver, .probes, .sweep, .panel, .mgmt, .due] s (s.countSlot l) := by
  simp only [State.countSlot]
  all_goals
    repeat with_reducible first
      | apply OnlyIn.refl
      | (apply OnlyIn.step (onlyIn_countBreak _ _); (· decide))
      | (apply OnlyIn.step (onlyIn_countFrameAge _); (· decide))
      | (apply OnlyIn.step (onlyIn_countBuzzer _); (· decide))
      | (apply OnlyIn.step (onlyIn_countKeys _ _); (· decide))
      | (apply OnlyIn.step (onlyIn_countPacing _); (· decide))
      | (apply OnlyIn.step (onlyIn_countRetire _); (· decide))
      | (apply OnlyIn.step (onlyIn_countProbes _); (· decide))
      | (apply OnlyIn.step (onlyIn_countHunt _); (· decide))
      | (apply OnlyIn.step (onlyIn_openSlot _); (· decide))
      | (apply OnlyIn.step (onlyIn_advanceTimer _); (· decide))

theorem onlyIn_takeEnded (s : State) :
    OnlyIn [.timer, .receiver, .control, .grace, .stations, .probes, .sweep, .ports, .trips, .evidence, .panel, .mgmt,
      .due] s s.takeEnded :=
  OnlyIn.foldl onlyIn_takeDue _ s

theorem onlyIn_admission (s : State) :
    OnlyIn [.timer, .receiver, .control, .grace, .stations, .probes, .sweep, .ports, .trips, .evidence, .panel, .mgmt,
      .due] s s.admission :=
  (onlyIn_takeEnded s).trans ((onlyIn_admit _).mono (by decide))

/-- A slot expiry touches neither the profile nor the waiting commands. -/
theorem onlyIn_slotExpiry (s : State) (lines : SlotLines) (order : ExpiryOrder) :
    OnlyIn [.timer, .receiver, .tallies, .control, .meters, .reports, .grace, .stations, .probes, .sweep, .ports, .trips,
      .evidence, .panel, .mgmt, .due] s (s.slotExpiry lines order) := by
  have he : ∀ (u : State) (b : EventPlace), OnlyIn [.timer, .receiver, .tallies, .control, .meters, .reports, .grace,
      .stations, .probes, .sweep, .ports, .trips, .evidence, .panel, .mgmt, .due] u (u.eventsAt order b) := fun u b =>
    OnlyIn.ite ((onlyIn_close u).mono (by decide)) (OnlyIn.refl _ u)
  simp only [State.slotExpiry, State.slotWorks, State.leaveWorks]
  repeat' split
  all_goals
    repeat with_reducible first
      | apply OnlyIn.refl
      | (apply OnlyIn.step (onlyIn_close _); (· decide))
      | (apply OnlyIn.step (onlyIn_pushDue _ _); (· decide))
      | (apply OnlyIn.step (onlyIn_handUntilCalm _ _); (· decide))
      | (apply OnlyIn.step (onlyIn_stepPorts _); (· decide))
      | (apply OnlyIn.step (onlyIn_admission _); (· decide))
      | (apply OnlyIn.step (onlyIn_meterWork _ _); (· decide))
      | (apply OnlyIn.step (he _ _); (· decide))
      | (apply OnlyIn.step (onlyIn_countSlot _ _); (· decide))

end Sys2Proof.Machine
end

