-- ==== Sys2Proof/Laws/Operations.lean ====
section
/-! SUPPORT. What each shared operation does, field by field, so that a proof about a command cites it and never unfolds it. -/

namespace Sys2Proof.Machine

/-! ### Reading a state that has been changed elsewhere -/

@[simp] theorem port_mem_allPorts (p : Port) : p ∈ allPorts := List.mem_finRange p

theorem nodup_allPorts : allPorts.Nodup := List.nodup_finRange 40

theorem State.port_congr {s t : State} (h : t.ports = s.ports) (p : Port) : t.port p = s.port p := by
  simp [State.port, h]

theorem State.portMeters_congr {s t : State} (h : t.meters = s.meters) (p : Port) : t.portMeters p = s.portMeters p := by
  simp [State.portMeters, h]

theorem State.evidenceOf_congr {s t : State} (h : t.evidence = s.evidence) (p : Port) :
    t.evidenceOf p = s.evidenceOf p := by
  simp [State.evidenceOf, h]

theorem State.report_congr {s t : State} (h : t.reports = s.reports) (p : Port) : t.report p = s.report p := by
  simp [State.report, h]

/-- Two states that agree in every part are one. -/
theorem State.ext_parts {s t : State} (h : ∀ part, SameIn s t part) : t = s := by
  cases s; cases t
  have := h .timer; have := h .receiver; have := h .tallies; have := h .control; have := h .meters
  have := h .reports; have := h .grace; have := h .stations; have := h .probes; have := h .sweep
  have := h .ports; have := h .trips; have := h .evidence; have := h .panel; have := h .mgmt
  have := h .profile; have := h .due; have := h .pending
  simp_all [SameIn]

theorem State.ports_ext {s t : State} (h : ∀ p, t.port p = s.port p) : t.ports = s.ports := by
  ext i hi : 1
  exact h ⟨i, hi⟩

/-! ### Notices -/

theorem raise_noticesOnly (n : Notice) (m : Mgmt) : NoticesOnly m (m.raise n) := by
  unfold NoticesOnly Mgmt.raise
  repeat' split
  all_goals simp [Mgmt.countDropped]

theorem sameKey_comm (a b : Notice) : sameKey a b = sameKey b a := by
  rw [Bool.eq_iff_iff]
  simp only [sameKey, Bool.and_eq_true, beq_iff_eq]
  constructor <;> (rintro ⟨⟨h1, h2⟩, h3⟩; exact ⟨⟨h1.symm, h3 ▸ h2⟩, h3.symm⟩)

/-- Two notices of one key are alike to every third. -/
theorem sameKey_congr {a b : Notice} (h : sameKey a b = true) (c : Notice) : sameKey a c = sameKey b c := by
  simp only [sameKey, Bool.and_eq_true, beq_iff_eq] at h
  simp [sameKey, h.1.1, h.2]

theorem kindEnabled_of_sameKey {a b : Notice} (h : sameKey a b = true) (mask : Half) :
    kindEnabled mask a = kindEnabled mask b := by
  simp only [sameKey, Bool.and_eq_true, beq_iff_eq] at h
  simp [kindEnabled, h.1.1]

theorem length_coalesce (n : Notice) (l : List QueuedNotice) : (coalesce n l).length = l.length := by
  induction l with
  | nil => rfl
  | cons q rest ih => unfold coalesce; split <;> simp [ih]

/-- A notice of the coalesced queue stood there before, or is the new body in the place of one of its key. -/
theorem mem_coalesce {n : Notice} {l : List QueuedNotice} {x : QueuedNotice} (h : x ∈ coalesce n l) :
    x ∈ l ∨ x.notice = n ∧ ∃ q ∈ l, sameKey n q.notice = true ∧ x.repeats = min (q.repeats + 1) 255 := by
  induction l with
  | nil => simp [coalesce] at h
  | cons q rest ih =>
    unfold coalesce at h
    split at h
    · rcases List.mem_cons.1 h with rfl | h
      · exact .inr ⟨rfl, q, by simp, ‹_›, rfl⟩
      · exact .inl (by simp [h])
    · rcases List.mem_cons.1 h with rfl | h
      · exact .inl (by simp)
      · rcases ih h with h | ⟨h, r, hr, hk⟩
        · exact .inl (by simp [h])
        · exact .inr ⟨h, r, by simp [hr], hk⟩

theorem pairwise_coalesce (n : Notice) (l : List QueuedNotice)
    (h : l.Pairwise fun a b => sameKey a.notice b.notice = false) :
    (coalesce n l).Pairwise fun a b => sameKey a.notice b.notice = false := by
  induction l with
  | nil => exact .nil
  | cons q rest ih =>
    obtain ⟨hq, hr⟩ := List.pairwise_cons.1 h
    unfold coalesce
    split
    · rename_i hk
      exact List.pairwise_cons.2 ⟨fun x hx => (sameKey_congr hk x.notice).trans (hq x hx), hr⟩
    · rename_i hk
      refine List.pairwise_cons.2 ⟨fun x hx => ?_, ih hr⟩
      rcases mem_coalesce hx with hx | ⟨rfl, -⟩
      · exact hq x hx
      · rw [sameKey_comm]; simpa using hk

theorem mem_dropYoungest {rank : Nat} {l : List QueuedNotice} {x : QueuedNotice} (h : x ∈ dropYoungest rank l) : x ∈ l := by
  simpa using List.eraseP_subset (List.mem_reverse.1 h)

theorem dropYoungest_sublist (rank : Nat) (l : List QueuedNotice) : (dropYoungest rank l).Sublist l := by
  have h := (List.eraseP_sublist (p := fun e : QueuedNotice => e.rank == rank) (l := l.reverse)).reverse
  rwa [List.reverse_reverse] at h

/-- The lowest class present is that of some notice of a queue that is not empty. -/
theorem exists_lowestRank (l : List QueuedNotice) (h : l ≠ []) : ∃ x ∈ l, x.rank = lowestRank l := by
  have hr : ∀ q : QueuedNotice, q.rank ≤ 3 := fun q => by
    unfold QueuedNotice.rank; cases classOfNotice q.notice <;> simp [NoticeClass.rank]
  have key : ∀ (l : List QueuedNotice) (a : Nat),
      l.foldl (fun r e => min r e.rank) a = a ∨ ∃ x ∈ l, x.rank = l.foldl (fun r e => min r e.rank) a := by
    intro l
    induction l with
    | nil => exact fun a => .inl rfl
    | cons q rest ih =>
      intro a
      rcases ih (min a q.rank) with h | ⟨x, hx, h⟩
      · rcases Nat.le_total a q.rank with hle | hle
        · exact .inl (by simpa [Nat.min_eq_left hle] using h)
        · exact .inr ⟨q, by simp, by simpa [Nat.min_eq_right hle] using h.symm⟩
      · exact .inr ⟨x, by simp [hx], h⟩
  rcases key l 3 with h3 | h3
  · obtain ⟨q, rest, rfl⟩ := List.exists_cons_of_ne_nil h
    refine ⟨q, by simp, Nat.le_antisymm (Nat.le_trans (hr q) (Nat.le_of_eq h3.symm)) ?_⟩
    have mono : ∀ (l : List QueuedNotice) (a : Nat), l.foldl (fun r e => min r e.rank) a ≤ a := by
      intro l
      induction l with
      | nil => exact fun a => Nat.le_refl a
      | cons q rest ih => exact fun a => Nat.le_trans (ih _) (Nat.min_le_left _ _)
    exact Nat.le_trans (mono rest _) (Nat.min_le_right _ _)
  · exact h3

theorem length_dropYoungest (l : List QueuedNotice) (h : l ≠ []) :
    (dropYoungest (lowestRank l) l).length = l.length - 1 := by
  obtain ⟨x, hx, hr⟩ := exists_lowestRank l h
  simp only [dropYoungest, List.length_reverse]
  rw [List.length_eraseP_of_mem (a := x) (by simpa using hx) (by simpa using hr)]
  simp

/-- Raising a notice keeps the queue sound. -/
theorem raise_sound (n : Notice) (m : Mgmt) (h : NoticeQueueSound m) : NoticeQueueSound (m.raise n) := by
  obtain ⟨hl, hp, hm⟩ := h
  unfold Mgmt.raise
  split
  · exact ⟨hl, hp, hm⟩
  rename_i hen
  have hen : kindEnabled m.mask n = true := by simpa using hen
  split
  · refine ⟨by simpa [length_coalesce] using hl, pairwise_coalesce n _ hp, fun x hx => ?_⟩
    rcases mem_coalesce hx with hx | ⟨hn, q, hq, -, hrep⟩
    · exact hm x hx
    · have := hm q hq
      exact ⟨by omega, by omega, by rw [hn]; exact hen⟩
  rename_i hany
  have hnk : ∀ q ∈ m.queue, sameKey q.notice n = false := fun q hq => by
    rw [sameKey_comm]; simpa using fun hk => hany (List.any_eq_true.2 ⟨q, hq, hk⟩)
  have hadd : ∀ l : List QueuedNotice, l.Sublist m.queue → l.length < 16 →
      (l ++ [(⟨n, 1⟩ : QueuedNotice)]).length ≤ 16 ∧
      (l ++ [(⟨n, 1⟩ : QueuedNotice)]).Pairwise (fun a b => sameKey a.notice b.notice = false) ∧
      ∀ q ∈ l ++ [(⟨n, 1⟩ : QueuedNotice)], 1 ≤ q.repeats ∧ q.repeats ≤ 255 ∧ kindEnabled m.mask q.notice = true := by
    intro l hs hlen
    refine ⟨by simpa using hlen, List.pairwise_append.2 ⟨hp.sublist hs, by simp, fun a ha b hb => ?_⟩, fun q hq => ?_⟩
    · rw [List.mem_singleton.1 hb]; exact hnk a (hs.subset ha)
    · rcases List.mem_append.1 hq with hq | hq
      · exact hm q (hs.subset hq)
      · rw [List.mem_singleton.1 hq]; exact ⟨Nat.le_refl 1, show 1 ≤ 255 by decide, hen⟩
  split
  · exact hadd m.queue (List.Sublist.refl _) ‹_›
  · split
    · refine hadd _ (dropYoungest_sublist _ _) ?_
      rw [length_dropYoungest _ (by intro h0; simp_all)]
      omega
    · exact ⟨hl, hp, hm⟩

@[simp] theorem raise_flags_tripped (n : Notice) (m : Mgmt) : (m.raise n).flags.tripped = m.flags.tripped := by
  rw [raise_noticesOnly n m]

@[simp] theorem raise_requests (n : Notice) (m : Mgmt) : (m.raise n).requests = m.requests := by rw [raise_noticesOnly n m]

@[simp] theorem raise_reply (n : Notice) (m : Mgmt) : (m.raise n).reply = m.reply := by rw [raise_noticesOnly n m]

@[simp] theorem raise_mask (n : Notice) (m : Mgmt) : (m.raise n).mask = m.mask := by rw [raise_noticesOnly n m]

@[simp] theorem raise_receiver (n : Notice) (m : Mgmt) : (m.raise n).receiver = m.receiver := by rw [raise_noticesOnly n m]

@[simp] theorem raise_mgmt (s : State) (n : Notice) : (s.raise n).mgmt = s.mgmt.raise n := rfl

@[simp] theorem port_raise (s : State) (n : Notice) (q : Port) : (s.raise n).port q = s.port q := rfl

@[simp] theorem raise_second (s : State) (n : Notice) : (s.raise n).second = s.second := rfl

/-! ### The link made TALKING -/

@[simp] theorem heard_talking (m : Mgmt) : m.heard.talking = true := rfl

@[simp] theorem heard_requests (m : Mgmt) : m.heard.requests = m.requests := rfl

@[simp] theorem heard_reply (m : Mgmt) : m.heard.reply = m.reply := rfl

@[simp] theorem heard_queue (m : Mgmt) : m.heard.queue = m.queue := rfl

@[simp] theorem heard_mask (m : Mgmt) : m.heard.mask = m.mask := rfl

@[simp] theorem heard_line (m : Mgmt) : m.heard.line = m.line := rfl

@[simp] theorem heard_flags (m : Mgmt) : m.heard.flags = m.flags := rfl

@[simp] theorem heard_heard (m : Mgmt) : m.heard.heard = m.heard := rfl

/-- A link that is TALKING already is left as it stands. -/
theorem heard_of_talking {m : Mgmt} (h : m.talking = true) : m.heard = m := by
  cases m; cases h; rfl

/-- A notice raised does not read the link state. -/
theorem raise_heard (n : Notice) (m : Mgmt) : (m.raise n).heard = m.heard.raise n := by
  unfold Mgmt.raise
  simp only [heard_mask, heard_queue]
  by_cases h1 : (!kindEnabled m.mask n) = true <;>
    by_cases h2 : (m.queue.any fun q => sameKey n q.notice) = true <;>
    by_cases h3 : m.queue.length < 16 <;>
    by_cases h4 : lowestRank m.queue < (classOfNotice n).rank <;>
    simp only [h1, h2, h3, h4, ↓reduceIte] <;> rfl

/-! ### Purposes concluded VOID (R77, R78) -/

/-- Purposes concluded VOID count a SWEEP skipped and answer a HOST, whatever their port's state. -/
theorem conclude_void (s : State) (p : Port) (u : Purposes) : s.conclude p u .void none = Voided p u s := by
  have second : ∀ n : Byte, (s.deliverSweep n .void).timer = s.timer := fun n =>
    onlyIn_deliverSweep s n .void .timer (by decide)
  have void : ∀ x : PortState, hostOutcome x .void = .void := fun x => by cases x <;> rfl
  unfold State.conclude State.concludeLinkup State.concludeSweep State.concludeRecover State.concludeHost Voided
  cases u.sweep <;> cases u.host <;> simp [void, State.raiseCheckDone, State.raise, State.second, second]

/-- A want set emptied at a link-down or a role change. -/
theorem voidWants_eq (s : State) (p : Port) : s.voidWants p =
    Voided p (s.port p).wants (s.setPort p { s.port p with wants := Purposes.empty }) :=
  conclude_void _ p _

/-- A request taken at once: its frame is heard, its owning block answers, and the reply fills the slot (R158, R162). -/
theorem request_of_takes {s : State} (h : TakesRequests s) (kind tag : Byte) (flush : Bool) (f : State → Answer) :
    s.request kind tag flush f = (f (s.setMgmt s.mgmt.heard)).fill (kind + 0x80) tag flush := by
  simp [State.request, h.2.1, h.2.2]

/-! ### A port's record through a change of its purposes or its state -/

theorem port_mapPurposes (s : State) (p q : Port) (f : Purposes → Purposes) :
    (s.mapPurposes p f).port q = if p = q then { s.port p with wants := f (s.port p).wants } else s.port q :=
  State.port_setPort s p q _

theorem port_leaveState_of_ne {p q : Port} (s : State) (h : q ≠ p) : (s.leaveState p).port q = s.port q := by
  unfold State.leaveState
  split <;> simp [port_mapPurposes, h.symm]

/-- Leaving a state changes nothing of a port's record but its purposes. -/
theorem port_leaveState_self (s : State) (p : Port) :
    (s.leaveState p).port p = { s.port p with wants := ((s.leaveState p).port p).wants } := by
  unfold State.leaveState
  split <;> simp [port_mapPurposes]

theorem enter_ports (s : State) (p : Port) (new : PortState) : (s.enter p new).ports =
    ((s.leaveState p).setPort p
      { (s.leaveState p).port p with state := new, holdOff := 0, calm := 0, decay := 0 }).ports := by
  simp only [State.enter, State.pendGate]
  split <;> split <;> rfl

theorem port_enter_of_ne {p q : Port} (s : State) (new : PortState) (h : q ≠ p) : (s.enter p new).port q = s.port q := by
  rw [State.port_congr (enter_ports s p new), State.port_setPort_of_ne _ _ _ _ h.symm, port_leaveState_of_ne s h]

theorem port_enter_self (s : State) (p : Port) (new : PortState) :
    (s.enter p new).port p = { s.port p with
      state := new, holdOff := 0, calm := 0, decay := 0, wants := ((s.leaveState p).port p).wants } := by
  rw [State.port_congr (enter_ports s p new), State.port_setPort_self, port_leaveState_self]

theorem enter_control (s : State) (p : Port) (new : PortState) : (s.enter p new).control =
    if gateOf (s.port p).state = gateOf new then s.control
    else { s.control with pendingGate := s.control.pendingGate.set p (some (gateOf new)) } := by
  have h : (s.leaveState p).control = s.control := onlyIn_leaveState s p .control (by decide)
  simp only [State.enter, State.pendGate]
  split <;> split <;> simp [h]

theorem enter_trips (s : State) (p : Port) (new : PortState) :
    (s.enter p new).trips = if new.shutForTrip then s.trips else removeTrip p s.trips := by
  have h : (s.leaveState p).trips = s.trips := onlyIn_leaveState s p .trips (by decide)
  simp only [State.enter, State.pendGate]
  split <;> split <;> simp [h]

theorem enter_probes (s : State) (p : Port) (new : PortState) : (s.enter p new).probes = (s.leaveState p).probes := by
  simp only [State.enter, State.pendGate]
  split <;> split <;> rfl

/-! ### Trips -/

theorem trip_ports (s : State) (p : Port) (c : Cause) (e : PortState) (q : Option Port) (r : Option Half) :
    (s.trip p c e q r).ports = (s.enter p e).ports := by
  simp only [State.trip]
  have h := onlyIn_recordTrip ((s.enter p e).setMgmt (s.enter p e).mgmt.flagTripped) p c e q r .ports (by decide)
  split <;> simpa [SameIn, State.startBuzzer] using h

theorem trip_control (s : State) (p : Port) (c : Cause) (e : PortState) (q : Option Port) (r : Option Half) :
    (s.trip p c e q r).control = (s.enter p e).control := by
  simp only [State.trip]
  have h := onlyIn_recordTrip ((s.enter p e).setMgmt (s.enter p e).mgmt.flagTripped) p c e q r .control (by decide)
  split <;> simpa [SameIn, State.startBuzzer] using h

theorem trip_probes (s : State) (p : Port) (c : Cause) (e : PortState) (q : Option Port) (r : Option Half) :
    (s.trip p c e q r).probes = (s.enter p e).probes := by
  simp only [State.trip]
  have h := onlyIn_recordTrip ((s.enter p e).setMgmt (s.enter p e).mgmt.flagTripped) p c e q r .probes (by decide)
  split <;> simpa [SameIn, State.startBuzzer] using h

/-- A trip into a state of the trip list heads it; a limiting trip leaves it (R111, R112). -/
theorem trip_trips (s : State) (p : Port) (c : Cause) (e : PortState) (q : Option Port) (r : Option Half) :
    (s.trip p c e q r).trips = if e.shutForTrip then { port := p, cause := c, partner := q } :: removeTrip p s.trips
      else removeTrip p s.trips := by
  simp only [State.trip]
  have h := onlyIn_recordTrip ((s.enter p e).setMgmt (s.enter p e).mgmt.flagTripped) p c e q r .trips (by decide)
  have he := enter_trips s p e
  split <;> simp_all [SameIn, State.startBuzzer]

/-- A trip into BLOCKED or HELD starts the buzzer, or stops it at a buzz time of 0 (R153). -/
theorem trip_panel (s : State) (p : Port) (c : Cause) (e : PortState) (q : Option Port) (r : Option Half) :
    (s.trip p c e q r).panel = if e.shutForTrip then s.startBuzzer.panel else s.panel := by
  have h1 := onlyIn_enter s p e .panel (by decide)
  have h2 := onlyIn_enter s p e .profile (by decide)
  have h3 := onlyIn_recordTrip ((s.enter p e).setMgmt (s.enter p e).mgmt.flagTripped) p c e q r .panel (by decide)
  have h4 := onlyIn_recordTrip ((s.enter p e).setMgmt (s.enter p e).mgmt.flagTripped) p c e q r .profile (by decide)
  simp only [State.trip]
  split <;> simp_all [SameIn, State.startBuzzer]

/-- The management link through a trip: TRIPPED, and TRIP for a record that was not latched (R98, R116). -/
theorem trip_mgmt (s : State) (p : Port) (c : Cause) (e : PortState) (q : Option Port) (r : Option Half) :
    (s.trip p c e q r).mgmt = match (s.evidenceOf p).capture with
      | none => s.mgmt.flagTripped.raise (.trip p c e q (s.port p).strikes s.second)
      | some _ => s.mgmt.flagTripped := by
  have h1 := onlyIn_enter s p e .mgmt (by decide)
  have h2 : (s.enter p e).evidenceOf p = s.evidenceOf p := State.evidenceOf_congr (onlyIn_enter s p e .evidence (by decide)) p
  have h3 : (s.enter p e).second = s.second := congrArg SlotTimer.secondCount (onlyIn_enter s p e .timer (by decide))
  have h4 : ((s.enter p e).port p).strikes = (s.port p).strikes := by rw [port_enter_self]
  simp only [SameIn] at h1
  have h5 : ∀ m : Mgmt, ((s.enter p e).setMgmt m).evidenceOf p = s.evidenceOf p := fun m => h2
  have h6 : ∀ m : Mgmt, ((s.enter p e).setMgmt m).port p = (s.enter p e).port p := fun m => rfl
  have h7 : ∀ m : Mgmt, ((s.enter p e).setMgmt m).second = s.second := fun m => h3
  simp only [State.trip, State.recordTrip, h5]
  cases (s.evidenceOf p).capture <;> simp only [h1, h4, h6, h7] <;> split <;> simp [State.startBuzzer, State.raise]

/-- The evidence record of the port through a trip (R133, R134). -/
theorem trip_evidence (s : State) (p : Port) (c : Cause) (e : PortState) (q : Option Port) (r : Option Half) :
    (s.trip p c e q r).evidenceOf p = match (s.evidenceOf p).capture with
      | none => { capture := some (s.captureOf p c e q r), repeats := 0 }
      | some x => { capture := some x, repeats := min ((s.evidenceOf p).repeats + 1) 255 } := by
  have h2 : (s.enter p e).evidenceOf p = s.evidenceOf p := State.evidenceOf_congr (onlyIn_enter s p e .evidence (by decide)) p
  have hc : ∀ m : Mgmt, ((s.enter p e).setMgmt m).captureOf p c e q r = s.captureOf p c e q r := fun m => by
    have h3 : (s.enter p e).timer = s.timer := onlyIn_enter s p e .timer (by decide)
    have h4 : ((s.enter p e).port p).strikes = (s.port p).strikes := by rw [port_enter_self]
    have h5 : (s.enter p e).portMeters p = s.portMeters p :=
      State.portMeters_congr (onlyIn_enter s p e .meters (by decide)) p
    have h6 : (s.enter p e).report p = s.report p := State.report_congr (onlyIn_enter s p e .reports (by decide)) p
    have h7 : ((s.enter p e).setMgmt m).captureOf p c e q r = (s.enter p e).captureOf p c e q r := rfl
    rw [h7, State.captureOf, State.captureOf]
    simp only [State.second, State.stamp, h3, h4, h5, h6]
  have h5 : ∀ m : Mgmt, ((s.enter p e).setMgmt m).evidenceOf p = s.evidenceOf p := fun m => h2
  have hs : ∀ (u : State) (l : List TripItem), (u.startBuzzer.setTrips l).evidenceOf p = u.evidenceOf p := fun _ _ => rfl
  have hr : ∀ (u : State) (n : Notice), (u.raise n).evidenceOf p = u.evidenceOf p := fun _ _ => rfl
  simp only [State.trip, State.recordTrip, h5]
  cases hx : (s.evidenceOf p).capture <;> split <;> simp [hs, hr, hc]

theorem trip_evidence_of_ne {p q : Port} (s : State) (c : Cause) (e : PortState) (x : Option Port) (r : Option Half)
    (h : q ≠ p) : (s.trip p c e x r).evidenceOf q = s.evidenceOf q := by
  have h2 : (s.enter p e).evidenceOf q = s.evidenceOf q := State.evidenceOf_congr (onlyIn_enter s p e .evidence (by decide)) q
  have h5 : ∀ m : Mgmt, ((s.enter p e).setMgmt m).evidenceOf q = s.evidenceOf q := fun m => h2
  have hs : ∀ (u : State) (l : List TripItem), (u.startBuzzer.setTrips l).evidenceOf q = u.evidenceOf q := fun _ _ => rfl
  have hr : ∀ (u : State) (n : Notice), (u.raise n).evidenceOf q = u.evidenceOf q := fun _ _ => rfl
  simp only [State.trip, State.recordTrip]
  split <;> split <;> simp [hs, hr, h5, State.evidenceOf_setEvidenceOf_of_ne _ _ _ _ h.symm]

/-! ### Wants -/

theorem supersede_probes (s : State) (p : Port) (w : Want) (u : Purposes) : (s.supersede p w u).probes = s.probes :=
  onlyIn_supersede s p w u .probes (by decide)

theorem port_supersede (s : State) (p q : Port) (w : Want) (u : Purposes) : (s.supersede p w u).port q = s.port q :=
  State.port_congr (onlyIn_supersede s p w u .ports (by decide)) q

/-- A want set on a port changes nothing of any port's record but the want set of that port. -/
theorem port_setWant (s : State) (p q : Port) (w : Want) :
    (s.setWant p w).port q = { s.port q with wants :=
      if p = q ∧ (s.queuedEntry p).isNone then (s.port p).wants.add w else (s.port q).wants } := by
  unfold State.setWant
  split
  · rename_i e he
    simp [he]
    exact port_supersede s p q w e.purposes
  · by_cases h : p = q
    · subst h; simp_all [State.joinWants, port_supersede]
    · simp [State.joinWants, State.port_setPort_of_ne _ _ _ _ h, port_supersede, h]

theorem setWant_probes (s : State) (p : Port) (w : Want) : (s.setWant p w).probes =
    if (s.queuedEntry p).isSome then { s.probes with list := joinEntry p w s.probes.list } else s.probes := by
  unfold State.setWant
  split <;> simp_all [supersede_probes, State.joinWants]

theorem queuedEntry_isNone_iff (s : State) (p : Port) :
    (s.queuedEntry p).isNone = true ↔ ∀ e ∈ s.probes.list, e.origin = p → e.expiry ≠ none := by
  simp [State.queuedEntry, List.find?_eq_none]

/-- A want set on a port is its purpose joined there, and nothing else of the purposes or of the Probe Engine changes. -/
theorem setWant_joined (s : State) (p : Port) (w : Want) :
    PurposeJoined (fun q => decide (q = p)) (Purposes.add w) s (s.setWant p w) := by
  have iff := queuedEntry_isNone_iff s p
  constructor
  · rw [setWant_probes]
    split
    · simp [joinEntry]
    · rename_i h
      have none := iff.1 (by simpa using h)
      have same : (s.probes.list.map fun e => if decide (e.origin = p) = true ∧ e.expiry = Option.none then
          { e with purposes := e.purposes.add w } else e) = s.probes.list := by
        conv_rhs => rw [← List.map_id s.probes.list]
        exact List.map_congr_left fun e he => by
          by_cases ho : e.origin = p <;> simp [ho, none e he]
      rw [same]
  · intro q
    rw [port_setWant]
    by_cases h : p = q
    · subst h; simp only [decide_true, true_and]; split <;> split <;> simp_all
    · simp [h, Ne.symm h]

end Sys2Proof.Machine
end

