-- ==== Sys2Proof/Tests/Slice0.lean ====
section
/-! SUPPORT. Tests of the model on the spec's own worked examples, and a concrete state and operands that meet the
hypotheses of every statement, clause by clause at the ends of its ranges. -/

namespace Sys2Proof.Tests

open Sys2Proof Sys2Proof.Machine

-- One theorem at a time: each kernel evaluation waits for all that stands before it, and holds a thread while it waits.
set_option Elab.async false

/-! ### Small states -/

/-- The state after reset. -/
def base : State := State.reset

/-- One record in the sighting FIFO. -/
def withRecord (r : SightingRecord) (s : State) : State := s.setReceiver { s.receiver with fifo := [r] }

/-- A port in a given state. -/
def withState (p : Port) (x : PortState) (s : State) : State := s.setPort p { s.port p with state := x }

/-- A port of a given role. -/
def withRole (p : Port) (x : Role) (s : State) : State := s.setPort p { s.port p with role := x }

/-- A port with its link up. -/
def withLink (p : Port) (s : State) : State := s.setPort p { s.port p with linkUp := true }

/-- One event due. -/
def withDue (e : Event) (s : State) : State := s.setDue [e]

/-- One command waiting. -/
def waiting (c : Instr) (s : State) : State := { s with pending := [c] }

/-- A trip item for a port. -/
def withTrip (p : Port) (s : State) : State := s.setTrips [{ port := p, cause := .host, partner := none }]

/-- Another slot count. -/
def atSlot (n : Word) (s : State) : State := s.setTimer { s.timer with slotCount := n, first := false }

/-- The Management Link Controller changed. -/
def withMgmt (f : Mgmt → Mgmt) (s : State) : State := s.setMgmt (f s.mgmt)

/-- A latched evidence record of a port. -/
def withEvidence (p : Port) (s : State) : State :=
  s.setEvidenceOf p
    { capture := some { cause := .host, entered := .held, partner := none, foreign := none, second := 0, stamp := 0,
                        strikes := 0, values := PerClass.same ⟨0, 0, 0⟩, held := false },
      repeats := 254 }

/-- One entry in the probe list, its EMIT order queued while the entry is. -/
def withEntry (e : ProbeEntry) (s : State) : State :=
  (s.setProbes { s.probes with list := [e] }).setControl
    { s.control with
      markWaiting := false, pendingGate := Vector.replicate 40 none,
      emitQueue := if e.expiry.isNone then [{ room := 0, origin := e.origin, tag := e.tag }] else [] }

/-- A probe list entry of origin 5 and tag 41. -/
def entry (p : Purposes) (expiry : Option Half) : ProbeEntry := { tag := 41, origin := 5, purposes := p, expiry := expiry }

/-- A sweep over desks 8 to 14 (section 6.11). -/
def sweepOf (host : Option Byte) (next pacing skipped : Nat) : SweepRecord :=
  { host := host, number := 7, first := 8, last := 14, next := next, pacing := pacing, admitted := 0, clear := 0,
    contained := 0, looped := 0, skipped := skipped }

/-- A sweep in progress. -/
def withSweep (r : SweepRecord) (s : State) : State := s.setSweep { s.sweep with record := some r }

/-- A station entry of address 0x10 at position 0. -/
def station (home : Port) (pinned : Bool) (moves : List Move) : StationEntry :=
  { position := 0, address := 0x10, home := home, lastSeen := 0, pinned := pinned, moves := moves }

/-- One entry in the Station Table. -/
def withStation (e : StationEntry) (s : State) : State := s.setStations [e]

/-- The result of a command, as a test reads one part of it. -/
def after {α : Type} (c : Instr) (s : State) (f : State → α) : Option α :=
  match exec c s with
  | .next t => some (f t)
  | _ => none

/-! ### Well-formedness -/

theorem test_extra_bits_seven_accepted : (Instr.sightingRecordReceive [] 7).wellFormed = true := by decide

theorem test_extra_bits_eight_refused : (Instr.sightingRecordReceive [] 8).wellFormed = false := by decide

/-! ### The spec's worked examples -/

/-- R181: the nine characters "123456789". -/
theorem test_crc_of_digits : crc8 [0x31, 0x32, 0x33, 0x34, 0x35, 0x36, 0x37, 0x38, 0x39] = 0xF4 := by decide +kernel

/-- The meter of worked case A (section 2.2): factory BCAST, B 12, not priming. -/
def caseA : Meter := { Meter.restartedWith factoryMeters.bcast 12 with priming := 0 }

/-- N, E, storm run and severe run after `k` steps with the count `n`. -/
def caseARow (n k : Nat) : Nat × Int × Nat × Nat :=
  let m := (List.replicate k n).foldl (fun m x => m.step factoryMeters.bcast factoryMeters.bcast.desk x) caseA
  (m.level, m.excess, m.stormRun, m.severeRun)

/-- Worked case A, rows 3, 4, 13 and 16, and its note on the largest level. -/
theorem test_case_a : caseARow 40 3 = (480, 468, 0, 0) ∧ caseARow 40 4 = (640, 628, 1, 0) ∧
    caseARow 40 13 = (2080, 2068, 10, 1) ∧ caseARow 40 16 = (2560, 2548, 13, 4) ∧
    (caseARow 255 16).1 = 16320 ∧ (caseARow 255 16).2.1 = 16308 := by decide

/-- Worked case B: N and priming remaining after each step of the TRIANGLE ramp. -/
theorem test_case_b :
    ((List.range 7).map fun k =>
      let c : ClassSetup := { factoryMeters.flood with window := 4, shape := .triangle }
      let m := (List.replicate (k + 1) 10).foldl (fun m x => m.step c c.desk x) (Meter.restartedWith c 0)
      (m.level, m.priming)) =
    [(32, 6), (112, 5), (240, 4), (400, 3), (512, 2), (592, 1), (640, 0)] := by decide

/-- B and E after a baseline step of a factory desk BCAST meter. -/
def caseCRow (b n : Nat) : Nat × Int :=
  let m := { caseA with base := b, level := n, excess := (n : Int) - (b : Int) }.baselineStep factoryMeters.bcast
    factoryMeters.bcast.desk
  (m.base, m.excess)

/-- Worked case C with its note 4. -/
theorem test_case_c : caseCRow 12 60 = (15, 45) ∧ caseCRow 15 0 = (14, -14) ∧ caseCRow 14 29 = (14, 15) ∧
    caseCRow 290 600 = (300, 300) ∧ caseCRow 290 900 = (290, 610) := by decide

/-- The example of section 1.3: four held slots, then zeros. -/
theorem test_tallies_held :
    let t : PortTally := { pending := none, last := ⟨40, 2, 0⟩, held := 3 }
    (t.consume 235).counts = ⟨40, 2, 0⟩ ∧ (t.consume 235).held = true ∧
    ((t.consume 235).tally.consume 236).counts = ⟨0, 0, 0⟩ ∧ ((t.consume 235).tally.consume 236).held = false := by decide

/-- The example of section 10.6: the notices in their order of raising. -/
def pressure : Mgmt :=
  let flaps := (List.range 13).map fun n => Notice.flap (Fin.ofNat 40 (n + 4)) 39 0 0
  let raised : List Notice := [.flap 3 8 0 0, .flap 3 5 0 0, .trip 12 .loop .blocked none 1 0] ++ flaps ++
    [.recovered 20 .limited 0 0, .graceEnd true 0, .foreign 25 1 0, .foreign 25 1 0]
  raised.foldl (fun m n => m.raise n) (Mgmt.start 0)

/-- The example of section 10.6: sixteen notices are left, two are lost, the first sent is TRIP. -/
theorem test_queue_under_pressure : pressure.queue.length = 16 ∧ pressure.dropped = 2 ∧
    pressure.flags.noticeDropped = true ∧
    pressure.queue.head? = some { notice := .flap 3 5 0 0, repeats := 2 } ∧
    pressure.queue.getLast? = some { notice := .foreign 25 1 0, repeats := 2 } ∧
    (pressure.queue.all fun q => decide (q.notice ≠ .flap 16 39 0 0)) = true ∧
    (after .noticeSend (withMgmt (fun _ => { pressure with talking := true }) base) fun t =>
      decide (t.mgmt.line = .notice (noticeFrame ⟨.trip 12 .loop .blocked none 1 0, 1⟩))) = some true := by decide +kernel

/-- Section 3.6: the third move of the pinned gateway is a flap of ports 10 and 9. -/
theorem test_flap_of_gateway :
    (after .sampleDispatch
      (withRecord (.sample 10 0x10) (withState 10 .opened (atSlot 20006
        (withStation (station 36 true [⟨9, 20005⟩, ⟨10, 20004⟩]) base))))
      fun t => (t.mgmt.queue.map (·.notice), t.stations.map (·.moves))) =
    some ([.flap 10 9 0x10 0], [[]]) := by decide +kernel

/-- Section 3.6: the printer seen on one desk flaps with its home. -/
theorem test_flap_of_printer :
    (after .sampleDispatch
      (withRecord (.sample 20 0x10) (withState 20 .opened (atSlot 70102
        (withStation (station 37 true [⟨20, 4565⟩, ⟨20, 4564⟩]) base))))
      fun t => t.mgmt.queue.map (·.notice)) = some [.flap 20 37 0x10 0] := by decide +kernel

/-- Section 4.11: the return of tag 41 blocks the arrival desk 6 and leaves the origin 5 PRIMING and CONTAINED. -/
theorem test_patch_lead :
    (after .probeDispatch
      (withRecord (.probe 6 0 5 41) (withState 5 .priming (withState 6 .priming
        (withEntry (entry { Purposes.empty with linkup := true } (some 1041)) base))))
      fun t => decide ((t.port 6).state = .blocked ∧ (t.port 6).strikes = 1 ∧ (t.port 6).holdOff = 5 ∧
        (t.port 5).state = .priming ∧ (t.port 5).linkup = .contained ∧
        t.trips = [{ port := 6, cause := .loop, partner := some 5 }])) = some true := by decide +kernel

/-- Section 5.12: the fourth blocking trip of desk 12 is HELD. -/
theorem test_fourth_trip_is_held :
    let s := (base.setPort 12 { base.port 12 with state := .testing, strikes := 3 }).blockingTrip 12 .retestLoop (some 13) none
    (s.port 12).state = .held ∧ (s.port 12).strikes = 4 ∧ (s.port 12).holdOff = 0 := by decide +kernel

/-- Section 1.4: slot 0 after a reset carries the mark and then the GATE record of port 0, SHUT. -/
theorem test_lane_after_reset :
    after .slotMarkGrant base (fun t => t.control.lane) = some (some (.slotMark 0)) ∧
    after .gateChangeGrant (base.setControl { base.control with markWaiting := false })
      (fun t => (t.control.lane, t.control.pendingGate[0], t.control.pendingGate[1])) =
      some (some (.gate 0 .shut), none, some .shut) := by decide +kernel

/-- Section 2.6 by R43: METER SET with every DESK field out of range. -/
theorem test_meter_set_clamps :
    (after (.meterSet 1
      { cls := 0, window := 16, shape := 0, shift := 12, desk := ⟨20000, 900, 16400, 0xFFFB⟩, trunk := ⟨2400, 16320, 600, 1200⟩ })
      base fun t => (t.profile.meters.bcast.shift, t.profile.meters.bcast.desk, t.mgmt.reply.map fun r => r.body.take 1)) =
    some (8, ⟨16320, 16320, 16319, 0⟩, some [1]) := by decide +kernel

/-- R183 and section 12.3: the reply of PORT GET has its status and 60 bytes, that of PROFILE GET 61. -/
theorem test_reply_lengths :
    (after (.portGet 1 7) base fun t => t.mgmt.reply.map fun r => r.body.length) = some (some 61) ∧
    (after (.profileGet 1) base fun t => t.mgmt.reply.map fun r => r.body.length) = some (some 62) ∧
    (after (.status 1 0) base fun t => t.mgmt.reply.map fun r => r.body.length) = some (some 24) := by decide +kernel

/-- Section 12.2: a SLOT record's ten bytes. -/
theorem test_slot_record_bytes :
    (controlBytes (.slotMark 7)).take 9 = [0x11, 0xFF, 7, 0, 0, 0, 0, 0, 0] ∧ (controlBytes (.slotMark 7)).length = 10 := by
  decide

/-! ### The step and the invariants -/

theorem witness_StepRunsFrontCommand :
    (waiting .replySent base).pending = .replySent :: [] ∧ base.pending = [] := ⟨rfl, rfl⟩

theorem witness_EveryCommandKeepsTheQueue :
    closesExpiry .slotMarkGrant = true ∧ closesExpiry (.status 0 0) = true ∧ closesExpiry .secondExpiry = false := by decide

theorem witness_PowerOnStartsEveryBlock : (withDue .grace base).pending = [] := rfl

/-- A TESTING desk 3 with one strike, on the trip list, with its RECOVER probe SENT, and a command waiting. -/
def busy : State :=
  waiting .noticeSend (withTrip 3 (withEntry { entry { Purposes.empty with recover := true } (some 40) with origin := 3 }
    (withMgmt (fun m => { m with queue := [⟨.foreign 25 1 0, 255⟩] })
      (base.setPort 3 { base.port 3 with state := .testing, linkUp := true, strikes := 1 }))))

theorem witness_PortTableStaysLegal : PortsLegal busy ∧ ∃ t, step busy = .next t := by
  refine ⟨?_, _, rfl⟩
  unfold PortsLegal PortRecord.Legal
  decide +kernel

theorem witness_TripListStaysExact : TripListExact busy ∧ ∃ t, step busy = .next t := by
  refine ⟨?_, _, rfl⟩
  unfold TripListExact
  decide +kernel

theorem witness_ProbeListStaysSound : ProbeListSound busy ∧ ∃ t, step busy = .next t := by
  refine ⟨?_, _, rfl⟩
  unfold ProbeListSound
  decide +kernel

theorem witness_NoticeQueueStaysSound : NoticeQueueSound busy.mgmt ∧ ∃ t, step busy = .next t := by
  refine ⟨?_, _, rfl⟩
  unfold NoticeQueueSound
  decide +kernel

theorem witness_MetersStayInRange : MetersInRange busy ∧ ∃ t, step busy = .next t := by
  refine ⟨⟨fun k => ?_, fun p k => ?_, ?_, fun r h => absurd h (by simp [busy, base, waiting, withTrip, withEntry, withMgmt,
    State.reset, State.start, Receiver.start, State.setPort, State.setPorts, State.setMgmt, State.setTrips,
    State.setProbes, State.setControl])⟩, _, rfl⟩
  · cases k <;> (unfold ClassSetup.InRange Thresholds.InRange; decide +kernel)
  · revert p
    cases k <;> (unfold Meter.InRange; decide +kernel)
  · intro p
    refine ⟨fun x h => ?_, ?_, ?_⟩
    · have none_waits : ∀ q, (busy.tally q).pending = none := by decide +kernel
      rw [none_waits p] at h
      cases h
    · revert p; unfold countsInRange; decide +kernel
    · revert p; decide +kernel

/-- A sweep that takes its next port, desk 9, while desk 8 has its SWEEP purpose in a SENT entry; one pinned station. -/
def sweeping : State :=
  waiting .sweepTakePort (withDue .sweepTake (withStation (station 36 true [])
    (withEntry { entry { Purposes.empty with sweep := some 7 } (some 40) with origin := 8 }
      (withSweep (sweepOf none 9 0 0) base))))

/-- A TALKING link with one STATUS frame queued. -/
def asked : State := withMgmt (fun m => { m with talking := true, requests := [{ kind := 1, tag := 0, body := [0] }] }) base

theorem witness_QueuesStayBounded : QueuesBounded busy ∧ StationTableSound sweeping ∧ SweepSound sweeping ∧
    ProbeListSound sweeping ∧ (∃ t, step busy = .next t) ∧ (∃ t, step sweeping = .next t) ∧
    FramesHeard (waiting .requestTake asked) ∧ ∃ t, step (waiting .requestTake asked) = .next t := by
  have taking : sweeping.sweep.record = some (sweepOf none 9 0 0) := rfl
  have listed : sweeping.probes.list = [{ entry { Purposes.empty with sweep := some 7 } (some 40) with origin := 8 }] := rfl
  have unwanted : ∀ p, (sweeping.port p).wants = Purposes.empty := by decide +kernel
  refine ⟨?_, ?_, ⟨by decide +kernel, fun h => ?_, fun r h => ?_⟩, ?_, ⟨_, rfl⟩, ⟨_, rfl⟩, fun _ => rfl, ⟨_, rfl⟩⟩
  · unfold QueuesBounded
    decide +kernel
  · unfold StationTableSound
    decide +kernel
  · rw [taking] at h
    cases h
  · rw [taking] at h
    cases h
    refine ⟨by decide, by decide, by decide, by decide, by decide, by decide +kernel, by decide, fun p n hn => ?_,
      fun e he n hn => ?_⟩
    · rw [unwanted] at hn
      cases hn
    · rw [listed, List.mem_singleton] at he
      subst he
      cases hn
      decide
  · unfold ProbeListSound
    decide +kernel

/-- A STATUS frame waits and port 3 holds a capture. -/
theorem witness_LatchedEvidenceStaysUntilCleared :
    let s := withEvidence 3 (withMgmt (fun m => { m with requests := [{ kind := 1, tag := 0, body := [0] }] }) base)
    (∃ t, exec .requestTake s = .next t) ∧ (∀ straps, Instr.requestTake ≠ .powerOn straps) ∧
    (∀ f rest, s.mgmt.requests = f :: rest → f.kind ≠ 0x12 ∧ f.kind ≠ 0x1A) ∧ (s.evidenceOf 3).capture.isSome = true := by
  refine ⟨⟨_, rfl⟩, fun _ h => Instr.noConfusion h, fun f rest h => ?_, by decide +kernel⟩
  cases h
  decide

/-! ### Slot timer, expiries and the lanes -/

theorem witness_SlotExpiryAdvancesTimer :
    let top := base.setTimer { base.timer with position := 999 }
    let retired (n : Nat) := base.setProbes { base.probes with retired := some { room := 9, left := n } }
    base.due = [] ∧ base.timer.position ≤ 999 ∧ top.due = [] ∧ top.timer.position ≤ 999 ∧
    (⟨.after, true⟩ : ExpiryOrder).events ≠ .ownRows ∧ (⟨.ownRows, true⟩ : ExpiryOrder).events = .ownRows ∧
    (retired 1).probes.retired = some { room := 9, left := 1 } ∧ base.probes.retired = none ∧
    (withSweep (sweepOf none 14 1 0) base).sweep.record = some (sweepOf none 14 1 0) ∧
    (sweepOf none 14 1 0).next ≤ (sweepOf none 14 1 0).last.val ∧
    (∀ r, (withSweep (sweepOf none 15 0 0) base).sweep.record = some r → r.last.val < r.next) := by
  refine ⟨rfl, by decide, rfl, by decide, by decide, rfl, rfl, rfl, rfl, by decide, fun r h => ?_⟩
  cases h
  decide

/-- What falls due in a state at the next slot expiry, its events left to their own rows, given an event. -/
def fallsDue (e : Event) (s : State) : Option Bool :=
  after (.slotExpiry { relDown := false, silDown := false, rxLow := true } ⟨.ownRows, false⟩) s fun t => decide (e ∈ t.due)

/-- One slot before its end, and two slots before it: FABRIC_LOST (R10), an entry of expiry stamp 41 (R69), the retire
period (R83), a sweep's pacing (R123), the frame age (R157), the break counter (R163). -/
theorem test_counts_fall_due :
    let hunting (n : Nat) := base.setReceiver { base.receiver with huntSlots := n }
    let sent (n : Word) := atSlot n (withEntry (entry { Purposes.empty with storm := true } (some 41)) base)
    let retired (n : Nat) := base.setProbes { base.probes with retired := some { room := 9, left := n } }
    let pacing (n : Nat) := withSweep (sweepOf none 9 n 0) base
    let link (age low : Nat) := withMgmt (fun m => { m with receiver := .inFrame [] age, breakCount := low }) base
    (fallsDue .fabricLost (hunting 15) = some true ∧ fallsDue .fabricLost (hunting 14) = some false) ∧
    (fallsDue (.probeExpired 5) (sent 40) = some true ∧ fallsDue (.probeExpired 5) (sent 39) = some false) ∧
    (fallsDue .retireEnd (retired 1) = some true ∧ fallsDue .retireEnd (retired 2) = some false) ∧
    (fallsDue .sweepTake (pacing 1) = some true ∧ fallsDue .sweepTake (pacing 2) = some false) ∧
    (fallsDue .frameTimeout (link 19 0) = some true ∧ fallsDue .frameTimeout (link 18 0) = some false) ∧
    (fallsDue .linkBreak (link 0 4) = some true ∧ fallsDue .linkBreak (link 0 3) = some false) := by
  decide +kernel

/-- Slot counts on both sides of a 64th expiry, a guarded port and an UNGUARDED one. -/
theorem witness_SlotExpiryStepsEveryGuardedMeter :
    let s (n : Word) := withRole 1 .off (atSlot n base)
    (s 62).due = [] ∧ (s 62).timer.first = false ∧ (s 62).timer.slotCount.toNat % 64 ≠ 63 ∧ (s 64).due = [] ∧
    (s 64).timer.first = false ∧ (s 64).timer.slotCount.toNat % 64 ≠ 63 ∧ (s 64).guarded 0 = true ∧
    (s 64).guarded 1 = false ∧ (s 63).due = [] ∧ (s 63).timer.first = false ∧ (s 63).timer.position ≤ 999 ∧
    (s 63).mgmt.lost ≤ 65535 ∧ (s 63).timer.slotCount.toNat % 64 = 63 ∧ (s 63).grace = 0 ∧
    ((withState 0 .opened (s 63)).port 0).state = .opened ∧ (s 63).timer.position ≠ 999 := by
  decide +kernel

theorem witness_SlotExpiryAdmitsWaitingWants :
    (EventPlace.before = .before ∨ EventPlace.before = .between) ∧
    ((base.joinWants 5 .storm).port 5).wants.isEmpty = false ∧ (base.setDue [.admission]).due = [.admission] ∧
    endedOrigins base.due = [] ∧ (base.port 5).wants.isEmpty = true ∧
    (∃ e ∈ (withEntry (entry Purposes.empty none) base).probes.list, e.origin = 5) ∧
    (let many (n : Nat) := base.setProbes { base.probes with
      list := (List.range n).map fun i => { entry Purposes.empty none with origin := Fin.ofNat 40 (i + 10) } }
     (∀ e ∈ (many 23).probes.list, e.origin ≠ 5) ∧ (many 23).probes.list.length < 24 ∧ 24 ≤ (many 24).probes.list.length) := by
  decide +kernel

/-- R64, R66: from pointer 38 on, port 39 is admitted before ports 0 and 5; the tags pass over 0 and over 2, in use. -/
theorem test_admission_round_robin :
    let s := (((base.joinWants 0 .storm).joinWants 5 (.host 9)).joinWants 39 .flap).setProbes { base.probes with
      list := [{ entry Purposes.empty (some 41) with origin := 7, tag := 2 }], pointer := 38, tagCounter := 65535 }
    (s.admitWants.probes.list.map fun e => (e.origin, e.tag)) = [(7, 2), (39, 1), (0, 3), (5, 4)] ∧
    (s.admitWants.control.emitQueue.map fun o => (o.origin, o.tag)) = [(39, 1), (0, 3), (5, 4)] ∧
    s.admitWants.probes.recent = [1, 3, 4] ∧ s.admitWants.probes.pointer = 5 ∧
    (s.admitWants.port 5).wants = Purposes.empty ∧ (s.admitWants.probes.list.map fun e => e.purposes.host) =
      [none, none, none, some 9] := by
  decide +kernel

/-- R67, log 3: a hold-off that ends at the second expiry sets its RECOVER want before the admission of the closing. -/
theorem test_recover_admitted_at_second_expiry :
    let s := (base.setPort 3 { base.port 3 with state := .blocked, linkUp := true, holdOff := 1 }).setTimer
      { base.timer with position := 999, first := false }
    after (.slotExpiry { relDown := false, silDown := false, rxLow := false } ⟨.ownRows, false⟩) s (fun t =>
      (t.close.port 3).state = .testing && (t.close.entryOf 3).any fun e => e.purposes.recover) = some true := by
  decide +kernel

/-- A second in which a hold-off, a decay period, the grace and the sweep timer all run out. -/
theorem witness_SecondExpiryCounts :
    let s := withDue .second ((((base.setPort 3 { base.port 3 with state := .blocked, holdOff := 1 }).setPort 4
      { base.port 4 with state := .opened, decay := 599 }).setGrace 1).setSweep { base.sweep with timer := 1 })
    Event.second ∈ s.due ∧ (s.port 3).state = .blocked ∧ (s.port 3).holdOff = 1 ∧ (s.port 4).state = .opened ∧
    s.profile.decayPeriod * 60 ≤ (s.port 4).decay + 1 ∧ s.grace = 1 ∧ s.sweep.timer = 1 ∧ ReportsDone s := by
  unfold ReportsDone
  decide +kernel

/-- A guarded port whose latest report confirms SEVERE waits behind the reopening of port 3, left to its row. -/
def behind (q : Port) (r : StepReport) (e : Event) (s : State) : State :=
  (s.setReport q (some r)).setDue [e, .calmHold 3, .reports 3]

/-- A report in which BCAST has the given confirmations and every class is CALM or not. -/
def report (storm severe calm : Bool) : StepReport :=
  let c : ClassReport := { level := 0, base := 0, excess := 0, storm := storm, severe := severe, calm := calm,
                           stormConfirmed := storm, severeConfirmed := severe, priming := 0 }
  { classes := ⟨c, { c with stormConfirmed := false, severeConfirmed := false },
                { c with stormConfirmed := false, severeConfirmed := false }⟩,
    held := false, grace := false }

/-- R97, R104: SECOND_EXPIRY comes after the waiting report, which trips port 5 before its decay counter is counted. -/
theorem test_second_expiry_after_reports :
    let s := behind 5 (report true true false) .second (base.setPort 5 { base.port 5 with state := .opened, decay := 599 })
    after .secondExpiry s (fun t => ((t.port 5).strikes, decide ((t.port 5).state = .blocked), t.due)) =
      some (1, true, []) := by
  decide +kernel

/-- A record of the given nine bytes with its check. -/
def group (b : List Byte) : List Byte := b ++ [crc8 b]

theorem witness_ReceiverTreatsRecordsByState :
    let fill := group [0x0F, 0xFF, 0, 0, 0, 0, 0, 0, 0]
    let link (p : Byte) := group [4, p, 1, 0, 0, 0, 0, 0, 0]
    let s (n : Nat) := base.setReceiver
      { base.receiver with synced := true, fifo := List.replicate n (.link 0 true) }
    (s 0).receiver.synced = true ∧ base.receiver.synced = false ∧ checkPasses fill 1 = false ∧
    checkPasses fill 0 = true ∧ parseRecord fill = .fill ∧ checkPasses (link 40) 0 = true ∧ parseRecord (link 40) = .bad ∧
    checkPasses (link 39) 0 = true ∧ parseRecord (link 39) = .good (.link 39 true) ∧ (s 63).receiver.fifo.length < 64 ∧
    64 ≤ (s 64).receiver.fifo.length := by
  decide +kernel

/-- R10: a FILL after the 16th slot in HUNT, FABRIC_LOST still due, raises both notices of the episode. -/
theorem test_fill_closes_the_expiry :
    (after (.sightingRecordReceive (group [0x0F, 0xFF, 0, 0, 0, 0, 0, 0, 0]) 0)
      (withDue .fabricLost (base.setReceiver { base.receiver with huntSlots := 16 }))
      fun t => (t.due.length, t.mgmt.queue.map (·.notice))) = some (0, [.fabricLost 0, .fabricBack 16 0]) := by
  decide +kernel

theorem witness_TallyIsStoredAndHeldForFourSlots :
    (withRecord (.tally 3 7 ⟨255, 0, 1⟩) base).receiver.fifo = .tally 3 7 ⟨255, 0, 1⟩ :: [] ∧
    PortTally.start.held = 0 ∧ PortTally.start.pending = none ∧
    (let full (slot : Byte) : PortTally := { PortTally.start with pending := some { slot := slot, counts := ⟨1, 2, 3⟩ } }
     (full 7).pending = some { slot := 7, counts := ⟨1, 2, 3⟩ } ∧ (6 : Byte) ≠ 7 ∧ (full 6).held < 4 ∧
     { full 6 with held := 4 }.held = 4) := by
  decide

/-- R13: the tally of the slot ends the run of held slots; one of another slot is late, and the hold rule goes on. -/
theorem test_tally_usable_and_late :
    let full (slot : Byte) : PortTally := { pending := some { slot := slot, counts := ⟨1, 2, 3⟩ }, last := ⟨40, 2, 0⟩, held := 3 }
    (full 235).consume 235 = { counts := ⟨1, 2, 3⟩, tally := { pending := none, last := ⟨1, 2, 3⟩, held := 0 }, late := false,
                               held := false } ∧
    (full 234).consume 235 = { counts := ⟨40, 2, 0⟩, tally := { pending := none, last := ⟨40, 2, 0⟩, held := 4 }, late := true,
                               held := true } := by
  decide

/-- A slot in which the mark has been sent. -/
def marked (s : State) : State := s.setControl { s.control with markWaiting := false }

/-- A slot in which no GATE change waits either. -/
def gatesSent (s : State) : State :=
  s.setControl { s.control with markWaiting := false, pendingGate := Vector.replicate 40 none }

theorem witness_ControlLaneGrantsInOrder :
    0 < base.control.budget ∧ base.control.markWaiting = true ∧
    0 < (marked base).control.budget ∧ (marked base).control.markWaiting = false ∧
    (marked base).control.pendingGate[(0 : Port)].isSome = true ∧ (∀ q : Port, q < 0 → base.control.pendingGate[q] = none) ∧
    0 < (gatesSent base).control.budget ∧ (gatesSent base).control.markWaiting = false ∧
    (∀ q : Port, (gatesSent base).control.pendingGate[q] = none) ∧ (gatesSent base).control.emitQueue = [] ∧
    (gatesSent base).control.refreshed = false ∧ (base.setControl { base.control with budget := 0 }).control.budget = 0 ∧
    ((gatesSent base).setControl { (gatesSent base).control with emitQueue := [⟨0, 5, 41⟩] }).control.emitQueue = ⟨0, 5, 41⟩ :: [] ∧
    ((gatesSent base).setControl { (gatesSent base).control with refreshed := true }).control.refreshed = true ∧
    base.due = [] := by
  decide +kernel

theorem witness_EmitGrantMakesEntrySent :
    let s := withEntry (entry { Purposes.empty with storm := true } none)
      (base.setControl { base.control with budget := 1 })
    ProbeListSound s ∧ 0 < s.control.budget ∧ s.control.markWaiting = false ∧
    (∀ q : Port, s.control.pendingGate[q] = none) ∧ s.control.emitQueue = { room := 0, origin := 5, tag := 41 } :: [] := by
  unfold ProbeListSound
  decide +kernel

/-! ### Meters -/

theorem witness_MeterLevelIsWindowSum :
    factoryMeters.bcast.window ∈ [4, 8, 16, 32, 64] ∧ factoryMeters.bcast.shape = .box ∧
    ({ factoryMeters.flood with window := 64, shape := .triangle } : ClassSetup).window ∈ [4, 8, 16, 32, 64] := by decide

theorem witness_MeterStepRaisesConditions :
    caseA.priming = 0 ∧ { caseA with priming := 1 }.priming ≠ 0 := by decide

/-- R29, R30: at confirm count 10 a storm run of 10 is confirmed, one of 9 is not. -/
theorem test_report_confirms :
    let r (run : Nat) := { caseA with level := 640, excess := 628, stormRun := run, severeRun := run - 1 }.report 10
    ((r 9).stormConfirmed, (r 10).stormConfirmed, (r 10).severeConfirmed, (r 11).severeConfirmed) =
      (false, true, false, true) ∧ ((r 9).level, (r 9).base, (r 9).excess) = (640, 12, 628) := by decide

/-- A baseline at its ceiling and at 0, an E just below T_limit and at it. -/
theorem witness_BaselineStepMovesTowardLevel :
    let m (b n : Nat) : Meter := { caseA with base := b, level := n, excess := (n : Int) - (b : Int) }
    let th := factoryMeters.bcast.desk
    (0 : Int) ≤ th.ceil ∧
    ((m 300 0).base : Int) ≤ th.ceil ∧ (m 300 0).priming = 0 ∧ (m 300 0).excess < th.limit ∧ (m 300 0).level < (m 300 0).base ∧
    (m 0 15).excess < th.limit ∧ (m 0 15).base ≤ (m 0 15).level ∧
    (m 0 15).level - (m 0 15).base < 2 ^ factoryMeters.bcast.shift ∧ (m 0 599).excess < th.limit ∧ th.limit ≤ (m 0 600).excess ∧
    { m 0 0 with priming := 1 }.priming ≠ 0 := by
  decide

/-! ### Stations -/

/-- A SAMPLE of address 0x10 on OPEN desk 3. -/
def sampled (s : State) : State := withRecord (.sample 3 0x10) (withState 3 .opened s)

theorem witness_SampleLearnsRefreshesOrIsDropped :
    let shut := withRecord (.sample 3 0x10) base
    let home := sampled (withStation (station 3 false []) base)
    shut.receiver.fifo = .sample 3 0x10 :: [] ∧ (shut.port 3).state ≠ .opened ∧ (shut.port 3).state ≠ .limited ∧
    home.receiver.fifo = .sample 3 0x10 :: [] ∧ (home.port 3).role ≠ .off ∧ (home.port 3).state = .opened ∧
    findStation 0x10 home.stations = some (station 3 false []) ∧ (station 3 false []).home = 3 ∧
    findStation 0x10 (sampled base).stations = none ∧ (sampled base).stations.length < 512 ∧
    ((sampled base).stations.map (·.position)).Pairwise (· < ·) := by
  decide +kernel

/-- A full table whose first twelve entries are pinned. -/
def fullTable : List StationEntry :=
  (List.range 512).map fun n => { position := n, address := BitVec.ofNat 48 n, home := 0, lastSeen := 0,
                                  pinned := decide (n < 12), moves := [] }

/-- A SAMPLE of an unknown address at OPEN desk 3, and that table full. -/
def fullSampled : State := withRecord (.sample 3 0x1000) (withState 3 .opened (base.setStations fullTable))

theorem fullSampled_stations : fullSampled.stations = fullTable := by
  simp only [fullSampled, withRecord, withState, State.setReceiver, State.setPort, State.setPorts, State.setStations]

theorem witness_FullTableEvictsOldestUnpinned :
    fullTable.length = 512 ∧ (fullTable.map (·.position)).Pairwise (· < ·) ∧ (∀ e ∈ fullTable, e.position < 512) ∧
    (∃ e ∈ fullTable, e.pinned = false) ∧ fullSampled.stations = fullTable ∧ fullSampled.due = [] ∧
    fullSampled.receiver.fifo = .sample 3 0x1000 :: [] ∧ (fullSampled.port 3).role ≠ .off ∧
    (fullSampled.port 3).state = .opened ∧ findStation 0x1000 fullSampled.stations = none := by
  refine ⟨by simp [fullTable], ?_, by simp [fullTable], ?_, fullSampled_stations, by decide +kernel, by decide +kernel,
    by decide +kernel, by decide +kernel, ?_⟩
  · have : fullTable.map (·.position) = List.range 512 := by simp [fullTable, Function.comp_def]
    rw [this]
    exact List.pairwise_lt_range
  · exact ⟨_, List.mem_map.2 ⟨12, by simp, rfl⟩, rfl⟩
  · rw [fullSampled_stations]
    refine List.find?_eq_none.2 fun e he => ?_
    obtain ⟨n, hn, rfl⟩ := List.mem_map.1 he
    have := List.mem_range.1 hn
    simp only [beq_iff_eq]
    bv_omega

/-- One move short of a flap, and the move that makes it. -/
theorem witness_MoveIsListedAndFlapsProbe :
    let s (m : List Move) := sampled (withStation (station 9 true m) base)
    let e (m : List Move) := station 9 true m
    (s []).receiver.fifo = .sample 3 0x10 :: [] ∧ ((s []).port 3).role ≠ .off ∧ ((s []).port 3).state = .opened ∧
    findStation 0x10 (s [⟨4, 0⟩]).stations = some (e [⟨4, 0⟩]) ∧ (e [⟨4, 0⟩]).home ≠ 3 ∧
    flapFound 3 1000 base.stamp ((⟨3, base.stamp⟩ :: (e [⟨4, 0⟩]).moves).take 4) = false ∧
    base.profile.flapLimit = 3 ∧ base.profile.flapWindow = 1000 ∧
    findStation 0x10 (s [⟨4, 0⟩, ⟨3, 0⟩]).stations = some (e [⟨4, 0⟩, ⟨3, 0⟩]) ∧
    flapFound 3 1000 base.stamp ((⟨3, base.stamp⟩ :: (e [⟨4, 0⟩, ⟨3, 0⟩]).moves).take 4) = true := by
  decide +kernel

/-- R53, R54: the third newest move is 999 and 1000 slots old; the second-newest move is to another port, and to this one. -/
theorem test_flap_window_and_partner :
    flapFound 3 1000 999 [⟨3, 999⟩, ⟨4, 500⟩, ⟨3, 0⟩] = true ∧ flapFound 3 1000 1000 [⟨3, 1000⟩, ⟨4, 500⟩, ⟨3, 0⟩] = false ∧
    flapPartner 3 9 [⟨3, 0⟩, ⟨4, 0⟩] = 4 ∧ flapPartner 3 9 [⟨3, 0⟩, ⟨3, 0⟩] = 9 := by decide

/-! ### Links, probes and trips -/

theorem witness_LinkUpPrimesDownPort :
    (withRecord (.link 3 true) base).receiver.fifo = .link 3 true :: [] ∧
    ((withRecord (.link 3 true) base).port 3).state = .down := by decide +kernel

theorem witness_LinkDownClosesPort :
    ∀ x ∈ [PortState.priming, .opened, .limited, .blocked, .testing], let s := withRecord (.link 3 false) (withState 3 x base)
      s.receiver.fifo = .link 3 false :: [] ∧ (s.port 3).state ∈ [.priming, .opened, .limited, .blocked, .testing] ∧
      ProbeListSound s := by
  unfold ProbeListSound
  decide +kernel

/-- R81: a link-down counts the SWEEP of the QUEUED entry skipped and answers its CHECK with VOID. -/
theorem test_link_down_concludes_void :
    let s := withRecord (.link 5 false) (withState 5 .opened (withSweep (sweepOf none 9 5 0)
      (withEntry (entry { Purposes.empty with sweep := some 7, host := some 9 } none) base)))
    after .linkDispatch s (fun t => (t.sweep.record, t.mgmt.queue.map fun q => q.notice, t.probes.list)) =
      some (some (sweepOf none 9 5 1), [.checkDone 5 9 .void none 0], []) := by
  decide +kernel

theorem witness_LinkRepeatChangesNothing :
    let s (up : Bool) (x : PortState) := withRecord (.link 3 up) (withState 3 x base)
    (s false .down).receiver.fifo = .link 3 false :: [] ∧ ((s false .down).port 3).state = .down ∧
    (∀ x ∈ [PortState.priming, .opened, .limited, .blocked, .testing],
      ((s true x).port 3).state ∈ [.priming, .opened, .limited, .blocked, .testing]) ∧
    ((s true .unguarded).port 3).state = .unguarded ∧ ((s true .held).port 3).state = .held := by
  decide +kernel

/-- The return of tag 41 on port 6, its entry SENT by port 5, in a step 1 case, in a step 3 case and in neither. -/
theorem witness_MatchedReturnEndsProbe :
    let e := entry { Purposes.empty with host := some 1 } (some 41)
    let s (o x : PortState) := withRecord (.probe 6 base.profile.roomId (portByte 5) 41)
      (withState 5 o (withState 6 x (withEntry e base)))
    (∀ o ∈ [PortState.down, .opened], ∀ x ∈ [PortState.opened, .blocked],
      (s o x).receiver.fifo = .probe 6 (s o x).profile.roomId (portByte 5) 41 :: [] ∧ ProbeListSound (s o x) ∧
      e ∈ (s o x).probes.list) ∧
    e.tag = 41 ∧ e.origin = 5 ∧ e.expiry.isSome = true ∧ ((s .down .opened).port 5).state = .down ∧
    e.purposes.recover = false ∧ e.purposes.linkup = false ∧ ((s .opened .blocked).port 6).state.shutForTrip = true := by
  unfold ProbeListSound
  decide +kernel

theorem witness_ProofShutsOneDesk :
    let s (r : Role) (x : PortState) := withRole 6 r (withState 6 x (withState 5 .priming base))
    ((s .desk .down).port 5).state.blockable = true ∧ ((s .desk .down).port 6).state.shutForTrip = false ∧
    ((s .desk .down).port 6).role = .desk ∧ ((s .desk .down).port 6).state = .down ∧
    ((s .desk .limited).port 6).role = .desk ∧ ((s .desk .limited).port 6).state.blockable = true ∧
    ((s .desk .limited).port 6).state.shutForTrip = false ∧
    ((s .trunk .opened).port 6).role ≠ .desk ∧ ((s .trunk .opened).port 5).role = .desk ∧
    ((s .trunk .opened).port 6).state.shutForTrip = false ∧ ((withState 5 .testing base).port 5).state = .testing ∧
    (base.port 38).role ≠ .desk ∧ (base.port 39).role ≠ .desk ∧
    ((withState 38 .priming base).port 38).state.blockable = true ∧
    ((withState 38 .opened base).port 38).state = .opened ∧ (base.port 38).role ≠ .off ∧
    (base.port 39).state.shutForTrip = false ∧ (base.port 39).state ≠ .opened := by
  decide +kernel

/-- R73: a proof of two OPEN trunks is TRUNK_LOOP on both, the lower port first, and leaves no trip item. -/
theorem test_trunk_loop_limits_both :
    let s := withState 38 .opened (withState 39 .opened base)
    let t := (s.resolve 39 38 false).1
    (t.port 38).state = .limited ∧ (t.port 39).state = .limited ∧ t.trips = [] ∧
    t.mgmt.queue.map (·.notice) = [.trunkLoop 39 38 0, .trip 38 .trunkLoop .limited (some 39) 0 0,
      .trip 39 .trunkLoop .limited (some 38) 0 0] := by
  decide +kernel

theorem witness_OtherReturnsAreCountedAndSorted :
    let own := withRecord (.probe 6 0 40 41) base
    let old (n : Nat) :=
      withRecord (.probe 6 9 5 41) (base.setProbes { base.probes with retired := some { room := 9, left := n } })
    let alien (r : Role) (x : PortState) := withRecord (.probe 6 9 5 41) (withRole 6 r (withState 6 x base))
    own.receiver.fifo = .probe 6 0 40 41 :: [] ∧ 0 = own.profile.roomId ∧
    (∀ e ∈ own.probes.list, e.expiry.isSome = true → e.tag = 41 → e.origin.val ≠ (40 : Byte).toNat) ∧
    portOf 40 = none ∧
    portOf 5 = some 5 ∧ (base.port 5).role ≠ .off ∧ ((withRole 5 .off base).port 5).role = .off ∧
    (∀ n ∈ [0, 1, 250], (old n).receiver.fifo = .probe 6 9 5 41 :: [] ∧ 9 ≠ (old n).profile.roomId ∧
      (old n).probes.retired = some { room := 9, left := n }) ∧
    (alien .trunk .opened).probes.retired = none ∧ ((alien .trunk .opened).port 6).role ≠ .desk ∧
    ((alien .desk .down).port 6).role = .desk ∧ ((alien .desk .down).port 6).state.blockable = false ∧
    ((alien .desk .limited).port 6).role = .desk ∧ ((alien .desk .limited).port 6).state.blockable = true := by
  decide +kernel

theorem witness_ProbeExpiryConcludesClear :
    let s (p : Purposes) (x : PortState) :=
      withDue (.probeExpired 5) (withState 5 x (atSlot 41 (withEntry (entry p (some 41)) base)))
    let recover := { Purposes.empty with recover := true }
    let host := { Purposes.empty with host := some 255 }
    let linkup := { Purposes.empty with linkup := true }
    (s recover .testing).endedEntry 5 = some (entry recover (some 41)) ∧ ((s recover .testing).port 5).state = .testing ∧
    (s host .down).endedEntry 5 = some (entry host (some 41)) ∧ (entry host (some 41)).purposes = host ∧
    (s linkup .priming).endedEntry 5 = some (entry linkup (some 41)) ∧ ((s linkup .priming).port 5).state = .priming ∧
    (s linkup .priming).primed 5 = false ∧ (atSlot 40 (s linkup .priming)).endedEntry 5 = none ∧
    (s linkup .priming).endedEntry 6 = none ∧ ReportsDone (s recover .testing) ∧ ReportsDone (s host .down) ∧
    ReportsDone (s linkup .priming) ∧ (base.port 5).state ≠ .priming ∧ (base.port 5).state = .down ∧
    (base.evidenceOf 5).capture = none ∧ ((withEvidence 5 base).evidenceOf 5).capture.isSome = true ∧
    (let primed := (s linkup .priming).setPortMeters 5 (((s linkup .priming).portMeters 5).map fun m => { m with priming := 0 })
     (primed.port 5).state = .priming ∧ primed.primed 5 = true) ∧
    (behind 5 (report false false true) (.probeExpired 5) (s linkup .priming)).endedEntry 5 =
      some (entry linkup (some 41)) := by
  unfold ReportsDone
  decide +kernel


/-- A port whose meters have primed. -/
def primed (p : Port) (s : State) : State :=
  s.setPortMeters p ((s.portMeters p).map fun m => { m with priming := 0 })

/-- R97: a primed port's LINKUP ends CLEAR after its waiting report, which finds the linkup result NONE. -/
theorem test_linkup_clear_after_reports :
    let s := behind 5 (report true true false) (.probeExpired 5) (primed 5 (withState 5 .priming
      (atSlot 41 (withEntry (entry { Purposes.empty with linkup := true } (some 41)) base))))
    after (.probeExpiry 5) s (fun t => (t.port 5).state) = some .opened := by
  decide +kernel

/-- R93: a LOOPED conclusion limits a primed trunk with TRUNK_LOOP, a CONTAINED one opens it. -/
theorem test_linkup_conclusion_leaves_priming :
    let s := primed 38 (withState 38 .priming base)
    let t (o : ProbeOutcome) := s.conclude 38 { Purposes.empty with linkup := true } o (some 39)
    ((t .looped).port 38).state = .limited ∧ ((t .looped).mgmt.queue.map fun q => q.notice) =
      [.trip 38 .trunkLoop .limited none 0 0] ∧
    ((t .contained).port 38).state = .opened ∧ (t .contained).mgmt = s.mgmt := by
  decide +kernel

/-- R77, R78: a proof that shuts the arrival desk answers CHECK with CONTAINED and that desk. -/
theorem test_check_done_of_a_proof :
    let s := withRecord (.probe 6 base.profile.roomId (portByte 5) 41) (withState 5 .opened (withState 6 .opened
      (withEntry (entry { Purposes.empty with host := some 9 } (some 41)) base)))
    after .probeDispatch s (fun t => t.mgmt.queue.map fun q => q.notice) =
      some [.trip 6 .loop .blocked (some 5) 1 0, .checkDone 5 9 .contained (some 6) 0] := by
  decide +kernel

theorem witness_BlockingTripAddsStrike :
    (base.evidenceOf 3).capture = none ∧ ((withEvidence 3 base).evidenceOf 3).capture.isSome = true ∧ (4 : Port) ≠ 3 ∧
    base.report 3 = none ∧ (base.setReport 3 (some (report true true false))).report 3 = some (report true true false) := by
  decide +kernel

theorem witness_StepReportActsByState :
    let s (x : PortState) := withState 3 x base
    ((s .opened).port 3).state = .opened ∧ ((s .opened).port 3).role = .desk ∧
    (report true true false).classes.first ClassReport.severeConfirmed = some .bcast ∧
    (report true false false).classes.first ClassReport.severeConfirmed = none ∧
    (report true false false).classes.first ClassReport.stormConfirmed = some .bcast ∧
    (report true false false).grace = false ∧ (report false false true).classes.first ClassReport.stormConfirmed = none ∧
    ((s .limited).port 3).state = .limited ∧ (report false false true).severeClass .desk = none ∧
    ((s .opened).evidenceOf 3).capture = none ∧ { report true false false with grace := true }.grace = true ∧
    (report true true false).severeClass .desk = some .bcast ∧ ((s .testing).port 3).state = .testing ∧
    ((primed 3 (s .priming)).port 3).state = .priming ∧ (primed 3 (s .priming)).primed 3 = true ∧
    ((s .priming).port 3).linkup = .unset ∧ (s .priming).primed 3 = false ∧
    (∀ x ∈ [LinkupResult.clear, .contained, .looped],
      (((primed 3 (s .priming)).setPort 3 { (s .priming).port 3 with linkup := x }).port 3).linkup = x) ∧
    (∀ x ∈ [PortState.down, .blocked, .held, .unguarded], ((s x).port 3).state ∈ [.down, .blocked, .held, .unguarded]) := by
  decide +kernel

/-- R95: the report that takes the calm counter to the calm hold reopens the port at once, the one before does not. -/
theorem test_calm_hold_reopens :
    let s (n : Nat) := base.setPort 3 { base.port 3 with state := .limited, calm := n }
    (((s 1998).actOnReport 3 (report false false true)).port 3).state = .limited ∧
    (((s 1999).actOnReport 3 (report false false true)).port 3).state = .opened := by decide +kernel

theorem witness_PortTimersRunOut :
    let hold := withDue (.holdOff 3) (withState 3 .blocked base)
    let calm := withDue (.calmHold 3) (base.setPort 3 { base.port 3 with state := .limited, calm := 2000 })
    let decay := withDue (.strikeDecay 3) (base.setPort 3 { base.port 3 with state := .opened, decay := 600 })
    Event.holdOff 3 ∈ hold.due ∧ (hold.port 3).state = .blocked ∧ (hold.port 3).holdOff = 0 ∧
    Event.holdOff 3 ∈ (withDue (.holdOff 3) base).due ∧ ((withDue (.holdOff 3) base).port 3).state ≠ .blocked ∧
    Event.calmHold 3 ∈ calm.due ∧ (calm.port 3).state = .limited ∧ calm.profile.calmHold ≤ (calm.port 3).calm ∧
    Event.calmHold 3 ∈ (withDue (.calmHold 3) base).due ∧ ((withDue (.calmHold 3) base).port 3).state ≠ .limited ∧
    Event.strikeDecay 3 ∈ decay.due ∧ (decay.port 3).state = .opened ∧ decay.profile.decayPeriod * 60 ≤ (decay.port 3).decay ∧
    Event.strikeDecay 3 ∈ (withDue (.strikeDecay 3) base).due ∧ ((withDue (.strikeDecay 3) base).port 3).state ≠ .opened := by
  decide +kernel

theorem witness_TimersRunOut :
    let ended := withDue .retireEnd (base.setProbes { base.probes with retired := some { room := 9, left := 0 } })
    let lost (n : Nat) (r : Bool) := withDue .fabricLost (base.setReceiver { base.receiver with huntSlots := n, reported := r })
    let sounding := withDue .buzzer (base.setPanel { base.panel with buzzer := some { remaining := 0, elapsed := 5000 } })
    let stalled := withDue .frameTimeout (withMgmt (fun m => { m with receiver := .inFrame [3] 20 }) base)
    Event.grace ∈ (withDue .grace base).due ∧ Event.retireEnd ∈ ended.due ∧
    ended.probes.retired = some { room := 9, left := 0 } ∧ Event.fabricLost ∈ (lost 16 false).due ∧
    (lost 16 false).receiver.synced = false ∧ (lost 16 false).receiver.reported = false ∧
    16 ≤ (lost 16 false).receiver.huntSlots ∧ (lost 16 true).receiver.reported = true ∧ Event.buzzer ∈ sounding.due ∧
    sounding.panel.buzzer = some { remaining := 0, elapsed := 5000 } ∧ Event.frameTimeout ∈ stalled.due ∧
    stalled.mgmt.receiver = .inFrame [3] 20 := by
  decide +kernel

/-- The next port is OPEN, is DOWN and not the last, and is DOWN and the last with the sweep complete. -/
theorem witness_SweepsStartAndTakePorts :
    let idle := withDue .autoSweep base
    let taking (r : SweepRecord) := withDue .sweepTake (withState 8 .opened (withSweep r base))
    Event.autoSweep ∈ idle.due ∧ idle.sweep.record = none ∧
    (withSweep (sweepOf none 8 1 0) idle).sweep.record = some (sweepOf none 8 1 0) ∧
    Event.sweepTake ∈ (taking (sweepOf none 8 0 0)).due ∧
    (taking (sweepOf none 8 0 0)).sweep.record = some (sweepOf none 8 0 0) ∧ (sweepOf none 8 0 0).pacing = 0 ∧
    (sweepOf none 8 0 0).next = (8 : Port).val ∧ (8 : Port) ≤ (sweepOf none 8 0 0).last ∧
    ((taking (sweepOf none 8 0 0)).port 8).state = .opened ∧ 0 + 0 + 0 + (sweepOf none 8 0 0).skipped < 14 + 1 - 8 ∧
    (sweepOf none 9 0 0).next = (9 : Port).val ∧ ((taking (sweepOf none 9 0 0)).port 9).state = .down ∧
    (9 : Port) ≠ (sweepOf none 9 0 0).last ∧
    (sweepOf none 14 0 6).next = (14 : Port).val ∧ ((taking (sweepOf none 14 0 6)).port 14).state = .down ∧
    (14 : Port) = (sweepOf none 14 0 6).last ∧ 0 + 0 + 0 + (sweepOf none 14 0 6).skipped + 1 = 14 + 1 - 8 ∧
    (withSweep (sweepOf none 15 0 6) base).sweep.record = some (sweepOf none 15 0 6) ∧ (8 : Byte) ≠ (sweepOf none 15 0 6).number ∧
    (sweepOf none 15 0 6).last.val < (sweepOf none 15 0 6).next ∧ (sweepOf none 14 1 5).next ≤ (sweepOf none 14 1 5).last.val ∧
    0 + 0 + 0 + (sweepOf none 15 0 5).skipped + 1 ≠ 14 + 1 - 8 ∧
    (withDue (.probeExpired 5) (atSlot 41 (withEntry (entry { Purposes.empty with sweep := some 7 } (some 41))
      (withSweep (sweepOf none 15 0 6) base)))).endedEntry 5 = some (entry { Purposes.empty with sweep := some 7 } (some 41)) ∧
    ReportsDone (withDue (.probeExpired 5) base) ∧ base.sweep.record = none := by
  unfold ReportsDone
  decide +kernel

/-- R125: the last conclusion owed completes the sweep, the one before it does not. -/
theorem test_last_conclusion_completes_sweep :
    ((withSweep (sweepOf none 15 0 6) base).deliverSweep 7 .looped).sweep.record = none ∧
    ((withSweep (sweepOf none 15 0 5) base).deliverSweep 7 .looped).sweep.record =
      some { sweepOf none 15 0 5 with looped := 1 } := by decide +kernel

/-! ### The panel -/

/-- The part after reset, no desk of it OPEN, and the same with a buzzer in its last slot. -/
theorem witness_KeyFilterTakesTwentySlots :
    let sounding := base.setPanel { base.panel with buzzer := some { remaining := 1, elapsed := 4999 } }
    KeyFilter.released.run = 0 ∧ base.due = [] ∧ sounding.due = [] ∧
    (∀ p, (sounding.port p).role = .desk → (sounding.port p).state ≠ .opened ∧ (sounding.port p).state ≠ .limited ∧
      (sounding.port p).state ≠ .testing) := by
  decide +kernel

/-- R147, R150, R152: the 20th sample of a held key, the last slot of the authorise time and of the buzzer; one less. -/
theorem test_panel_counts_fall_due :
    let holding (n : Nat) := base.setPanel { base.panel with rel := { pressed := true, run := n } }
    let both (n : Nat) := base.setPanel { base.panel with rel := { pressed := true, run := 0 },
                                                          sil := { pressed := true, run := 0 }, comboCounter := n }
    let sounding (n : Nat) := base.setPanel { base.panel with buzzer := some { remaining := n, elapsed := 0 } }
    fallsDue .relRelease (holding 19) = some true ∧ fallsDue .relRelease (holding 18) = some false ∧
    base.profile.authoriseTime = 2 ∧ fallsDue .twoKey (both 1999) = some true ∧ fallsDue .twoKey (both 1998) = some false ∧
    fallsDue .buzzer (sounding 1) = some true ∧ fallsDue .buzzer (sounding 2) = some false := by
  decide +kernel

theorem witness_SilenceKeyStopsBuzzer :
    Event.silPress ∈ (withDue .silPress base).due ∧ Event.silRelease ∈ (withDue .silRelease base).due := by decide

/-- The press counter on both sides of the authorise time, and a head of the trip list in each state. -/
theorem witness_ReleaseKeyShortPress :
    let s (n : Nat) := withDue .relRelease (base.setPanel { base.panel with pressCounter := n })
    let head (x : PortState) := withTrip 3 (withLink 3 (withState 3 x (s 1999)))
    Event.relPress ∈ (withDue .relPress base).due ∧ Event.relRelease ∈ (s 0).due ∧ (s 0).profile.keyMode = .full ∧
    (s 0).panel.comboMark = false ∧ (s 2000).profile.authoriseTime * 1000 ≤ (s 2000).panel.pressCounter ∧
    (s 1999).panel.pressCounter < (s 1999).profile.authoriseTime * 1000 ∧ (s 1999).trips = [] ∧
    (∀ x ∈ [PortState.testing, .blocked, .held],
      (head x).trips = { port := 3, cause := .host, partner := none } :: [] ∧ ((head x).port 3).state = x) := by
  decide +kernel

/-- R107, R112, R149: a short press releases a HELD linked TRUNK to OPEN, off the trip list, with a PASS GATE change. -/
theorem test_short_press_releases_trunk :
    let s := withDue .relRelease (withTrip 36 (withLink 36 (withState 36 .held base)))
    after .relRelease s (fun t => ((t.port 36).state, t.trips, t.control.pendingGate[(36 : Port)], (t.port 36).wants,
      t.mgmt.queue.map fun q => q.notice)) =
      some (.opened, [], some .pass, Purposes.empty, [.panel (.release (some 36)) 0]) := by
  decide +kernel

theorem witness_TwoKeysReleaseTheRoom :
    let s (m : KeyMode) (d : Bool) := withDue .twoKey
      ((base.setPanel { base.panel with comboCounter := 2000, doneMark := d }).setProfile
        { base.profile with keyMode := m })
    Event.twoKey ∈ (s .full true).due ∧ (s .full true).panel.doneMark = true ∧ Event.twoKey ∈ (s .full false).due ∧
    (s .full false).panel.doneMark = false ∧ (s .full false).profile.authoriseTime * 1000 ≤ (s .full false).panel.comboCounter ∧
    (s .full false).profile.keyMode = .full ∧ Event.twoKey ∈ (s .silenceOnly false).due ∧
    (s .silenceOnly false).profile.keyMode = .silenceOnly := by
  decide +kernel

/-- R108, R112: a room with a BLOCKED desk 3, a HELD linked TRUNK 36 and a HELD unlinked desk 4. -/
theorem test_room_release :
    let item (p : Port) : TripItem := { port := p, cause := .host, partner := none }
    let s := ((((withState 3 .blocked base).setPort 36 { base.port 36 with state := .held, linkUp := true }).setPort 4
      { base.port 4 with state := .held }).setTrips [item 36, item 3, item 4]).setControl
        { base.control with pendingGate := Vector.replicate 40 none }
    (s.roomRelease.trips = [item 3] ∧ (s.roomRelease.port 3).wants = { Purposes.empty with recover := true } ∧
      s.roomRelease.control.pendingGate = (Vector.replicate 40 none).set 36 (some .pass) ∧
      (s.roomRelease.port 4).state = .down) := by
  decide +kernel

theorem witness_ScanDrivesLitCells :
    let host := base.setPanel { base.panel with cells := base.panel.cells.set 0 { hostOwned := true, value := .fast } }
    let last := base.setPanel { base.panel with scan := { base.panel.scan with common := 7 } }
    host.panel.cells[0].hostOwned = true ∧ base.panel.cells[39].hostOwned = false ∧ base.panel.cells[79].hostOwned = false ∧
    base.panel.scan.common + 1 < base.panel.scan.duty ∧ last.panel.scan.duty ≤ last.panel.scan.common + 1 := by
  decide +kernel

/-! ### The management link -/

/-- A frame of 200 body bytes with four requests waiting, and one without a body. -/
theorem witness_FrameCharactersMakeARequest :
    let s (body : List Byte) (n : Nat) := ({ withMgmt (fun m =>
        { m with requests := List.replicate n { kind := 0x10, tag := 0, body := [] } }) base with
      pending := (frameBytes 0x17 1 body).map (fun b => Instr.mlCharacterReceive b true) } : State)
    (List.replicate 200 (0 : Byte)).length ≤ 200 ∧ (s (List.replicate 200 0) 4).mgmt.receiver = .hunting ∧
    (s [] 3).mgmt.receiver = .hunting ∧
    (s [] 3).pending = (frameBytes 0x17 1 []).map (fun b => Instr.mlCharacterReceive b true) ++ [] ∧ (s [] 3).due = [] ∧
    (crc8 [0, 0x17, 1]) + 1 ≠ crc8 (natByte 0 :: 0x17 :: 1 :: []) := by
  decide +kernel

/-- A frame without a body whose check byte is wrong by one bit is a request error and does not make the link TALKING. -/
theorem test_wrong_check_byte :
    let s := withMgmt (fun m => { m with receiver := .inFrame [0, 0x0C, 1] 0 }) base
    after (.mlCharacterReceive (crc8 [0, 0x0C, 1] ^^^ 1) true) s (fun t => (t.mgmt.requests.length, t.mgmt.talking,
      t.mgmt.flags.requestError, t.mgmt.discarded)) = some (0, false, true, 1) ∧
    after (.mlCharacterReceive (crc8 [0, 0x0C, 1]) true) s (fun t => (t.mgmt.requests.length, t.mgmt.talking,
      t.mgmt.flags.requestError, t.mgmt.discarded)) = some (1, true, false, 0) := by
  decide +kernel

theorem witness_ReceiverErrorsAndLinkBreak :
    let s (r : FrameReceiver) := withMgmt (fun m => { m with receiver := r, breakCount := 5 }) base
    (s .hunting).mgmt.receiver = .hunting ∧ (s (.inFrame [] 19)).mgmt.receiver = .inFrame [] 19 ∧
    200 < (201 : Byte).toNat ∧ (s .breakWait).mgmt.receiver = .breakWait ∧
    Event.linkBreak ∈ (withDue .linkBreak (s .hunting)).due ∧ (s .hunting).mgmt.receiver ≠ .breakWait ∧
    5 ≤ (s .hunting).mgmt.breakCount := by
  decide +kernel

theorem witness_LineSendsRepliesThenNotices :
    let r : Reply := { kind := 0x9A, tag := 1, body := [0, 0, 0, 0], flush := true }
    let s (l : Line) (x : Option Reply) := withMgmt (fun m => { m with line := l, reply := x }) base
    let q : List QueuedNotice := [⟨.flap 3 8 0 0, 1⟩, ⟨.trip 12 .loop .blocked none 1 0, 1⟩, ⟨.foreign 25 1 0, 255⟩]
    let n := withMgmt (fun m => { m with talking := true, queue := q }) base
    (s (.reply []) (some r)).mgmt.line = .reply [] ∧ (s (.reply []) (some r)).mgmt.reply = some r ∧
    (s (.notice []) (some r)).mgmt.line = .notice [] ∧ (s (.notice []) none).mgmt.reply = none ∧
    n.mgmt.line = .idle ∧ n.mgmt.reply = none ∧ n.mgmt.talking = true ∧ n.mgmt.queue = q.take 1 ++ q[1] :: q.drop 2 ∧
    n.mgmt.requests = [] ∧ (∀ x ∈ q.take 1, x.rank < q[1].rank) ∧ (∀ x ∈ q.drop 2, x.rank ≤ q[1].rank) ∧
    base.mgmt.talking = false := by
  decide +kernel

/-- A masked kind, a key that is queued, a new key with 15 queued, and with 16 queued of a lower and of no lower class. -/
theorem witness_LineSendsRepliesThenNotices_raise :
    let flaps (n : Nat) : List QueuedNotice := (List.range n).map fun i => ⟨.flap (Fin.ofNat 40 i) 39 0 0, 1⟩
    let trip : Notice := .trip 12 .loop .blocked none 1 0
    let low : Notice := .flap 38 39 0 0
    kindEnabled 0 trip = false ∧ kindEnabled 0x07FF trip = true ∧ flaps 16 = [] ++ ⟨.flap 0 39 0 0, 1⟩ :: (flaps 16).drop 1 ∧
    sameKey (.flap 0 39 0 5) (.flap 0 39 0 0) = true ∧ (flaps 15).length < 16 ∧
    (∀ x ∈ flaps 16, sameKey trip x.notice = false) ∧ 16 ≤ (flaps 16).length ∧
    flaps 16 = (flaps 15) ++ ⟨.flap 15 39 0 0, 1⟩ :: [] ∧
    (∀ x ∈ flaps 15, (⟨.flap 15 39 0 0, 1⟩ : QueuedNotice).rank ≤ x.rank) ∧
    (⟨.flap 15 39 0 0, 1⟩ : QueuedNotice).rank < (classOfNotice trip).rank ∧
    (∀ x ∈ flaps 16, sameKey low x.notice = false) ∧ (∀ x ∈ flaps 16, (classOfNotice low).rank ≤ x.rank) := by
  decide +kernel

/-- R167: the pairs (36, 38) and (38, 36) share a key, FLAPs 9 with 10 and 20 with 9 too, two CHECK_DONEs do not. -/
theorem test_coalescing_keys :
    sameKey (.trunkLoop 36 38 0) (.trunkLoop 38 36 1) = true ∧ sameKey (.trunkLoop 36 36 0) (.trunkLoop 36 38 0) = false ∧
    sameKey (.flap 9 10 1 0) (.flap 20 9 2 0) = true ∧ sameKey (.flap 9 10 1 0) (.flap 10 20 1 0) = false ∧
    sameKey (.checkDone 9 1 .clear none 0) (.checkDone 9 1 .clear none 0) = false := by decide

theorem witness_RequestTakeServesTheHeadFrame :
    let frame (k : Byte) (b : List Byte) : Frame := { kind := k, tag := 1, body := b }
    let s (f : Frame) := withMgmt (fun m => { m with talking := true, requests := [f] }) base
    let full := withMgmt (fun m => { m with reply := some { kind := 0x81, tag := 0, body := [], flush := false } }) base
    (s (frame 1 [0])).mgmt.talking = true ∧ (s (frame 1 [0])).mgmt.reply = none ∧
    (s (frame 1 [0])).mgmt.requests = frame 1 [0] :: [] ∧
    commandOf (frame 1 [0]) = some (.status 1 0) ∧ bodyLength 0x1B = none ∧ bodyLength 0x1A = some 1 ∧
    (frame 0x1A []).body.length ≠ 1 ∧ (frame 0x1A [0]).body.length = 1 ∧ full.mgmt.reply ≠ none ∧ base.mgmt.requests = [] ∧
    (s (frame 1 [0])).mgmt.requests ≠ [] := by
  decide +kernel

/-! ### The requests: in each a request is taken at once -/

theorem witness_StatusProfileMetersAndTripsAreRead :
    TakesRequests base ∧ (2 : Byte) ≠ 0 ∧ (2 : Byte) ≠ 1 ∧ 3 ≤ (3 : Byte).toNat := by
  unfold TakesRequests
  decide +kernel

/-- R162: the first request after reset makes the link TALKING, its STATUS reply shows it, and notices are sent from then
on. -/
theorem test_first_status_makes_talking :
    base.mgmt.talking = false ∧ after (.status 0 0) base (fun t =>
      (t.mgmt.talking, t.mgmt.reply.map fun r => byteAt r.body 14)) = some (true, some 1) := by
  decide +kernel

/-- A port on the trip list and one off it, an entry, and a station with four moves. -/
theorem witness_PortEvidenceAndStationAreRead :
    let s := withTrip 3 (withEvidence 3 (withEntry (entry { Purposes.empty with host := some 1 } (some 41))
      (withStation (station 9 true (List.replicate 4 ⟨3, 0⟩)) base)))
    TakesRequests s ∧ 40 ≤ (40 : Byte).toNat ∧ s.trips = [] ++ { port := 3, cause := .host, partner := none } :: [] ∧
    (∀ x ∈ s.trips, x.port ≠ 4) ∧ s.entryOf 4 = none ∧
    s.entryOf 5 = some (entry { Purposes.empty with host := some 1 } (some 41)) ∧ (s.evidenceOf 4).capture = none ∧
    (s.evidenceOf 3).capture.isSome = true ∧ findStation 0x11 s.stations = none ∧
    findStation 0x10 s.stations = some (station 9 true (List.replicate 4 ⟨3, 0⟩)) := by
  unfold TakesRequests
  decide +kernel

/-- A profile block with every field at the top of its range, a key mode and every role 1 (DESK). -/
def topBlock (mode role : Byte) : ProfileBlock :=
  { roomId := 0xFFFF, probeTimeout := 250, sweepPeriod := 600, sweepSpacing := 100, holdOffBase := 60, strikeLimit := 15,
    decayPeriod := 60, calmHold := 10000, confirmCount := 32, flapWindow := 5000, flapLimit := 4, stationAge := 3600,
    panelDuty := 8, buzzTime := 30, authoriseTime := 8, keyMode := mode, roles := Vector.replicate 40 role }

theorem witness_ProfileSetReplacesTheProfile :
    TakesRequests base ∧ ProbeListSound base ∧ keyModeOf (topBlock 2 1).keyMode = none ∧ roleOf (topBlock 1 3).roles[(39 : Port)] = none ∧
    keyModeOf (topBlock 1 1).keyMode = some .silenceOnly ∧
    (∀ p : Port, roleOf (topBlock 1 1).roles[p] = some ((fun _ => Role.desk : Port → Role) p)) ∧
    (topBlock 1 1).roomId ≠ base.profile.roomId ∧ (base.port 39).role ≠ .desk ∧ (base.port 35).role = .desk ∧
    { topBlock 1 1 with roomId := 0 }.roomId = base.profile.roomId := by
  unfold TakesRequests ProbeListSound
  decide +kernel

/-- R83: a new room id answers the CHECK of a SENT entry with VOID and gives the TESTING desk a new RECOVER want. -/
theorem test_room_id_change :
    let s := withState 5 .testing (withEntry (entry { Purposes.empty with recover := true, host := some 9 } (some 41)) base)
    after (.profileSet 0 (topBlock 1 1)) s (fun t => (t.probes.list, t.mgmt.queue.map fun q => q.notice,
      (t.port 5).wants.recover)) = some ([], [.checkDone 5 9 .void none 0], true) := by
  decide +kernel


theorem witness_MeterAndBaselineRequests :
    let b (k w sh : Byte) : MeterBlock :=
      { cls := k, window := w, shape := sh, shift := 0, desk := ⟨0, 0, 0, 0⟩, trunk := ⟨0, 0, 0, 0⟩ }
    let s := withRole 1 .off base
    TakesRequests s ∧ 3 ≤ (b 3 4 0).cls.toNat ∧ classOf (b 2 5 0).cls = some .flood ∧ windowOf (b 2 5 0).window = none ∧
    shapeOf (b 2 4 2).shape = none ∧ (b 2 64 1).window.toNat ∈ [4, 8, 16, 32, 64] ∧
    shapeOf (b 2 64 1).shape = some .triangle ∧ (s.port 0).role ≠ .off ∧ (s.port 1).role = .off ∧
    40 ≤ (40 : Byte).toNat ∧ (254 : Byte) ≠ 0xFF ∧ 4 ≤ (4 : Byte).toNat ∧ (3 : Byte).toNat < 4 ∧
    portByte 0 = 0 ∧ portByte 39 = 39 ∧ (s.port 39).role ≠ .off ∧ classCode .bcast = 0 ∧ classCode .flood = 2 := by
  unfold TakesRequests
  decide +kernel

/-- R39: a value above every ceiling sets the three meters of each of the 39 guarded ports, each to its ceiling. -/
theorem test_baseline_set_all :
    after (.baselineSet 0 0xFF 3 0xFFFF) (withRole 1 .off base) (fun t => (t.mgmt.reply.map fun r => r.body,
      (t.portMeters 1).bcast.base, (t.portMeters 39).flood.base == factoryMeters.flood.trunk.ceil.toNat)) =
      some (some [1, 117], 0, true) := by
  decide +kernel

theorem witness_GraceRequestSetsTimer :
    TakesRequests (base.setGrace 1) ∧ 0 < (base.setGrace 1).grace ∧ base.grace = 0 ∧ 1 ≤ (1 : Half).toNat ∧
    (120 : Half).toNat ≤ 120 ∧ 120 < (121 : Half).toNat := by
  unfold TakesRequests
  decide +kernel

/-- A linked desk with a QUEUED entry takes the role TRUNK; its entry and its trip item are there to be removed. -/
theorem witness_PortRoleRestartsThePort :
    let s := withTrip 5 (withLink 5 (withEntry (entry { Purposes.empty with storm := true } none) base))
    TakesRequests s ∧ ProbeListSound s ∧ Role.trunk ≠ (s.port 5).role ∧ Role.off ≠ (s.port 5).role ∧
    40 ≤ (40 : Byte).toNat ∧ 3 ≤ (3 : Byte).toNat := by
  unfold TakesRequests ProbeListSound
  decide +kernel

theorem witness_HostBlockHoldsAPort :
    let s (x : PortState) := withState 3 x base
    TakesRequests (s .limited) ∧ ((s .unguarded).port 3).state = .unguarded ∧ ((s .held).port 3).state = .held ∧
    ((s .limited).port 3).state ≠ .unguarded ∧ ((s .limited).port 3).state ≠ .held ∧
    ((s .limited).evidenceOf 3).capture = none ∧ ((withEvidence 3 (s .down)).evidenceOf 3).capture.isSome = true := by
  unfold TakesRequests
  decide +kernel

theorem witness_ReleaseSendsShutPortsOn :
    let s (x : PortState) (l : Bool) (r : Role) := base.setPort 3 { base.port 3 with state := x, linkUp := l, role := r }
    TakesRequests base ∧ (base.port 3).state ≠ .blocked ∧ (base.port 3).state ≠ .held ∧
    ((s .blocked true .desk).port 3).state = .blocked ∧ ((s .held false .desk).port 3).linkUp = false ∧
    ((s .held true .desk).port 3).state = .held ∧ ((s .held true .desk).port 3).role = .desk ∧
    ((s .held true .trunk).port 3).linkUp = true ∧ ((s .held true .trunk).port 3).role = .trunk := by
  unfold TakesRequests
  decide +kernel

/-- An entry SENT, an entry QUEUED with and without HOST, no entry with 23 and with 24 entries in the list. -/
theorem witness_CheckJoinsEntryOrWants :
    let s (p : Purposes) (x : Option Half) := withEntry (entry p x) (withState 5 .opened base)
    let host := { Purposes.empty with host := some 9 }
    let many (n : Nat) := (withState 5 .opened base).setProbes { base.probes with
      list := (List.range n).map fun i => { entry host none with origin := Fin.ofNat 40 (i + 10), tag := BitVec.ofNat 16 (i + 1) } }
    TakesRequests (s host none) ∧ (base.port 5).state = .down ∧ ((s host none).port 5).state ≠ .unguarded ∧
    ((s host none).port 5).state ≠ .down ∧ (s host (some 41)).entryOf 5 = some (entry host (some 41)) ∧
    (s host none).entryOf 5 = some (entry host none) ∧ (entry host none).purposes.host = some 9 ∧
    (entry Purposes.empty none).purposes.host = none ∧ (many 23).entryOf 5 = none ∧ (many 23).probes.list.length < 24 ∧
    ((many 23).port 5).wants.host = none ∧ (((many 23).joinWants 5 (.host 9)).port 5).wants.host = some 9 ∧
    (many 24).entryOf 5 = none ∧ 24 ≤ (many 24).probes.list.length ∧ ((many 24).port 5).state ≠ .down := by
  unfold TakesRequests
  decide +kernel

theorem witness_SweepRequestsStartAndEnd :
    let s (h : Option Byte) := withSweep (sweepOf h 9 5 0) base
    TakesRequests (s none) ∧ 40 ≤ (40 : Byte).toNat ∧ (38 : Byte).toNat < (39 : Byte).toNat ∧ (39 : Port) ≤ 39 ∧
    base.sweep.record = none ∧ (s (some 4)).sweep.record = some (sweepOf (some 4) 9 5 0) ∧
    (sweepOf (some 4) 9 5 0).host.isSome = true ∧ (s none).sweep.record = some (sweepOf none 9 5 0) ∧
    (sweepOf none 9 5 0).host = none := by
  unfold TakesRequests
  decide +kernel

/-- A table with 31 and with 32 pinned entries, and the entry of address 0x10 pinned and unpinned. -/
theorem witness_EvidenceAndStationTablesAreEdited :
    let pinned (n : Nat) (last : Bool) : State := base.setStations (station 3 last [] ::
      (List.range n).map fun i => { station 4 true [] with position := i + 1, address := BitVec.ofNat 48 (i + 100) })
    TakesRequests (pinned 32 false) ∧ 40 ≤ (254 : Byte).toNat ∧ (254 : Byte) ≠ 0xFF ∧
    findStation 0x10 (pinned 32 false).stations = some (station 3 false []) ∧ (station 3 true []).pinned = true ∧
    ((pinned 31 false).stations.filter fun x => x.pinned).length < 32 ∧
    32 ≤ ((pinned 32 false).stations.filter fun x => x.pinned).length ∧
    findStation 0x11 (pinned 31 false).stations = none ∧ findStation 0x11 (pinned 32 false).stations = none := by
  unfold TakesRequests
  decide +kernel

theorem witness_CellsAndNoticeMaskAreSet :
    TakesRequests base ∧ 4 ≤ (4 : Byte).toNat ∧ cellValueOf 3 = some .fast ∧ (0x0800 : Half).getLsbD 11 = true ∧
    (∀ j, 11 ≤ j → (0x07FF : Half).getLsbD j = false) := by
  refine ⟨⟨rfl, rfl, rfl⟩, by decide, rfl, by decide, fun j h => ?_⟩
  by_cases h16 : 16 ≤ j
  · exact BitVec.getLsbD_of_ge _ _ h16
  · have : j = 11 ∨ j = 12 ∨ j = 13 ∨ j = 14 ∨ j = 15 := by omega
    obtain rfl | rfl | rfl | rfl | rfl := this <;> decide

theorem witness_RestartResetsAllButTheLink :
    TakesRequests base ∧ (2 : Byte) ≠ 0 ∧ (2 : Byte) ≠ 1 ∧ ((0 : Byte) = 0 ∨ (0 : Byte) = 1) ∧
    ((1 : Byte) = 0 ∨ (1 : Byte) = 1) := by
  unfold TakesRequests
  decide +kernel

end Sys2Proof.Tests
end

section
/-! The ledger: the records of the state that the invariants of the probe list, the sweep record, the queues and the Station
Table speak of. Most operations leave it as it stands; each such fact is one lemma, tagged for `simp`. -/

namespace Sys2Proof.Machine

/-! ### The ledger -/

/-- What is held of the fabric link: the sighting FIFO and the receiver state (R8), the record budget, the waiting SLOT mark and
the refresh of the slot (R15, R16). -/
structure FabricLane where
  fifo        : List SightingRecord
  synced      : Bool
  budget      : Nat
  markWaiting : Bool
  refreshed   : Bool

/-- What is held of the panel keys, the management link and the retired room id (R146, R158, R162, R83). -/
structure LinkQueues where
  relRun   : Nat
  silRun   : Nat
  requests : List Frame
  talking  : Bool
  retired  : Option RetiredRoom

/-- A probe list entry without its purposes other than SWEEP (R63). -/
structure ProbeKey where
  tag    : Half
  origin : Port
  expiry : Option Half
  sweep  : Option Byte

/-- What `ProbeListSound` and `SweepSound` read: the EMIT queue, the probe list, the SWEEP purpose of each want set, the sweep
in progress and the sweep spacing (R18, R63, R117). -/
structure ProbeBook where
  emit    : List EmitOrder
  entries : List ProbeKey
  wants   : Port → Option Byte
  sweep   : Option SweepRecord
  spacing : Nat

/-- The records that the invariants of this family speak of. -/
structure Ledger where
  lane     : FabricLane
  queues   : LinkQueues
  book     : ProbeBook
  stations : List StationEntry

/-- An entry of the probe list as the ledger holds it. -/
def ProbeEntry.key (e : ProbeEntry) : ProbeKey := ⟨e.tag, e.origin, e.expiry, e.purposes.sweep⟩

/-- The ledger of a state. -/
def State.ledger (s : State) : Ledger where
  lane := { fifo := s.receiver.fifo, synced := s.receiver.synced, budget := s.control.budget,
            markWaiting := s.control.markWaiting, refreshed := s.control.refreshed }
  queues := { relRun := s.panel.rel.run, silRun := s.panel.sil.run, requests := s.mgmt.requests, talking := s.mgmt.talking,
              retired := s.probes.retired }
  book := { emit := s.control.emitQueue, entries := s.probes.list.map ProbeEntry.key,
            wants := fun p => (s.port p).wants.sweep, sweep := s.sweep.record, spacing := s.profile.sweepSpacing }
  stations := s.stations

/-! ### Updates that leave the ledger as it stands -/

@[simp] theorem ledger_setTimer (s : State) (v : SlotTimer) : (s.setTimer v).ledger = s.ledger := rfl
@[simp] theorem ledger_setTallies (s : State) (v : Vector PortTally 40) : (s.setTallies v).ledger = s.ledger := rfl
@[simp] theorem ledger_setTally (s : State) (p : Port) (v : PortTally) : (s.setTally p v).ledger = s.ledger := rfl
@[simp] theorem ledger_setMeters (s : State) (v : Vector (PerClass Meter) 40) : (s.setMeters v).ledger = s.ledger := rfl
@[simp] theorem ledger_setPortMeters (s : State) (p : Port) (v : PerClass Meter) : (s.setPortMeters p v).ledger = s.ledger := rfl
@[simp] theorem ledger_setReport (s : State) (p : Port) (v : Option StepReport) : (s.setReport p v).ledger = s.ledger := rfl
@[simp] theorem ledger_setGrace (s : State) (v : Nat) : (s.setGrace v).ledger = s.ledger := rfl
@[simp] theorem ledger_setTrips (s : State) (v : List TripItem) : (s.setTrips v).ledger = s.ledger := rfl
@[simp] theorem ledger_setEvidence (s : State) (v : Vector EvidenceRecord 40) : (s.setEvidence v).ledger = s.ledger := rfl
@[simp] theorem ledger_setEvidenceOf (s : State) (p : Port) (v : EvidenceRecord) : (s.setEvidenceOf p v).ledger = s.ledger := rfl
@[simp] theorem ledger_setDue (s : State) (v : List Event) : (s.setDue v).ledger = s.ledger := rfl
@[simp] theorem ledger_pushDue (s : State) (e : Event) : (s.pushDue e).ledger = s.ledger := rfl

@[simp] theorem ledger_setReceiver (s : State) (v : Receiver) (hf : v.fifo = s.receiver.fifo)
    (hs : v.synced = s.receiver.synced) : (s.setReceiver v).ledger = s.ledger := by
  simp [State.ledger, hf, hs, State.setReceiver, State.port]

@[simp] theorem ledger_setControl (s : State) (v : Control) (hb : v.budget = s.control.budget)
    (hm : v.markWaiting = s.control.markWaiting) (hr : v.refreshed = s.control.refreshed)
    (he : v.emitQueue = s.control.emitQueue) : (s.setControl v).ledger = s.ledger := by
  simp [State.ledger, hb, hm, hr, he, State.setControl, State.port]

@[simp] theorem ledger_setPanel (s : State) (v : Panel) (hr : v.rel.run = s.panel.rel.run) (hs : v.sil.run = s.panel.sil.run) :
    (s.setPanel v).ledger = s.ledger := by simp [State.ledger, hr, hs, State.setPanel, State.port]

@[simp] theorem ledger_setMgmt (s : State) (v : Mgmt) (hr : v.requests = s.mgmt.requests) (ht : v.talking = s.mgmt.talking) :
    (s.setMgmt v).ledger = s.ledger := by simp [State.ledger, hr, ht, State.setMgmt, State.port]

@[simp] theorem ledger_setProbes (s : State) (v : ProbeEngine) (hr : v.retired = s.probes.retired)
    (h : v.list.map ProbeEntry.key = s.probes.list.map ProbeEntry.key) : (s.setProbes v).ledger = s.ledger := by
  simp [State.ledger, h, hr, State.setProbes, State.port]

@[simp] theorem ledger_setSweep (s : State) (v : SweepScheduler) (h : v.record = s.sweep.record) :
    (s.setSweep v).ledger = s.ledger := by simp [State.ledger, h, State.setSweep, State.port]

@[simp] theorem ledger_setPort (s : State) (p : Port) (v : PortRecord) (h : v.wants.sweep = (s.port p).wants.sweep) :
    (s.setPort p v).ledger = s.ledger := by
  have wants : (fun q => ((s.setPort p v).port q).wants.sweep) = fun q => (s.port q).wants.sweep := by
    funext q; by_cases hq : p = q
    · subst hq; simp [h]
    · simp [State.port_setPort, hq]
  simp [State.ledger, wants]

/-! ### Notices, wants, state changes and trips -/

@[simp] theorem raise_talking (n : Notice) (m : Mgmt) : (m.raise n).talking = m.talking := by rw [raise_noticesOnly n m]

@[simp] theorem ledger_raise (s : State) (n : Notice) : (s.raise n).ledger = s.ledger := by simp [State.raise]

@[simp] theorem ledger_raiseCheckDone (s : State) (p : Port) (t : Byte) (o : ProbeOutcome) (a : Option Port) :
    (s.raiseCheckDone p t o a).ledger = s.ledger := by simp [State.raiseCheckDone]

@[simp] theorem ledger_supersede (s : State) (p : Port) (w : Want) (u : Purposes) :
    (s.supersede p w u).ledger = s.ledger := by
  unfold State.supersede; split <;> simp

theorem add_sweep_of_ne {w : Want} (h : ∀ n, w ≠ .sweep n) (u : Purposes) : (u.add w).sweep = u.sweep := by
  cases w with
  | sweep n => exact absurd rfl (h n)
  | _ => rfl

theorem keys_map_eq {f : ProbeEntry → ProbeEntry} (h : ∀ e, (f e).key = e.key) (l : List ProbeEntry) :
    (l.map f).map ProbeEntry.key = l.map ProbeEntry.key := by simp [h]

@[simp] theorem ledger_setWant (s : State) (p : Port) (w : Want) (h : ∀ n, w ≠ .sweep n) :
    (s.setWant p w).ledger = s.ledger := by
  unfold State.setWant
  split
  · rw [ledger_setProbes]
    · simp
    · rfl
    · exact keys_map_eq (fun e => by split <;> simp [ProbeEntry.key, add_sweep_of_ne h]) _
  · simp [State.joinWants, add_sweep_of_ne h]

@[simp] theorem ledger_mapPurposes (s : State) (p : Port) (f : Purposes → Purposes) (h : ∀ u, (f u).sweep = u.sweep) :
    (s.mapPurposes p f).ledger = s.ledger := by
  unfold State.mapPurposes
  rw [ledger_setProbes, ledger_setPort]
  · exact h _
  · rfl
  · exact keys_map_eq (fun e => by split <;> simp [ProbeEntry.key, h]) _

@[simp] theorem ledger_leaveState (s : State) (p : Port) : (s.leaveState p).ledger = s.ledger := by
  unfold State.leaveState
  split
  · exact ledger_mapPurposes _ _ _ fun _ => rfl
  · exact ledger_mapPurposes _ _ _ fun _ => rfl
  · rfl

@[simp] theorem ledger_pendGate (s : State) (p : Port) (g : Gate) : (s.pendGate p g).ledger = s.ledger := by
  simp [State.pendGate]

@[simp] theorem ledger_enter (s : State) (p : Port) (x : PortState) : (s.enter p x).ledger = s.ledger := by
  unfold State.enter
  dsimp only
  split <;> split <;> simp

@[simp] theorem ledger_startBuzzer (s : State) : s.startBuzzer.ledger = s.ledger := by simp [State.startBuzzer]

@[simp] theorem ledger_stopBuzzer (s : State) : s.stopBuzzer.ledger = s.ledger := by simp [State.stopBuzzer]

@[simp] theorem ledger_recordTrip (s : State) (p : Port) (c : Cause) (x : PortState) (q : Option Port) (r : Option Half) :
    (s.recordTrip p c x q r).ledger = s.ledger := by
  unfold State.recordTrip; split <;> simp

@[simp] theorem ledger_trip (s : State) (p : Port) (c : Cause) (x : PortState) (q : Option Port) (r : Option Half) :
    (s.trip p c x q r).ledger = s.ledger := by
  unfold State.trip; dsimp only; split <;> simp [Mgmt.flagTripped]

@[simp] theorem ledger_blockingTrip (s : State) (p : Port) (c : Cause) (q : Option Port) (r : Option Half) :
    (s.blockingTrip p c q r).ledger = s.ledger := by
  unfold State.blockingTrip; dsimp only; split <;> simp

@[simp] theorem ledger_limitingTrip (s : State) (p : Port) (c : Cause) (q : Option Port) :
    (s.limitingTrip p c q).ledger = s.ledger := by
  unfold State.limitingTrip; dsimp only; split <;> simp

@[simp] theorem ledger_primingExit (s : State) (p : Port) : (s.primingExit p).ledger = s.ledger := by
  unfold State.primingExit; split
  · split <;> simp
  · rfl

@[simp] theorem ledger_reopen (s : State) (p : Port) : (s.reopen p).ledger = s.ledger := by simp [State.reopen]

@[simp] theorem ledger_countCalm (s : State) (p : Port) (r : StepReport) : (s.countCalm p r).ledger = s.ledger := by
  simp [State.countCalm]

@[simp] theorem ledger_judgeReport (s : State) (p : Port) (r : StepReport) : (s.judgeReport p r).ledger = s.ledger := by
  unfold State.judgeReport
  repeat' split
  all_goals simp

@[simp] theorem ledger_takeCalmHold (s : State) (p : Port) : (s.takeCalmHold p).ledger = s.ledger := by
  unfold State.takeCalmHold; split <;> simp

@[simp] theorem ledger_actOnReport (s : State) (p : Port) (r : StepReport) : (s.actOnReport p r).ledger = s.ledger := by
  unfold State.actOnReport; split <;> simp

end Sys2Proof.Machine
end

section
/-! The operations on ports, on the expiry and on the panel that leave the ledger as it stands. -/

namespace Sys2Proof.Machine

theorem ledger_foldl {α : Type} {f : State → α → State} (h : ∀ s a, (f s a).ledger = s.ledger) :
    ∀ (l : List α) (s : State), (l.foldl f s).ledger = s.ledger
  | [], _ => rfl
  | a :: l, s => (ledger_foldl h l (f s a)).trans (h s a)

/-! ### Conclusions, links, roles, releases and proofs -/

@[simp] theorem ledger_concludeLinkup (s : State) (p : Port) (u : Purposes) (o : ProbeOutcome) :
    (s.concludeLinkup p u o).ledger = s.ledger := by
  unfold State.concludeLinkup; split <;> simp

@[simp] theorem ledger_concludeRecover (s : State) (p : Port) (u : Purposes) (o : ProbeOutcome) :
    (s.concludeRecover p u o).ledger = s.ledger := by
  unfold State.concludeRecover; split <;> simp

@[simp] theorem ledger_concludeHost (s : State) (p : Port) (u : Purposes) (o : ProbeOutcome) (a : Option Port) :
    (s.concludeHost p u o a).ledger = s.ledger := by
  unfold State.concludeHost; split <;> simp

@[simp] theorem ledger_restartMeters (s : State) (p : Port) : (s.restartMeters p).ledger = s.ledger := rfl

@[simp] theorem ledger_restartForRole (s : State) (p : Port) (r : Role) : (s.restartForRole p r).ledger = s.ledger := rfl

@[simp] theorem ledger_forgetReport (s : State) (p : Port) (a b : Role) : (s.forgetReport p a b).ledger = s.ledger := by
  unfold State.forgetReport; split <;> simp

@[simp] theorem ledger_linkUp (s : State) (p : Port) : (s.linkUp p).ledger = s.ledger := by simp [State.linkUp]

@[simp] theorem ledger_setLink (s : State) (p : Port) (up : Bool) : (s.setLink p up).ledger = s.ledger := by
  simp [State.setLink]

@[simp] theorem ledger_hold (s : State) (p : Port) : (s.hold p).ledger = s.ledger := by simp [State.hold]

@[simp] theorem ledger_release (s : State) (p : Port) : (s.release p).ledger = s.ledger := by
  unfold State.release; dsimp only; repeat' split
  all_goals simp

@[simp] theorem ledger_roomRelease (s : State) : s.roomRelease.ledger = s.ledger := ledger_foldl ledger_release _ s

@[simp] theorem ledger_limitTrunk (s : State) (p : Port) (q : Option Port) : (s.limitTrunk p q).ledger = s.ledger := by
  unfold State.limitTrunk; split <;> simp

@[simp] theorem ledger_trunkLoop (s : State) (o x : Port) : (s.trunkLoop o x).ledger = s.ledger := by
  unfold State.trunkLoop; dsimp only; repeat' split
  all_goals simp

@[simp] theorem ledger_resolve (s : State) (o x : Port) (r : Bool) : (s.resolve o x r).1.ledger = s.ledger := by
  unfold State.resolve; dsimp only; repeat' split
  all_goals simp

@[simp] theorem ledger_flapWant (s : State) (p : Port) : (s.flapWant p).ledger = s.ledger := by
  unfold State.flapWant; split <;> simp

@[simp] theorem countUnmatched_list (tag : Half) (e : ProbeEngine) : (e.countUnmatched tag).list = e.list := by
  unfold ProbeEngine.countUnmatched; split <;> rfl

@[simp] theorem countUnmatched_retired (tag : Half) (e : ProbeEngine) : (e.countUnmatched tag).retired = e.retired := by
  unfold ProbeEngine.countUnmatched; split <;> rfl

@[simp] theorem ledger_unmatchedReturn (s : State) (x : Port) (o : Byte) (tag : Half) :
    (s.unmatchedReturn x o tag).ledger = s.ledger := by
  unfold State.unmatchedReturn; dsimp only; repeat' split
  all_goals simp

@[simp] theorem ledger_foreignReturn (s : State) (x : Port) (room : Half) :
    (s.foreignReturn x room).ledger = s.ledger := by
  unfold State.foreignReturn; dsimp only; repeat' split
  all_goals simp

@[simp] theorem ledger_renewWant (s : State) (p : Port) : (s.renewWant p).ledger = s.ledger := by
  unfold State.renewWant; split <;> simp

/-! ### Step reports and the counting of an expiry -/

@[simp] theorem ledger_handReport (s : State) (p : Port) : (s.handReport p).ledger = s.ledger := by
  unfold State.handReport; split <;> simp

theorem ledger_handUntilCalm : ∀ (l : List Port) (s : State), (s.handUntilCalm l).ledger = s.ledger
  | [], _ => rfl
  | p :: l, s => by
    unfold State.handUntilCalm
    dsimp only
    repeat' split
    all_goals simp [ledger_handUntilCalm l]

@[simp] theorem ledger_advanceTimer (s : State) : s.advanceTimer.ledger = s.ledger := by
  unfold State.advanceTimer; dsimp only; split <;> simp

@[simp] theorem ledger_countHunt (s : State) : s.countHunt.ledger = s.ledger := by
  unfold State.countHunt; dsimp only; repeat' split
  all_goals simp

@[simp] theorem ledger_countProbes (s : State) : s.countProbes.ledger = s.ledger := by simp [State.countProbes]

@[simp] theorem ledger_countBuzzer (s : State) : s.countBuzzer.ledger = s.ledger := by
  unfold State.countBuzzer; dsimp only; repeat' split
  all_goals simp

@[simp] theorem ledger_countFrameAge (s : State) : s.countFrameAge.ledger = s.ledger := by
  unfold State.countFrameAge; dsimp only; repeat' split
  all_goals simp

@[simp] theorem ledger_countBreak (s : State) (low : Bool) : (s.countBreak low).ledger = s.ledger := by
  unfold State.countBreak; dsimp only; repeat' split
  all_goals simp

@[simp] theorem ledger_applyTally (s : State) (p : Port) (u : TallyUse) : (s.applyTally p u).ledger = s.ledger := by
  have late (t : State) : (t.setMgmt t.mgmt.countLost).ledger = t.ledger := ledger_setMgmt _ _ rfl rfl
  have held (t : State) : (t.setMgmt t.mgmt.flagTallyHeld).ledger = t.ledger := ledger_setMgmt _ _ rfl rfl
  unfold State.applyTally; dsimp only
  split <;> split <;> simp only [late, held, ledger_setTally]

@[simp] theorem ledger_stepPort (slot : Byte) (b : Bool) (s : State) (p : Port) :
    (State.stepPort slot b s p).ledger = s.ledger := by
  unfold State.stepPort State.stepBaselines State.stepMeters; dsimp only; repeat' split
  all_goals simp

@[simp] theorem ledger_stepPorts (s : State) : s.stepPorts.ledger = s.ledger := ledger_foldl (ledger_stepPort _ _) _ s

@[simp] theorem ledger_meterWork (s : State) (first : Bool) : (s.meterWork first).ledger = s.ledger := by
  unfold State.meterWork; split
  · rfl
  · rw [ledger_foldl ledger_handReport, ledger_stepPorts]

@[simp] theorem ledger_countGrace (s : State) : s.countGrace.ledger = s.ledger := by
  unfold State.countGrace; dsimp only; repeat' split
  all_goals simp

@[simp] theorem ledger_countPortSecond (s : State) (p : Port) : (s.countPortSecond p).ledger = s.ledger := by
  unfold State.countPortSecond; dsimp only; repeat' split
  all_goals simp

@[simp] theorem ledger_countAutoSweep (s : State) : s.countAutoSweep.ledger = s.ledger := by
  unfold State.countAutoSweep; dsimp only; repeat' split
  all_goals simp

/-! ### Events -/

@[simp] theorem ledger_takeFabricLost (s : State) : s.takeFabricLost.ledger = s.ledger := by
  unfold State.takeFabricLost; split <;> simp

@[simp] theorem ledger_takeHoldOff (s : State) (p : Port) : (s.takeHoldOff p).ledger = s.ledger := by
  unfold State.takeHoldOff; split <;> simp

@[simp] theorem ledger_takeStrikeDecay (s : State) (p : Port) : (s.takeStrikeDecay p).ledger = s.ledger := by
  unfold State.takeStrikeDecay; split <;> simp

@[simp] theorem ledger_takeGraceEnd (s : State) : s.takeGraceEnd.ledger = s.ledger := by simp [State.takeGraceEnd]

@[simp] theorem ledger_flagKey (s : State) : s.flagKey.ledger = s.ledger := ledger_setMgmt _ _ rfl rfl

@[simp] theorem ledger_takeSilPress (s : State) : s.takeSilPress.ledger = s.ledger := by
  simp [State.takeSilPress, State.raisePanel]

@[simp] theorem ledger_takeRelPress (s : State) : s.takeRelPress.ledger = s.ledger :=
  (ledger_setPanel s.flagKey _ rfl rfl).trans (ledger_flagKey s)

@[simp] theorem ledger_releaseHead (s : State) : s.releaseHead.ledger = s.ledger := by
  unfold State.releaseHead State.raisePanel; repeat' split
  all_goals simp

@[simp] theorem ledger_takeRelRelease (s : State) : s.takeRelRelease.ledger = s.ledger := by
  unfold State.takeRelRelease; split <;> simp

@[simp] theorem ledger_takeTwoKey (s : State) : s.takeTwoKey.ledger = s.ledger := by
  unfold State.takeTwoKey State.raisePanel; dsimp only; repeat' split
  all_goals simp

@[simp] theorem ledger_takeBuzzerExpiry (s : State) : s.takeBuzzerExpiry.ledger = s.ledger := by
  unfold State.takeBuzzerExpiry; repeat' split
  all_goals simp

@[simp] theorem ledger_takeFrameTimeout (s : State) : s.takeFrameTimeout.ledger = s.ledger := by
  unfold State.takeFrameTimeout; repeat' split
  · exact ledger_setMgmt _ _ rfl rfl
  all_goals rfl

@[simp] theorem ledger_lowerStrikes (s : State) : s.lowerStrikes.ledger = s.ledger := by
  have wants : (fun q => (s.lowerStrikes.port q).wants.sweep) = fun q => (s.port q).wants.sweep := by
    funext q; simp [State.lowerStrikes, State.port, State.setPorts]
  simp only [State.ledger, wants]
  simp [State.lowerStrikes]

@[simp] theorem ledger_scanNext (s : State) : s.scanNext.ledger = s.ledger := by
  simp [State.scanNext]

end Sys2Proof.Machine
end

section
/-! What can happen to the ledger: a short list of changes, each an inductive case, and the states that a run of them reaches.
Every command is shown to be such a run, once, so that an invariant of the ledger is proved change by change. -/

namespace Sys2Proof.Machine

/-! ### The changes -/

/-- The changes of the fabric link: a reset, a record offered or dispatched (R8, R9), the receiver state (R5, R6), a new slot
(R15), and a grant, with the marks as they stand after it (R15, R19). -/
inductive LaneChange : FabricLane → FabricLane → Prop
  | restarted (q : FabricLane) :
      LaneChange q { fifo := [], synced := false, budget := 16, markWaiting := true, refreshed := false }
  | recordOffered (q : FabricLane) (r : SightingRecord) (room : q.fifo.length < 64) :
      LaneChange q { q with fifo := q.fifo ++ [r] }
  | recordTaken (q : FabricLane) (r : SightingRecord) (rest : List SightingRecord) (head : q.fifo = r :: rest) :
      LaneChange q { q with fifo := rest }
  | synced (q : FabricLane) (b : Bool) : LaneChange q { q with synced := b }
  | slotOpened (q : FabricLane) : LaneChange q { q with budget := 16, markWaiting := true, refreshed := false }
  | granted (q : FabricLane) (mark refreshed : Bool) :
      LaneChange q { q with budget := q.budget - 1, markWaiting := mark, refreshed := refreshed }

/-- The changes of the panel keys, the management link and the retired room id. -/
inductive QueueChange : LinkQueues → LinkQueues → Prop
  | restarted (q : LinkQueues) : QueueChange q { q with relRun := 0, silRun := 0, retired := none }
  | linkReset (q : LinkQueues) : QueueChange q { q with requests := [], talking := false }
  | keysSampled (q : LinkQueues) (rel sil : Nat) (hrel : rel < 20) (hsil : sil < 20) :
      QueueChange q { q with relRun := rel, silRun := sil }
  | frameQueued (q : LinkQueues) (f : Frame) (room : q.requests.length < 4) :
      QueueChange q { q with requests := q.requests ++ [f], talking := true }
  | frameTaken (q : LinkQueues) (f : Frame) (rest : List Frame) (head : q.requests = f :: rest) :
      QueueChange q { q with requests := rest }
  | heard (q : LinkQueues) : QueueChange q { q with talking := true }
  | retired (q : LinkQueues) (r : Option RetiredRoom) : QueueChange q { q with retired := r }

/-- The changes of the Station Table: entries leave it (R50, R56, R60), entries are refreshed or pruned in place (R51, R55,
R59), the entry of a station moves (R52) or is pinned (R58), or an entry joins (R48). -/
inductive StationChange : List StationEntry → List StationEntry → Prop
  | filtered (t : List StationEntry) (keep : StationEntry → Bool) : StationChange t (t.filter keep)
  | mapped (t : List StationEntry) (f : StationEntry → StationEntry)
      (kept : ∀ e, (f e).position = e.position ∧ (f e).address = e.address ∧ ((f e).pinned = true → e.pinned = true) ∧
        (f e).moves.length ≤ e.moves.length) : StationChange t (t.map f)
  | moved (t : List StationEntry) (e : StationEntry) (p : Port) (stamp : Half) (now : Word)
      (held : findStation e.address t = some e) : StationChange t (updateStation e.address (fun _ => e.move p stamp now) t)
  | pinned (t : List StationEntry) (e : StationEntry) (p : Port) (held : findStation e.address t = some e)
      (free : e.pinned = true ∨ pinnedCount t < 32) : StationChange t (updateStation e.address (StationEntry.pin p) t)
  | inserted (t : List StationEntry) (a : Address) (home : Port) (now : Word) (pin : Bool)
      (new : findStation a t = none) (free : pin = true → pinnedCount t < 32) :
      StationChange t (insertStation a home now pin t)

/-- The end of a sweep (R120). -/
def ProbeBook.endSweep (b : ProbeBook) : ProbeBook :=
  { b with sweep := none, wants := fun _ => none, entries := b.entries.map fun k => { k with sweep := none } }

/-- A sweep record put back, ended when it is complete (R125). -/
def ProbeBook.putSweep (b : ProbeBook) (r : SweepRecord) : ProbeBook :=
  if r.complete then b.endSweep else { b with sweep := some r }

/-- The conclusion of a purpose set that may hold SWEEP (R118, R124). -/
def ProbeBook.conclude (b : ProbeBook) (o : ProbeOutcome) : Option Byte → ProbeBook
  | none => b
  | some n => match b.sweep with
    | none => b
    | some r => if r.number = n then b.putSweep (r.count o) else b

/-- A SWEEP want set on a port (R62). -/
def ProbeBook.joinSweep (b : ProbeBook) (p : Port) (n : Byte) : ProbeBook :=
  if ∃ k ∈ b.entries, k.origin = p ∧ k.expiry = none then
    { b with entries := b.entries.map fun k => if k.origin = p ∧ k.expiry = none then { k with sweep := some n } else k }
  else { b with wants := Function.update b.wants p (some n) }

/-- The changes of the probe list, the want sets and the sweep record: a reset, a new spacing, the admission of a port (R66),
an order emitted (R68), a want set concluded VOID (R92), a SENT entry ended (R69, R71), a QUEUED entry withdrawn (R81), the
whole list emptied (R83), and the start, pacing, takes and end of a sweep (R118 to R125). -/
inductive BookChange : ProbeBook → ProbeBook → Prop
  | restarted (b : ProbeBook) (spacing : Nat) (range : spacing = b.spacing ∨ spacing ≤ 100) :
      BookChange b { emit := [], entries := [], wants := fun _ => none, sweep := none, spacing := spacing }
  | spaced (b : ProbeBook) (spacing : Nat) (range : spacing ≤ 100) : BookChange b { b with spacing := spacing }
  | admitted (b : ProbeBook) (p : Port) (room tag : Half) (nonzero : tag ≠ 0) (new : ∀ k ∈ b.entries, k.tag ≠ tag)
      (free : ∀ k ∈ b.entries, k.origin ≠ p) (short : b.entries.length < 24) :
      BookChange b { b with
        emit := b.emit ++ [{ room := room, origin := p, tag := tag }]
        entries := b.entries ++ [{ tag := tag, origin := p, expiry := none, sweep := b.wants p }]
        wants := Function.update b.wants p none }
  | emitted (b : ProbeBook) (o : EmitOrder) (rest : List EmitOrder) (t : Half) (head : b.emit = o :: rest) :
      BookChange b { b with
        emit := rest
        entries := b.entries.map fun k => if k.tag = o.tag ∧ k.expiry = none then { k with expiry := some t } else k }
  | voided (b : ProbeBook) (p : Port) :
      BookChange b (({ b with wants := Function.update b.wants p none } : ProbeBook).conclude .void (b.wants p))
  | ended (b : ProbeBook) (k : ProbeKey) (o : ProbeOutcome) (held : k ∈ b.entries) (sent : k.expiry ≠ none) :
      BookChange b (({ b with entries := b.entries.filter fun x => x.tag != k.tag } : ProbeBook).conclude o k.sweep)
  | withdrawn (b : ProbeBook) (k : ProbeKey) (held : k ∈ b.entries) (queued : k.expiry = none) :
      BookChange b (({ b with
        emit := b.emit.filter fun x => x.tag != k.tag
        entries := b.entries.filter fun x => x.tag != k.tag } : ProbeBook).conclude .void k.sweep)
  | emptied (b : ProbeBook) (removed : List ProbeKey) (all : removed.Perm b.entries) :
      BookChange b (removed.foldl (fun c k => c.conclude .void k.sweep) { b with emit := [], entries := [] })
  | started (b : ProbeBook) (r : SweepRecord) (idle : b.sweep = none) (range : r.first ≤ r.last)
      (next : r.next = r.first.val) (pacing : r.pacing = 1) (admitted : r.admitted = 0) (counted : r.counted = 0) :
      BookChange b { b with sweep := some r }
  | paced (b : ProbeBook) (r : SweepRecord) (running : b.sweep = some r) :
      BookChange b { b with sweep := some { r with pacing := r.pacing - 1 } }
  | took (b : ProbeBook) (r : SweepRecord) (p : Port) (pacing : Nat) (running : b.sweep = some r) (next : p.val = r.next)
      (inRange : p ≤ r.last) (range : pacing = 0 ∨ pacing = b.spacing) :
      BookChange b ((b.joinSweep p r.number).putSweep
        { r with next := r.next + 1, pacing := pacing, admitted := r.admitted + 1 })
  | skipped (b : ProbeBook) (r : SweepRecord) (p : Port) (pacing : Nat) (running : b.sweep = some r)
      (next : p.val = r.next) (inRange : p ≤ r.last) (range : pacing = 0 ∨ pacing = b.spacing) :
      BookChange b (b.putSweep { r with next := r.next + 1, pacing := pacing, skipped := r.skipped + 1 })
  | sweepEnded (b : ProbeBook) : BookChange b b.endSweep

/-- One change of the ledger. -/
inductive Ledger.Change : Ledger → Ledger → Prop
  | lane {l : Ledger} {q : FabricLane} (h : LaneChange l.lane q) : Change l { l with lane := q }
  | queues {l : Ledger} {q : LinkQueues} (h : QueueChange l.queues q) : Change l { l with queues := q }
  | book {l : Ledger} {b : ProbeBook} (h : BookChange l.book b) : Change l { l with book := b }
  | stations {l : Ledger} {t : List StationEntry} (h : StationChange l.stations t) : Change l { l with stations := t }

/-- The ledger of `t` comes from that of `s` by a run of changes. -/
def Reaches (s t : State) : Prop := Relation.ReflTransGen Ledger.Change s.ledger t.ledger

theorem Reaches.of_eq {s t : State} (h : t.ledger = s.ledger) : Reaches s t := by rw [Reaches, h]

theorem Reaches.refl (s : State) : Reaches s s := .of_eq rfl

theorem Reaches.trans {s t u : State} (h : Reaches s t) (k : Reaches t u) : Reaches s u := Relation.ReflTransGen.trans h k

theorem Reaches.of_lane {s t : State} {q : FabricLane} (h : LaneChange s.ledger.lane q)
    (e : t.ledger = { s.ledger with lane := q }) : Reaches s t := by
  rw [Reaches, e]; exact .single (.lane h)

/-- A run of changes that leaves the fabric link as it stands. -/
def Settles (s t : State) : Prop := Reaches s t ∧ t.ledger.lane = s.ledger.lane

theorem Settles.reaches {s t : State} (h : Settles s t) : Reaches s t := h.1

theorem Settles.of_eq {s t : State} (h : t.ledger = s.ledger) : Settles s t := ⟨.of_eq h, by rw [h]⟩

theorem Settles.refl (s : State) : Settles s s := .of_eq rfl

theorem Settles.trans {s t u : State} (h : Settles s t) (k : Settles t u) : Settles s u := ⟨h.1.trans k.1, k.2.trans h.2⟩

theorem Settles.of_queues {s t : State} {q : LinkQueues} (h : QueueChange s.ledger.queues q)
    (e : t.ledger = { s.ledger with queues := q }) : Settles s t :=
  ⟨by rw [Reaches, e]; exact .single (.queues h), by rw [e]⟩

theorem Settles.of_book {s t : State} {b : ProbeBook} (h : BookChange s.ledger.book b)
    (e : t.ledger = { s.ledger with book := b }) : Settles s t :=
  ⟨by rw [Reaches, e]; exact .single (.book h), by rw [e]⟩

theorem Settles.of_stations {s : State} {t : List StationEntry} (h : StationChange s.stations t) :
    Settles s (s.setStations t) := ⟨.single (.stations (l := s.ledger) h), rfl⟩

theorem Settles.foldl {α : Type} {f : State → α → State} (h : ∀ s a, Settles s (f s a)) :
    ∀ (l : List α) (s : State), Settles s (l.foldl f s)
  | [], s => .refl s
  | a :: l, s => (h s a).trans (Settles.foldl h l (f s a))

/-! ### Sweeps and conclusions -/

theorem ledger_dropSweeps (s : State) : s.dropSweeps.ledger = { s.ledger with book := { s.ledger.book with
    wants := fun _ => none, entries := s.ledger.book.entries.map fun k => { k with sweep := none } } } := by
  have wants : ∀ q, (s.dropSweeps.port q).wants.sweep = none := fun q => by
    simp [State.dropSweeps, State.port, State.setPorts, Purposes.dropSweep]
  simp only [State.ledger, wants]
  simp [State.dropSweeps, ProbeEntry.key, Purposes.dropSweep, Function.comp_def]

theorem ledger_setSweep_record (s : State) (v : SweepScheduler) :
    (s.setSweep v).ledger = { s.ledger with book := { s.ledger.book with sweep := v.record } } := rfl

theorem ledger_endSweep (s : State) (r : SweepRecord) (e : SweepEnd) :
    (s.endSweep r e).ledger = { s.ledger with book := s.ledger.book.endSweep } := by
  simp [State.endSweep, ledger_setSweep_record, ledger_dropSweeps, ProbeBook.endSweep]

theorem ledger_putSweep (s : State) (r : SweepRecord) :
    (s.putSweep r).ledger = { s.ledger with book := s.ledger.book.putSweep r } := by
  unfold State.putSweep ProbeBook.putSweep
  split
  · rw [ledger_endSweep]; rfl
  · rfl

theorem ledger_concludeSweep (s : State) (u : Purposes) (o : ProbeOutcome) :
    (s.concludeSweep u o).ledger = { s.ledger with book := s.ledger.book.conclude o u.sweep } := by
  have record : s.ledger.book.sweep = s.sweep.record := rfl
  unfold State.concludeSweep State.deliverSweep ProbeBook.conclude
  rw [record]
  cases u.sweep with
  | none => rfl
  | some n => cases s.sweep.record with
    | none => rfl
    | some r =>
      dsimp only
      split
      · exact ledger_putSweep _ _
      · rfl

theorem ledger_conclude (s : State) (p : Port) (u : Purposes) (o : ProbeOutcome) (a : Option Port) :
    (s.conclude p u o a).ledger = { s.ledger with book := s.ledger.book.conclude o u.sweep } := by
  simp [State.conclude, ledger_concludeSweep]

theorem ledger_setPort_wants (s : State) (p : Port) (v : PortRecord) : (s.setPort p v).ledger =
    { s.ledger with book := { s.ledger.book with wants := Function.update s.ledger.book.wants p v.wants.sweep } } := by
  have wants : (fun q => ((s.setPort p v).port q).wants.sweep) =
      Function.update (fun q => (s.port q).wants.sweep) p v.wants.sweep := by
    funext q; by_cases hq : q = p
    · subst hq; simp
    · simp [State.port_setPort_of_ne _ _ _ _ (Ne.symm hq), hq]
  simp [State.ledger, wants]

theorem settles_voidWants (s : State) (p : Port) : Settles s (s.voidWants p) :=
  .of_book (.voided s.ledger.book p) (by rw [State.voidWants, ledger_conclude, ledger_setPort_wants]; rfl)

/-! ### Entries that leave the probe list -/

theorem keys_filter_tag (l : List ProbeEntry) (t : Half) :
    (l.filter fun x => x.tag != t).map ProbeEntry.key = (l.map ProbeEntry.key).filter fun k => k.tag != t := by
  rw [List.filter_map]; rfl

theorem ledger_setProbes_list (s : State) (v : ProbeEngine) (h : v.retired = s.probes.retired) : (s.setProbes v).ledger =
    { s.ledger with book := { s.ledger.book with entries := v.list.map ProbeEntry.key } } := by
  simp [State.ledger, State.setProbes, State.port, h]

theorem settles_removeQueued (s : State) (p : Port) : Settles s (s.removeQueued p) := by
  unfold State.removeQueued
  split
  case h_2 => exact .refl s
  case h_1 e found =>
    have queued : e.origin = p ∧ e.expiry = none := by simpa using List.find?_some found
    have held : e.key ∈ s.ledger.book.entries := List.mem_map_of_mem (List.mem_of_find?_eq_some found)
    refine .of_book (.withdrawn s.ledger.book e.key held queued.2) ?_
    rw [ledger_conclude]
    simp only [State.ledger, State.setControl_control, State.setProbes_control, State.setControl_probes,
      State.setProbes_probes, keys_filter_tag]
    rfl

/-- A SENT entry that leaves the list and concludes, whatever else has happened to the state between the two. -/
theorem settles_ended {s u : State} {e : ProbeEntry} (o : ProbeOutcome) (a : Option Port) (held : e ∈ s.probes.list)
    (sent : e.expiry ≠ none)
    (removed : u.ledger = (s.setProbes { s.probes with list := s.probes.list.filter fun x => x.tag != e.tag }).ledger) :
    Settles s (u.conclude e.origin e.purposes o a) := by
  have key : e.key ∈ s.ledger.book.entries := List.mem_map_of_mem held
  refine .of_book (.ended s.ledger.book e.key o key sent) ?_
  rw [ledger_conclude, removed, ledger_setProbes_list _ _ (by rfl), keys_filter_tag]
  rfl

theorem reached_sent {now : Half} {e : ProbeEntry} (h : e.reached now = true) : e.expiry ≠ none := fun none => by
  simp [ProbeEntry.reached, none] at h

theorem reachedEntry_some {s : State} {o : Port} {e : ProbeEntry} (h : s.reachedEntry o = some e) :
    e ∈ s.probes.list ∧ e.origin = o ∧ e.reached s.stamp = true := by
  have found := List.find?_some h
  simp only [Bool.and_eq_true, beq_iff_eq] at found
  exact ⟨List.mem_of_find?_eq_some h, found⟩

theorem settles_takeProbeExpiry (s : State) (o : Port) : Settles s (s.takeProbeExpiry o) := by
  unfold State.takeProbeExpiry
  split
  case h_2 => exact .refl s
  case h_1 e found =>
    obtain ⟨held, rfl, reached⟩ := reachedEntry_some found
    exact settles_ended .clear none held (reached_sent reached) rfl

theorem matching_some {s : State} {origin : Byte} {tag : Half} {e : ProbeEntry} (h : s.matching origin tag = some e) :
    e ∈ s.probes.list ∧ e.expiry ≠ none := by
  have found := List.find?_some h
  refine ⟨List.mem_of_find?_eq_some h, fun none => ?_⟩
  simp [none] at found

theorem settles_matchedReturn (s : State) (e : ProbeEntry) (x : Port) (held : e ∈ s.probes.list) (sent : e.expiry ≠ none) :
    Settles s (s.matchedReturn e x) :=
  settles_ended _ _ held sent (ledger_resolve _ _ _ _)

theorem inPortOrder_perm (l : List ProbeEntry) : (inPortOrder l).Perm l := by
  classical
  refine List.perm_iff_count.2 fun e => ?_
  have one : ∀ p, List.count e (l.filter fun x => x.origin == p) = if p = e.origin then List.count e l else 0 := by
    intro p
    split
    · subst_vars; exact List.count_filter (beq_self_eq_true _)
    · rename_i h
      exact List.count_eq_zero.2 fun hm => h (beq_iff_eq.1 (List.mem_filter.1 hm).2).symm
  simp only [inPortOrder, List.count_flatMap, Function.comp_def, one]
  rw [List.sum_map_eq_nsmul_single e.origin _ fun p h _ => if_neg h,
    List.count_eq_one_of_mem nodup_allPorts (port_mem_allPorts _)]
  simp

theorem foldl_conclude_ledger (o : ProbeOutcome) : ∀ (l : List ProbeEntry) (s : State),
    (l.foldl (fun t e => t.conclude e.origin e.purposes o none) s).ledger =
      { s.ledger with book := (l.map ProbeEntry.key).foldl (fun c k => c.conclude o k.sweep) s.ledger.book }
  | [], _ => rfl
  | e :: l, s => by
    rw [List.foldl_cons, foldl_conclude_ledger o l, ledger_conclude]
    rfl

theorem settles_roomChanged (s : State) (old : Half) : Settles s (s.roomChanged old) := by
  have all : ((inPortOrder s.probes.list).map ProbeEntry.key).Perm s.ledger.book.entries := (inPortOrder_perm _).map _
  have retired : Settles s (s.setProbes { s.probes with retired := some { room := old, left := 250 } }) :=
    .of_queues (.retired _ _) rfl
  refine retired.trans (.of_book (.emptied s.ledger.book _ all) ?_)
  rw [State.roomChanged, ledger_foldl ledger_renewWant, foldl_conclude_ledger]
  rfl

end Sys2Proof.Machine
end

section
/-! The admission, the Station Table and the sweeps as runs of changes. -/

namespace Sys2Proof.Machine

/-! ### Tags and the admission (R64, R66) -/

/-- The tag search ends at the first candidate that is free, unless none of its candidates is (R64). -/
theorem nextTag_first (used : List Half) : ∀ (fuel : Nat) (c : Half),
    (∃ i < fuel, nextTag fuel c used = c + 1 + BitVec.ofNat 16 i ∧ c + 1 + BitVec.ofNat 16 i ∉ 0 :: used ∧
      ∀ j < i, c + 1 + BitVec.ofNat 16 j ∈ 0 :: used) ∨
    ∀ j < fuel, c + 1 + BitVec.ofNat 16 j ∈ 0 :: used
  | 0, _ => .inr fun _ h => absurd h (Nat.not_lt_zero _)
  | fuel + 1, c => by
    by_cases taken : c + 1 = 0 ∨ c + 1 ∈ used
    · have first : c + 1 ∈ 0 :: used := List.mem_cons.2 taken
      have shift : ∀ j, c + 1 + BitVec.ofNat 16 (j + 1) = c + 1 + 1 + BitVec.ofNat 16 j := fun j => by
        rw [BitVec.ofNat_add]; ac_rfl
      have upTo : ∀ n, (∀ j < n, c + 1 + 1 + BitVec.ofNat 16 j ∈ 0 :: used) →
          ∀ j < n + 1, c + 1 + BitVec.ofNat 16 j ∈ 0 :: used := by
        intro n h j hj
        cases j with
        | zero => simpa using first
        | succ j => rw [shift]; exact h j (by omega)
      rw [nextTag, if_pos taken]
      obtain ⟨i, hi, e, free, before⟩ | all := nextTag_first used fuel (c + 1)
      · exact .inl ⟨i + 1, by omega, by rw [shift, e], by rw [shift]; exact free, upTo i before⟩
      · exact .inr (upTo fuel all)
    · rw [nextTag, if_neg taken]
      exact .inl ⟨0, by omega, by simp, by simpa using taken, fun j h => absurd h (Nat.not_lt_zero _)⟩

/-- With fewer than 24 entries the new tag is free, and the first free one after the tag counter (R64). -/
theorem newTag_first (e : ProbeEngine) (short : e.list.length < 24) :
    ∃ i < 65536, e.newTag = e.tagCounter + 1 + BitVec.ofNat 16 i ∧ e.newTag ∉ 0 :: e.list.map (·.tag) ∧
      ∀ j < i, e.tagCounter + 1 + BitVec.ofNat 16 j ∈ 0 :: e.list.map (·.tag) := by
  obtain ⟨i, hi, eq, free, before⟩ | all := nextTag_first (e.list.map (·.tag)) (e.list.length + 2) e.tagCounter
  · exact ⟨i, by omega, eq, by rw [ProbeEngine.newTag, eq]; exact free, before⟩
  · have distinct : ((List.range (e.list.length + 2)).map fun j => e.tagCounter + 1 + BitVec.ofNat 16 j).Nodup := by
      refine List.Nodup.map_on (fun x hx y hy h => ?_) List.nodup_range
      have := congrArg BitVec.toNat (add_left_cancel h)
      simp only [List.mem_range] at hx hy
      simpa [Nat.mod_eq_of_lt (show x < 65536 by omega), Nat.mod_eq_of_lt (show y < 65536 by omega)] using this
    have sub : ((List.range (e.list.length + 2)).map fun j => e.tagCounter + 1 + BitVec.ofNat 16 j) ⊆
        0 :: e.list.map (·.tag) := by
      intro x hx
      obtain ⟨j, hj, rfl⟩ := List.mem_map.1 hx
      exact all j (List.mem_range.1 hj)
    have := (distinct.subperm sub).length_le
    simp at this

theorem entryOf_isNone_iff (s : State) (p : Port) : (s.entryOf p).isNone = true ↔ ∀ e ∈ s.probes.list, e.origin ≠ p := by
  simp [State.entryOf, List.find?_eq_none]

theorem admissible_iff (s : State) (p : Port) : s.admissible p = true ↔
    (s.port p).wants.isEmpty = false ∧ (∀ e ∈ s.probes.list, e.origin ≠ p) ∧ s.probes.list.length < 24 := by
  rw [State.admissible, Bool.and_eq_true, Bool.and_eq_true, entryOf_isNone_iff, and_assoc]
  simp

theorem settles_admitPort (s : State) (p : Port) : Settles s (s.admitPort p) := by
  unfold State.admitPort
  split
  case isFalse => exact .refl s
  case isTrue h =>
    obtain ⟨-, free, short⟩ := (admissible_iff s p).1 h
    obtain ⟨-, -, -, new, -⟩ := newTag_first s.probes short
    refine .of_book (.admitted s.ledger.book p s.profile.roomId s.probes.newTag ?_ ?_ ?_ ?_) ?_
    · exact fun h => new (h ▸ List.mem_cons_self)
    · intro k hk h
      obtain ⟨e, he, rfl⟩ := List.mem_map.1 hk
      exact new (h ▸ List.mem_cons_of_mem _ (List.mem_map_of_mem he))
    · intro k hk
      obtain ⟨e, he, rfl⟩ := List.mem_map.1 hk
      exact free e he
    · simpa [State.ledger] using short
    · have list : (s.probes.list ++ [({ tag := s.probes.newTag, origin := p, purposes := (s.port p).wants, expiry := none } :
          ProbeEntry)]).map ProbeEntry.key = s.ledger.book.entries ++
            [{ tag := s.probes.newTag, origin := p, expiry := none, sweep := (s.port p).wants.sweep }] := by
        rw [List.map_append]; rfl
      have control : ∀ (t : State) (v : Control), v.budget = t.control.budget →
          v.markWaiting = t.control.markWaiting → v.refreshed = t.control.refreshed → (t.setControl v).ledger =
            { t.ledger with book := { t.ledger.book with emit := v.emitQueue } } := by
        intro t v hb hm hr; simp [State.ledger, State.setControl, State.port, hb, hm, hr]
      refine (control _ _ (by rfl) (by rfl) (by rfl)).trans ?_
      rw [ledger_setPort_wants, ledger_setProbes_list _ _ (by rfl)]
      simp only [list]
      rfl

theorem settles_admitWants (s : State) : Settles s s.admitWants := .foldl settles_admitPort _ s

/-! ### The Station Table -/

theorem findStation_some {a : Address} {t : List StationEntry} {e : StationEntry} (h : findStation a t = some e) :
    e ∈ t ∧ e.address = a := ⟨List.mem_of_find?_eq_some h, by simpa using List.find?_some h⟩

/-- One entry's image, where no image changes a place in the table, pins an entry or lengthens a move list. -/
theorem settles_updateStation (s : State) (a : Address) (f : StationEntry → StationEntry)
    (kept : ∀ e, (f e).position = e.position ∧ (f e).address = e.address ∧ ((f e).pinned = true → e.pinned = true) ∧
      (f e).moves.length ≤ e.moves.length) : Settles s (s.setStations (updateStation a f s.stations)) :=
  .of_stations (.mapped _ _ fun e => by split; exacts [kept e, ⟨rfl, rfl, id, Nat.le_refl _⟩])

theorem settles_flap (s : State) (a : Address) (p q : Port) : Settles s (s.flap a p q) :=
  (Settles.of_eq (by simp)).trans (settles_updateStation (((s.raise (.flap p q a s.second)).flapWant p).flapWant q) a _
    fun _ => ⟨rfl, rfl, id, Nat.zero_le _⟩)

theorem settles_moveStation {s : State} {e : StationEntry} (p : Port) (h : findStation e.address s.stations = some e) :
    Settles s (s.moveStation e p) := by
  have moved := Settles.of_stations (s := s) (.moved s.stations e p s.stamp s.second h)
  unfold State.moveStation
  dsimp only
  split
  · exact moved.trans (settles_flap _ _ _ _)
  · exact moved

theorem settles_learn (s : State) (p : Port) (a : Address) : Settles s (s.learn p a) := by
  unfold State.learn
  split
  case isFalse => exact .refl s
  case isTrue =>
    split
    case h_1 new => exact .of_stations (.inserted _ a p s.second false new fun h => absurd h (by decide))
    case h_2 e found =>
      split
      · exact settles_updateStation s a _ fun _ => ⟨rfl, rfl, id, Nat.le_refl _⟩
      · exact settles_moveStation p ((findStation_some found).2.symm ▸ found)

theorem settles_countStations (s : State) : Settles s s.countStations :=
  (Settles.of_stations (.filtered _ _)).trans (.of_stations (s := s.setStations _)
    (.mapped _ (StationEntry.prune s.stamp) fun _ => ⟨rfl, rfl, id, List.length_filter_le _ _⟩))

theorem settles_reqStationPin (s : State) (a : Address) (port : Byte) : Settles s (s.reqStationPin a port).1 := by
  have pinned : ∀ p t, s.pinned a p = some t → Settles s (s.setStations t) := by
    intro p t h
    unfold State.pinned at h
    split at h
    case h_1 e found =>
      split at h
      · obtain rfl := Option.some.inj h
        obtain ⟨-, rfl⟩ := findStation_some found
        exact .of_stations (.pinned _ e p found ‹_›)
      · exact absurd h (by simp)
    case h_2 new =>
      split at h
      · obtain rfl := Option.some.inj h
        exact .of_stations (.inserted _ a p s.second true new fun _ => ‹_›)
      · exact absurd h (by simp)
  unfold State.reqStationPin
  split
  · exact .refl s
  · split
    · exact pinned _ _ ‹_›
    · exact .refl s

theorem settles_reqStationUnpin (s : State) (a : Address) : Settles s (s.reqStationUnpin a).1 := by
  unfold State.reqStationUnpin
  split
  · exact .refl s
  · dsimp only
    split
    · exact settles_updateStation s a _ fun _ => ⟨rfl, rfl, fun h => absurd h (by simp), Nat.le_refl _⟩
    · exact .refl s

theorem settles_reqStationFlush (s : State) (port : Byte) : Settles s (s.reqStationFlush port).1 := by
  unfold State.reqStationFlush
  split
  · exact .refl s
  · exact .of_stations (.filtered _ _)

/-! ### Sweeps -/

theorem settles_startSweep (s : State) (host : Option Byte) (f l : Port) (idle : s.sweep.record = none) (range : f ≤ l) :
    Settles s (s.startSweep host f l) :=
  .of_book (.started s.ledger.book
      { host := host, number := s.sweep.number + 1, first := f, last := l, next := f.val, pacing := 1, admitted := 0,
        clear := 0, contained := 0, looped := 0, skipped := 0 } idle range rfl rfl rfl rfl)
    (ledger_setSweep_record s _)

theorem settles_endSweep (s : State) (r : SweepRecord) (e : SweepEnd) : Settles s (s.endSweep r e) :=
  .of_book (.sweepEnded _) (ledger_endSweep s r e)

theorem ledger_setWant_sweep (s : State) (p : Port) (n : Byte) :
    (s.setWant p (.sweep n)).ledger = { s.ledger with book := s.ledger.book.joinSweep p n } := by
  have iff : (∃ k ∈ s.ledger.book.entries, k.origin = p ∧ k.expiry = none) ↔ (s.queuedEntry p).isSome = true := by
    simp [State.ledger, ProbeEntry.key, State.queuedEntry]
  have key : ∀ e : ProbeEntry, ProbeEntry.key (if e.origin = p ∧ e.expiry = none then
      { e with purposes := e.purposes.add (.sweep n) } else e) =
      if e.key.origin = p ∧ e.key.expiry = none then { e.key with sweep := some n } else e.key := by
    intro e
    by_cases h : e.origin = p ∧ e.expiry = none
    · rw [if_pos h, if_pos (show e.key.origin = p ∧ e.key.expiry = none from h)]; rfl
    · rw [if_neg h, if_neg (show ¬(e.key.origin = p ∧ e.key.expiry = none) from h)]
  unfold State.setWant ProbeBook.joinSweep
  split
  case h_1 e found =>
    have present := iff.2 (by rw [found]; rfl)
    rw [if_pos present, ledger_setProbes_list _ _ (by rfl), ledger_supersede]
    simp only [joinEntry, List.map_map, Function.comp_def, key, supersede_probes]
    rw [show s.ledger.book.entries = s.probes.list.map ProbeEntry.key from rfl, List.map_map]
    rfl
  case h_2 absent =>
    have none : ¬∃ k ∈ s.ledger.book.entries, k.origin = p ∧ k.expiry = Option.none := fun h => by
      have := iff.1 h; rw [absent] at this; exact absurd this (by decide)
    rw [if_neg none, State.joinWants, ledger_setPort_wants, ledger_supersede]
    rfl

theorem settles_takeSweepPort (s : State) : Settles s s.takeSweepPort := by
  unfold State.takeSweepPort
  split
  case h_1 => exact .refl s
  case h_2 r running =>
    split
    case isFalse => exact .refl s
    case isTrue h =>
      have spacing : (if r.last.val < r.next + 1 then 0 else s.profile.sweepSpacing) = 0 ∨
          (if r.last.val < r.next + 1 then 0 else s.profile.sweepSpacing) = s.ledger.book.spacing := by
        split; exacts [.inl rfl, .inr rfl]
      dsimp only
      split
      · exact .of_book (.took s.ledger.book r ⟨r.next, _⟩ _ running rfl h spacing)
          (by rw [ledger_putSweep, ledger_setWant_sweep])
      · exact .of_book (.skipped s.ledger.book r ⟨r.next, Nat.lt_of_le_of_lt h r.last.isLt⟩ _ running rfl h spacing)
          (ledger_putSweep _ _)

theorem settles_countPacing (s : State) : Settles s s.countPacing := by
  unfold State.countPacing
  split
  case h_2 => exact .refl s
  case h_1 r running =>
    split
    case isFalse => exact .refl s
    case isTrue =>
      have paced := Settles.of_book (.paced s.ledger.book r running)
        (ledger_setSweep_record s { s.sweep with record := some { r with pacing := r.pacing - 1 } })
      dsimp only
      split
      · exact paced
      · exact paced

theorem settles_takeAutoSweep (s : State) : Settles s s.takeAutoSweep := by
  have timer : ∀ t : State, Settles t (t.setSweep { t.sweep with timer := t.profile.sweepPeriod }) := fun t =>
    .of_eq (ledger_setSweep t _ rfl)
  unfold State.takeAutoSweep
  dsimp only
  split
  · exact (settles_startSweep s none 0 39 ‹_› (by decide)).trans (timer _)
  · exact timer s

theorem settles_takeSweepTake (s : State) : Settles s s.takeSweepTake := by
  unfold State.takeSweepTake
  split
  · split
    · exact settles_takeSweepPort s
    · exact .refl s
  · exact .refl s

theorem settles_reqSweep (s : State) (tag first last : Byte) : Settles s (s.reqSweep tag first last).1 := by
  unfold State.reqSweep
  split
  case h_2 => exact .refl s
  case h_1 f l _ _ =>
    split
    case isTrue => exact .refl s
    case isFalse h =>
      have range : f ≤ l := not_lt.1 h
      split
      · exact settles_startSweep s _ f l ‹_› range
      · split
        · exact .refl s
        · exact (settles_endSweep s _ _).trans (settles_startSweep _ _ f l rfl range)

theorem settles_reqAbort (s : State) : Settles s s.reqAbort.1 := by
  unfold State.reqAbort
  split
  · exact .refl s
  · exact settles_endSweep s _ _

end Sys2Proof.Machine
end

section
/-! Every command as a run of changes of the ledger. -/

namespace Sys2Proof.Machine

/-! ### Links, roles and returns -/

theorem settles_linkDown (s : State) (p : Port) : Settles s (s.linkDown p) :=
  ((Settles.of_eq (by simp)).trans (settles_voidWants _ p)).trans (settles_removeQueued _ p)

theorem settles_takeLink (s : State) (p : Port) (up : Bool) : Settles s (s.takeLink p up) := by
  have down : Settles s (if up then s else s.linkDown p) := by
    split
    · exact .refl s
    · exact settles_linkDown s p
  unfold State.takeLink
  split
  case h_1 => exact .of_eq (ledger_setLink s p up)
  case h_2 => exact .of_eq (ledger_setLink s p up)
  case h_3 =>
    split
    · exact .of_eq (ledger_linkUp s p)
    · exact .refl s
  all_goals exact down

theorem settles_changeRole (s : State) (p : Port) (role : Role) : Settles s (s.changeRole p role) := by
  have first : Settles s (s.setPort p { s.port p with strikes := 0, linkup := .unset }) := .of_eq (by simp)
  unfold State.changeRole
  dsimp only
  split
  all_goals exact ((first.trans (settles_voidWants _ p)).trans (settles_removeQueued _ p)).trans (.of_eq (by simp))

theorem settles_takeReturn (s : State) (x : Port) (room : Half) (origin : Byte) (tag : Half) :
    Settles s (s.takeReturn x room origin tag) := by
  unfold State.takeReturn
  repeat' split
  · obtain ⟨held, sent⟩ := matching_some ‹_›
    exact settles_matchedReturn s _ x held sent
  all_goals exact .of_eq (by simp)

/-! ### The slot expiry -/

theorem settles_takeSecond (s : State) : Settles s s.takeSecond := by
  have stations := settles_countStations
    (s.setTimer { s.timer with secondCount := s.timer.secondCount + 1, position := 0 }).countGrace
  refine (Settles.of_eq (by simp)).trans (stations.trans (.of_eq ?_))
  simp [State.takeSecond, ledger_foldl ledger_countPortSecond]

theorem settles_takeLinkBreak (s : State) : Settles s s.takeLinkBreak := by
  unfold State.takeLinkBreak
  split
  · exact .of_queues (.linkReset _) rfl
  · exact .refl s

theorem settles_takeRetireEnd (s : State) : Settles s s.takeRetireEnd := by
  unfold State.takeRetireEnd
  split
  · split
    · exact .of_queues (.retired _ none) rfl
    · exact .refl s
  · exact .refl s

theorem settles_takeEvent (s : State) : ∀ e, Settles s (s.takeEvent e)
  | .second => settles_takeSecond s
  | .probeExpired o => settles_takeProbeExpiry s o
  | .autoSweep => settles_takeAutoSweep s
  | .sweepTake => settles_takeSweepTake s
  | .linkBreak => settles_takeLinkBreak s
  | .admission => settles_admitWants s
  | .reports p => .of_eq (ledger_foldl ledger_handReport (portsAbove p) s)
  | .fabricLost => .of_eq (ledger_takeFabricLost s)
  | .calmHold p => .of_eq (ledger_takeCalmHold s p)
  | .retireEnd => settles_takeRetireEnd s
  | .holdOff p => .of_eq (ledger_takeHoldOff s p)
  | .strikeDecay p => .of_eq (ledger_takeStrikeDecay s p)
  | .grace => .of_eq (ledger_takeGraceEnd s)
  | .silPress => .of_eq (ledger_takeSilPress s)
  | .relPress => .of_eq (ledger_takeRelPress s)
  | .relRelease => .of_eq (ledger_takeRelRelease s)
  | .silRelease => .refl s
  | .twoKey => .of_eq (ledger_takeTwoKey s)
  | .buzzer => .of_eq (ledger_takeBuzzerExpiry s)
  | .frameTimeout => .of_eq (ledger_takeFrameTimeout s)

theorem settles_takeDue (s : State) (e : Event) : Settles s (s.takeDue e) := by
  unfold State.takeDue
  split
  · exact (Settles.of_eq (ledger_setDue s (s.due.erase e))).trans (settles_takeEvent _ e)
  · exact .refl s

theorem settles_finishReports (s : State) : Settles s s.finishReports := .foldl settles_takeDue _ s

theorem settles_takeAfterReports (s : State) (e : Event) : Settles s (s.takeAfterReports e) := by
  unfold State.takeAfterReports
  split
  · exact (settles_finishReports s).trans (settles_takeDue _ e)
  · exact .refl s

theorem settles_close (s : State) : Settles s s.close := by
  have second := (settles_finishReports s).trans (settles_takeDue _ .second)
  have events := second.trans (Settles.foldl settles_takeEvent
    ((s.finishReports.takeDue .second).due.filter fun e => e != .second && e != .admission)
    ((s.finishReports.takeDue .second).setDue []))
  unfold State.close
  dsimp only
  split
  · exact events.trans (settles_admitWants _)
  · exact events

theorem settles_resumeReports (s : State) : Settles s s.resumeReports := by
  unfold State.resumeReports
  repeat' split
  · exact .refl s
  · exact .of_eq (ledger_handUntilCalm _ _)
  · exact .refl s

theorem settles_takeReopening (s : State) (p : Port) : Settles s (s.takeReopening p) := by
  unfold State.takeReopening
  repeat' split
  · exact settles_takeDue s _
  · exact (settles_resumeReports s).trans (settles_takeDue _ _)
  · exact .refl s

theorem sample_run_lt (down : Bool) (f : KeyFilter) : (f.sample down).1.run < 20 := by
  unfold KeyFilter.sample
  split
  · exact Nat.zero_lt_succ _
  · split
    · exact Nat.zero_lt_succ _
    · exact not_le.1 ‹_›

theorem settles_countKeys (s : State) (lines : SlotLines) : Settles s (s.countKeys lines) :=
  .of_queues (.keysSampled _ _ _ (sample_run_lt lines.relDown s.panel.rel) (sample_run_lt lines.silDown s.panel.sil)) rfl

theorem settles_countRetire (s : State) : Settles s s.countRetire := by
  unfold State.countRetire
  split
  · dsimp only
    split
    · exact .of_queues (.retired _ _) rfl
    · exact .of_queues (.retired _ _) rfl
  · exact .refl s

/-- The lane of a slot that has just opened (R15, R16, R19). -/
def FabricLane.slotOpened (q : FabricLane) : FabricLane := { q with budget := 16, markWaiting := true, refreshed := false }

/-- After the opening of the slot, the counts of an expiry leave the fabric link as it stands. -/
theorem settles_opened_countSlot (s : State) (lines : SlotLines) :
    Settles s.advanceTimer.openSlot (s.countSlot lines) := by
  have retired : Settles s.advanceTimer.openSlot s.advanceTimer.openSlot.countHunt.countProbes.countRetire :=
    (Settles.of_eq (by simp)).trans (settles_countRetire _)
  exact ((retired.trans (settles_countPacing _)).trans (settles_countKeys _ lines)).trans
    (.of_eq (by simp [State.countSlot]))

theorem ledger_openSlot (s : State) :
    s.openSlot.ledger = { s.ledger with lane := s.ledger.lane.slotOpened } := rfl

theorem reaches_countSlot (s : State) (lines : SlotLines) : Reaches s (s.countSlot lines) := by
  have opened : Reaches s s.advanceTimer.openSlot :=
    (Reaches.of_eq (ledger_advanceTimer s)).trans (.of_lane (.slotOpened _) (ledger_openSlot _))
  exact opened.trans (settles_opened_countSlot s lines).reaches

theorem lane_countSlot (s : State) (lines : SlotLines) :
    (s.countSlot lines).ledger.lane = s.ledger.lane.slotOpened := by
  rw [(settles_opened_countSlot s lines).2, ledger_openSlot, ledger_advanceTimer]

theorem settles_admission (s : State) : Settles s s.admission :=
  (Settles.foldl settles_takeDue _ s).trans (settles_admitWants _)

theorem settles_eventsAt (s : State) (order : ExpiryOrder) (place : EventPlace) : Settles s (s.eventsAt order place) := by
  unfold State.eventsAt
  split
  · exact settles_close s
  · exact .refl s

theorem settles_slotWorks (s : State) (first : Bool) (order : ExpiryOrder) : Settles s (s.slotWorks first order) := by
  have works : ∀ t : State, Settles t (t.meterWork first) := fun t => .of_eq (ledger_meterWork t first)
  unfold State.slotWorks
  dsimp only
  split
  · exact ((settles_eventsAt s _ _).trans (settles_admission _)).trans ((settles_eventsAt _ _ _).trans (works _))
  · exact ((settles_eventsAt s _ _).trans (works _)).trans ((settles_eventsAt _ _ _).trans (settles_admission _))

theorem ledger_leaveWorks (s : State) (first : Bool) : (s.leaveWorks first).ledger = s.ledger := by
  unfold State.leaveWorks
  split <;> simp [ledger_handUntilCalm]

theorem reaches_slotExpiry (s : State) (lines : SlotLines) (order : ExpiryOrder) :
    Reaches s (s.slotExpiry lines order) := by
  have counted := (settles_close s).reaches.trans (reaches_countSlot s.close lines)
  unfold State.slotExpiry
  dsimp only
  split
  · exact counted.trans (.of_eq (ledger_leaveWorks _ _))
  · exact counted.trans ((settles_slotWorks _ _ _).trans (settles_close _)).reaches

/-! ### The fabric link -/

theorem reaches_receiveRecord (s : State) (bytes : List Byte) (extra : Nat) : Reaches s (s.receiveRecord bytes extra) := by
  have lost : Reaches s s.loseRecord := .of_eq (ledger_setMgmt s _ rfl rfl)
  have offered : ∀ r, Reaches s (s.offerRecord r) := by
    intro r
    unfold State.offerRecord
    split
    · exact .of_lane (.recordOffered s.ledger.lane r ‹_›) rfl
    · exact .of_eq (ledger_setMgmt s _ rfl rfl)
  have hunt : Reaches s s.enterHunt :=
    .of_lane (.synced _ false) (ledger_setMgmt (s.setReceiver _) _ rfl rfl)
  have resynced : Reaches s s.resync := by
    unfold State.resync
    dsimp only
    split
    · exact .of_lane (.synced _ true) (ledger_raise _ _)
    · exact .of_lane (.synced _ true) rfl
  have taken : ∀ r, Reaches s (s.takeGoodRecord r) := by
    intro r
    unfold State.takeGoodRecord
    split
    · cases r with
      | fill => exact .refl s
      | good g => exact offered g
      | bad => exact lost
    · cases r with
      | fill => exact resynced
      | good g => exact lost
      | bad => exact lost
  unfold State.receiveRecord
  split
  · exact taken _
  · split
    · exact hunt
    · exact lost

theorem reaches_popFifo {s : State} {r : SightingRecord} {rest : List SightingRecord} (h : s.receiver.fifo = r :: rest) :
    Reaches s (s.popFifo rest) := .of_lane (.recordTaken s.ledger.lane r rest h) rfl

theorem reaches_dispatchTally (s : State) : Reaches s s.dispatchTally := by
  unfold State.dispatchTally
  split
  · exact (reaches_popFifo ‹_›).trans (.of_eq (by simp))
  · exact .refl s

theorem reaches_dispatchSample (s : State) : Reaches s s.dispatchSample := by
  unfold State.dispatchSample
  split
  · exact (reaches_popFifo ‹_›).trans (settles_learn _ _ _).reaches
  · exact .refl s

theorem reaches_dispatchProbe (s : State) : Reaches s s.dispatchProbe := by
  unfold State.dispatchProbe
  split
  · exact (reaches_popFifo ‹_›).trans (settles_takeReturn _ _ _ _ _).reaches
  · exact .refl s

theorem reaches_dispatchLink (s : State) : Reaches s s.dispatchLink := by
  unfold State.dispatchLink
  split
  · exact (reaches_popFifo ‹_›).trans (settles_takeLink _ _ _).reaches
  · exact .refl s

/-- A grant takes a record from the budget, whatever else becomes of the controller (R15). -/
theorem reaches_granted (s : State) (v : Control) (hb : v.budget = s.control.budget - 1)
    (he : v.emitQueue = s.control.emitQueue) : Reaches s (s.setControl v) :=
  .of_lane (.granted s.ledger.lane v.markWaiting v.refreshed) (by
    simp [State.ledger, State.setControl, State.port, hb, he])

theorem reaches_grantMark (s : State) : Reaches s s.grantMark := by
  unfold State.grantMark
  split
  · exact reaches_granted s _ rfl rfl
  · exact .refl s

theorem reaches_grantGate (s : State) : Reaches s s.grantGate := by
  unfold State.grantGate
  repeat' split
  · exact reaches_granted s _ rfl rfl
  all_goals exact .refl s

theorem reaches_grantRefresh (s : State) : Reaches s s.grantRefresh := by
  unfold State.grantRefresh
  split
  · exact reaches_granted s _ rfl rfl
  · exact .refl s

theorem key_markSent (tag t : Half) (e : ProbeEntry) :
    ProbeEntry.key (if e.tag = tag ∧ e.expiry = none then { e with expiry := some t } else e) =
      if e.key.tag = tag ∧ e.key.expiry = none then { e.key with expiry := some t } else e.key := by
  by_cases h : e.tag = tag ∧ e.expiry = none
  · rw [if_pos h, if_pos (show e.key.tag = tag ∧ e.key.expiry = none from h)]; rfl
  · rw [if_neg h, if_neg (show ¬(e.key.tag = tag ∧ e.key.expiry = none) from h)]

theorem reaches_grantEmit (s : State) : Reaches s s.grantEmit := by
  unfold State.grantEmit
  repeat' split
  · rename_i o rest head
    have granted : Reaches s (s.grant (.emit o)) := reaches_granted s _ rfl rfl
    refine granted.trans (Settles.of_book (.emitted (s.grant (.emit o)).ledger.book o rest
      (s.stamp + BitVec.ofNat 16 s.profile.probeTimeout) head) ?_).reaches
    have entries : (((s.grant (.emit o)).setControl { (s.grant (.emit o)).control with emitQueue := rest }).markSent
        o.tag).probes.list.map ProbeEntry.key = (s.grant (.emit o)).ledger.book.entries.map fun k =>
          if k.tag = o.tag ∧ k.expiry = none then
            { k with expiry := some (s.stamp + BitVec.ofNat 16 s.profile.probeTimeout) } else k := by
      rw [show (s.grant (.emit o)).ledger.book.entries = s.probes.list.map ProbeEntry.key from rfl, List.map_map]
      simp only [State.markSent, State.setProbes_probes, List.map_map, Function.comp_def]
      exact List.map_congr_left fun e _ => key_markSent o.tag _ e
    rw [← entries]
    rfl
  all_goals exact .refl s

/-! ### Requests -/

theorem settles_applyProfile (s : State) (new : Profile) (roles : Vector Role 40) (spacing : new.sweepSpacing ≤ 100) :
    Settles s (s.applyProfile new roles) := by
  have set : Settles s (s.setProfile new) := .of_book (.spaced s.ledger.book new.sweepSpacing spacing) rfl
  have role : ∀ (t : State) p, Settles t (t.applyRole roles p) := by
    intro t p
    unfold State.applyRole
    split
    · exact .refl t
    · exact settles_changeRole t p _
  have timer : ∀ (t : State) (n : Nat), Settles t (t.setSweep { t.sweep with timer := n }) := fun t n =>
    .of_eq (ledger_setSweep t _ rfl)
  have ite : ∀ {t u v : State} {c : Prop} [Decidable c], Settles t u → Settles t v → Settles t (if c then u else v) := by
    intro t u v c _ h k; split; exacts [h, k]
  have roled := set.trans (Settles.foldl role allPorts _)
  have lowered := roled.trans (ite (c := new.strikeLimit < s.profile.strikeLimit) (.of_eq (ledger_lowerStrikes _)) (.refl _))
  have moved := lowered.trans (ite (c := new.roomId = s.profile.roomId) (.refl _) (settles_roomChanged _ s.profile.roomId))
  have timed := moved.trans (ite (c := new.sweepPeriod = s.profile.sweepPeriod) (.refl _) (timer _ new.sweepPeriod))
  exact timed.trans (ite (c := new.buzzTime = 0) (.of_eq (ledger_stopBuzzer _)) (.refl _))

theorem clampNat_le {lo hi x : Nat} (h : lo ≤ hi) : clampNat lo hi x ≤ hi := by
  unfold clampNat; split
  · exact h
  · split <;> omega

theorem settles_reqProfileSet (s : State) (b : ProfileBlock) : Settles s (s.reqProfileSet b).1 := by
  unfold State.reqProfileSet
  split
  · exact settles_applyProfile s _ _ (clampNat_le (by decide))
  · exact .refl s

theorem settles_reqPortRole (s : State) (port role : Byte) : Settles s (s.reqPortRole port role).1 := by
  unfold State.reqPortRole
  split
  · exact .refl s
  · exact .refl s
  · dsimp only
    split
    · exact .refl s
    · exact settles_changeRole s _ _

theorem ledger_reqStatus (s : State) (o : Byte) : (s.reqStatus o).1.ledger = s.ledger := by
  unfold State.reqStatus
  split
  · rfl
  · split
    · exact ledger_setMgmt s _ rfl rfl
    · rfl

theorem ledger_reqMeterGet (s : State) (c : Byte) : (s.reqMeterGet c).1.ledger = s.ledger := by
  unfold State.reqMeterGet; split <;> rfl

theorem ledger_setProfile_meters (s : State) (m : PerClass ClassSetup) :
    (s.setProfile { s.profile with meters := m }).ledger = s.ledger := rfl

theorem ledger_reqMeterSet (s : State) (b : MeterBlock) : (s.reqMeterSet b).1.ledger = s.ledger := by
  unfold State.reqMeterSet
  split
  · rfl
  · split
    · exact (ledger_setMeters _ _).trans (ledger_setProfile_meters s _)
    · rfl

theorem ledger_seedBaselines (s : State) (ports : List Port) (classes : List TrafficClass) (v : Nat) :
    (s.seedBaselines ports classes v).ledger = s.ledger :=
  ledger_foldl (fun t p => ledger_foldl (fun u _ => ledger_setPortMeters u p _) classes t) ports s

theorem ledger_reqBaselineSet (s : State) (port cls : Byte) (v : Half) : (s.reqBaselineSet port cls v).1.ledger = s.ledger := by
  unfold State.reqBaselineSet
  split
  · rfl
  · rfl
  · dsimp only
    split
    · rfl
    · exact ledger_seedBaselines s _ _ _

theorem ledger_reqGrace (s : State) (d : Half) : (s.reqGrace d).1.ledger = s.ledger := by
  unfold State.reqGrace
  dsimp only
  repeat' split
  · exact (ledger_raise _ _).trans (ledger_setGrace s 0)
  all_goals rfl

theorem ledger_reqPortGet (s : State) (p : Byte) : (s.reqPortGet p).1.ledger = s.ledger := by
  unfold State.reqPortGet; split <;> rfl

theorem ledger_reqBlock (s : State) (p : Byte) : (s.reqBlock p).1.ledger = s.ledger := by
  unfold State.reqBlock
  split
  · rfl
  · split
    · rfl
    · rfl
    · exact ledger_hold s _

theorem ledger_reqRelease (s : State) (p : Byte) : (s.reqRelease p).1.ledger = s.ledger := by
  unfold State.reqRelease
  split
  · rfl
  · split
    · exact ledger_release s _
    · rfl

theorem ledger_reqCheck (s : State) (tag p : Byte) : (s.reqCheck tag p).1.ledger = s.ledger := by
  have set : ∀ q, (s.setWant q (.host tag)).ledger = s.ledger := fun q => ledger_setWant s q _ fun _ => Want.noConfusion
  unfold State.reqCheck
  split
  · rfl
  · split
    · rfl
    · split
      · split
        · rfl
        · exact set _
      · split
        · exact set _
        · rfl

theorem ledger_reqEvidenceGet (s : State) (p : Byte) : (s.reqEvidenceGet p).1.ledger = s.ledger := by
  unfold State.reqEvidenceGet; split <;> rfl

theorem ledger_reqEvidenceClear (s : State) (p : Byte) : (s.reqEvidenceClear p).1.ledger = s.ledger := by
  unfold State.reqEvidenceClear
  split
  · rfl
  · exact ledger_foldl (fun t p => ledger_setEvidenceOf t p _) _ s

theorem ledger_reqStationFind (s : State) (a : Address) : (s.reqStationFind a).1.ledger = s.ledger := by
  unfold State.reqStationFind; split <;> rfl

theorem ledger_reqPanelSet (s : State) (m : BitVec 80) (v : Byte) : (s.reqPanelSet m v).1.ledger = s.ledger := by
  unfold State.reqPanelSet; split
  · rfl
  · exact ledger_setPanel s _ rfl rfl

theorem ledger_reqPanelReturn (s : State) (m : BitVec 80) : (s.reqPanelReturn m).1.ledger = s.ledger :=
  ledger_setPanel s _ rfl rfl

theorem ledger_reqNoticeMask (s : State) (m : Half) : (s.reqNoticeMask m).1.ledger = s.ledger := by
  unfold State.reqNoticeMask; split
  · exact ledger_setMgmt s _ rfl rfl
  · rfl

theorem reaches_restartWith (s : State) (profile : Profile) (roles : Vector Role 40)
    (range : profile.sweepSpacing = s.profile.sweepSpacing ∨ profile.sweepSpacing ≤ 100) :
    Reaches s (s.restartWith profile roles) := by
  have wants : (fun p => ((s.restartWith profile roles).port p).wants.sweep) = fun _ => none := by
    funext p
    simp [State.restartWith, State.port, State.start, PortRecord.start, Purposes.empty]
  have ledger : (s.restartWith profile roles).ledger = { s.ledger with
      lane := { fifo := [], synced := false, budget := 16, markWaiting := true, refreshed := false }
      queues := { s.ledger.queues with relRun := 0, silRun := 0, retired := none }
      book := { emit := [], entries := [], wants := fun _ => none, sweep := none, spacing := profile.sweepSpacing }
      stations := s.stations.filter fun _ => false } := by
    simp only [State.ledger, wants]
    simp [State.restartWith, State.start, Receiver.start, Control.start, ProbeEngine.start, Panel.start,
      KeyFilter.released, SweepScheduler.start]
  rw [Reaches, ledger]
  exact (((Relation.ReflTransGen.single (.lane (.restarted s.ledger.lane))).tail
    (.queues (.restarted s.ledger.queues))).tail (.book (.restarted s.ledger.book profile.sweepSpacing range))).tail
    (.stations (.filtered s.stations fun _ => false))

theorem reaches_reqRestart (s : State) (mode : Byte) : Reaches s (s.reqRestart mode).1 := by
  unfold State.reqRestart
  split
  · exact reaches_restartWith s _ _ (.inl rfl)
  · split
    · exact reaches_restartWith s _ _ (.inr (by decide))
    · exact .refl s

theorem ledger_fill (a : Answer) (kind tag : Byte) (flush : Bool) : (a.fill kind tag flush).ledger = a.1.ledger :=
  ledger_setMgmt a.1 _ rfl rfl

theorem reaches_serve (s : State) (f : Frame) : Reaches s (s.serve f).1 := by
  unfold State.serve
  dsimp only
  split
  · exact .of_eq (ledger_reqStatus s _)
  · exact .refl s
  · exact (settles_reqProfileSet s _).reaches
  · exact .of_eq (ledger_reqMeterGet s _)
  · exact .of_eq (ledger_reqMeterSet s _)
  · exact .of_eq (ledger_reqBaselineSet s _ _ _)
  · exact .of_eq (ledger_reqGrace s _)
  · exact .of_eq (ledger_reqPortGet s _)
  · exact (settles_reqPortRole s _ _).reaches
  · exact .of_eq (ledger_reqBlock s _)
  · exact .of_eq (ledger_reqRelease s _)
  · exact .of_eq (ledger_roomRelease s)
  · exact .refl s
  · exact .of_eq (ledger_reqCheck s _ _)
  · exact (settles_reqSweep s _ _ _).reaches
  · exact (settles_reqAbort s).reaches
  · exact .of_eq (ledger_reqEvidenceGet s _)
  · exact .of_eq (ledger_reqEvidenceClear s _)
  · exact .of_eq (ledger_reqStationFind s _)
  · exact (settles_reqStationPin s _ _).reaches
  · exact (settles_reqStationUnpin s _).reaches
  · exact (settles_reqStationFlush s _).reaches
  · exact .of_eq (ledger_reqPanelSet s _ _)
  · exact .of_eq (ledger_reqPanelReturn s _)
  · exact .of_eq (ledger_reqNoticeMask s _)
  · exact reaches_reqRestart s _
  · exact .refl s

theorem reaches_answerFrame (s : State) (f : Frame) : Reaches s (s.answerFrame f) := by
  unfold State.answerFrame
  repeat' split
  · exact .of_eq (ledger_fill _ _ _ _)
  · exact (reaches_serve s f).trans (.of_eq (ledger_fill _ _ _ _))
  · exact .of_eq (ledger_fill _ _ _ _)

theorem reaches_takeRequest (s : State) : Reaches s s.takeRequest := by
  unfold State.takeRequest
  split
  · rename_i f rest _ head
    have taken : Settles s (s.setMgmt { s.mgmt with requests := rest }) :=
      .of_queues (.frameTaken s.ledger.queues f rest head) rfl
    exact taken.reaches.trans (reaches_answerFrame _ f)
  · exact .refl s

theorem reaches_request (s : State) (kind tag : Byte) (flush : Bool) {f : State → Answer} (h : ∀ t, Reaches t (f t).1) :
    Reaches s (s.request kind tag flush f) := by
  unfold State.request
  split
  · have heard : Settles s (s.setMgmt s.mgmt.heard) := .of_queues (.heard _) rfl
    exact (heard.reaches.trans (h _)).trans (.of_eq (ledger_fill _ _ _ _))
  · exact .refl s

/-! ### The step -/

theorem reaches_powerOn (s : State) (straps : BitVec 2) :
    Reaches s (State.start straps factoryRoles factoryProfile s.pending) := by
  have restarted := reaches_restartWith s factoryProfile factoryRoles (.inr (by decide))
  refine restarted.trans (Settles.of_queues (.linkReset _) ?_).reaches
  simp [State.ledger, State.restartWith, State.start, Mgmt.start, State.port, State.setMgmt, State.setControl]

theorem reaches_character (s : State) (b : Byte) (stopHigh : Bool) :
    Reaches s (s.setMgmt (s.mgmt.character b stopHigh)) := by
  have same : ∀ m : Mgmt, m.requests = s.mgmt.requests → m.talking = s.mgmt.talking → Reaches s (s.setMgmt m) :=
    fun m hr ht => .of_eq (ledger_setMgmt s m hr ht)
  have good : ∀ f : Frame, Reaches s (s.setMgmt (s.mgmt.goodFrame f)) := by
    intro f
    unfold Mgmt.goodFrame
    dsimp only
    split
    · exact (Settles.of_queues (.frameQueued s.ledger.queues f ‹_›) rfl).reaches
    · exact (Settles.of_queues (.heard _) rfl).reaches
  have taken : ∀ bytes age, Reaches s (s.setMgmt (s.mgmt.takeByte bytes age b)) := by
    intro bytes age
    unfold Mgmt.takeByte
    dsimp only
    split
    · exact same _ rfl rfl
    · split
      · exact same _ rfl rfl
      · split
        · exact good _
        · exact same _ rfl rfl
  unfold Mgmt.character
  split
  · split <;> exact same _ rfl rfl
  · split
    · exact taken _ _
    · exact same _ rfl rfl
  · exact same _ rfl rfl

theorem replySent_requests (m : Mgmt) : m.replySent.requests = m.requests ∧ m.replySent.talking = m.talking := by
  unfold Mgmt.replySent; split <;> exact ⟨rfl, rfl⟩

theorem noticeEnd_requests (m : Mgmt) : m.noticeEnd.requests = m.requests ∧ m.noticeEnd.talking = m.talking := by
  unfold Mgmt.noticeEnd; repeat' split
  all_goals exact ⟨rfl, rfl⟩

theorem sendNotice_requests (m : Mgmt) : m.sendNotice.requests = m.requests ∧ m.sendNotice.talking = m.talking := by
  unfold Mgmt.sendNotice; repeat' split
  all_goals exact ⟨rfl, rfl⟩

theorem breakWaitEnd_requests (m : Mgmt) : m.breakWaitEnd.requests = m.requests ∧ m.breakWaitEnd.talking = m.talking := by
  unfold Mgmt.breakWaitEnd; split <;> exact ⟨rfl, rfl⟩

theorem reaches_probeExpiry (s : State) (o : Port) : Reaches s (match s.endedEntry o with
    | some _ => s.takeAfterReports (.probeExpired o)
    | none => s) := by
  split
  · exact (settles_takeAfterReports s _).reaches
  · exact .refl s

theorem reaches_closed_request (s : State) (kind tag : Byte) (flush : Bool) {f : State → Answer}
    (h : ∀ t, Reaches t (f t).1) : Reaches s (s.close.request kind tag flush f) :=
  (settles_close s).reaches.trans (reaches_request s.close kind tag flush h)

theorem reaches_closed_mgmt (s : State) {f : Mgmt → Mgmt}
    (h : ∀ m : Mgmt, (f m).requests = m.requests ∧ (f m).talking = m.talking) :
    Reaches s (s.close.setMgmt (f s.close.mgmt)) :=
  (settles_close s).reaches.trans (.of_eq (ledger_setMgmt _ _ (h _).1 (h _).2))

/-- What every command does to the records that the invariants speak of is a run of the changes listed above. -/
theorem reaches_exec (c : Instr) (s t : State) (h : exec c s = .next t) : Reaches s t := by
  have close : ∀ {u : State}, Reaches s.close u → Reaches s u := (settles_close s).reaches.trans
  cases c <;> obtain rfl := Host.Outcome.next.inj h
  case powerOn straps => exact reaches_powerOn s straps
  case slotExpiry lines order => exact reaches_slotExpiry s lines order
  case secondExpiry => exact (settles_takeAfterReports s _).reaches
  case sightingRecordReceive bytes extra => exact close (reaches_receiveRecord _ bytes extra)
  case fabricLost => exact (settles_takeDue s _).reaches
  case tallyDispatch => exact close (reaches_dispatchTally _)
  case sampleDispatch => exact close (reaches_dispatchSample _)
  case probeDispatch => exact close (reaches_dispatchProbe _)
  case linkDispatch => exact close (reaches_dispatchLink _)
  case slotMarkGrant => exact close (reaches_grantMark _)
  case gateChangeGrant => exact close (reaches_grantGate _)
  case emitGrant => exact close (reaches_grantEmit _)
  case refreshGateGrant => exact close (reaches_grantRefresh _)
  case calmHoldReached p => exact (settles_takeReopening s p).reaches
  case probeExpiry o => exact reaches_probeExpiry s o
  case retirePeriodEnd => exact (settles_takeDue s _).reaches
  case holdOffExpiry p => exact (settles_takeDue s _).reaches
  case strikeDecay p => exact (settles_takeDue s _).reaches
  case graceExpiry => exact (settles_takeDue s _).reaches
  case autoSweepTimerExpiry => exact (settles_takeDue s _).reaches
  case sweepTakePort => exact (settles_takeDue s _).reaches
  case silPress => exact (settles_takeDue s _).reaches
  case relPress => exact (settles_takeDue s _).reaches
  case relRelease => exact (settles_takeDue s _).reaches
  case keyReleaseSil => exact (settles_takeDue s _).reaches
  case twoKeyRoomRelease => exact (settles_takeDue s _).reaches
  case buzzerExpiry => exact (settles_takeDue s _).reaches
  case mlCharacterReceive b stop => exact close (reaches_character _ b stop)
  case frameTimeout => exact (settles_takeDue s _).reaches
  case linkBreak => exact (settles_takeDue s _).reaches
  case breakWaitEnd => exact reaches_closed_mgmt s breakWaitEnd_requests
  case requestTake => exact close (reaches_takeRequest _)
  case replySent => exact reaches_closed_mgmt s replySent_requests
  case noticeSend => exact reaches_closed_mgmt s sendNotice_requests
  case status => exact reaches_closed_request s _ _ _ fun t => .of_eq (ledger_reqStatus t _)
  case profileGet => exact reaches_closed_request s _ _ _ .refl
  case profileSet => exact reaches_closed_request s _ _ _ fun t => (settles_reqProfileSet t _).reaches
  case meterGet => exact reaches_closed_request s _ _ _ fun t => .of_eq (ledger_reqMeterGet t _)
  case meterSet => exact reaches_closed_request s _ _ _ fun t => .of_eq (ledger_reqMeterSet t _)
  case baselineSet => exact reaches_closed_request s _ _ _ fun t => .of_eq (ledger_reqBaselineSet t _ _ _)
  case grace => exact reaches_closed_request s _ _ _ fun t => .of_eq (ledger_reqGrace t _)
  case portGet => exact reaches_closed_request s _ _ _ fun t => .of_eq (ledger_reqPortGet t _)
  case portRole => exact reaches_closed_request s _ _ _ fun t => (settles_reqPortRole t _ _).reaches
  case block => exact reaches_closed_request s _ _ _ fun t => .of_eq (ledger_reqBlock t _)
  case release => exact reaches_closed_request s _ _ _ fun t => .of_eq (ledger_reqRelease t _)
  case roomRelease => exact reaches_closed_request s _ _ _ fun t => .of_eq (ledger_roomRelease t)
  case tripList => exact reaches_closed_request s _ _ _ .refl
  case check => exact reaches_closed_request s _ _ _ fun t => .of_eq (ledger_reqCheck t _ _)
  case sweep => exact reaches_closed_request s _ _ _ fun t => (settles_reqSweep t _ _ _).reaches
  case abort => exact reaches_closed_request s _ _ _ fun t => (settles_reqAbort t).reaches
  case evidenceGet => exact reaches_closed_request s _ _ _ fun t => .of_eq (ledger_reqEvidenceGet t _)
  case evidenceClear => exact reaches_closed_request s _ _ _ fun t => .of_eq (ledger_reqEvidenceClear t _)
  case stationFind => exact reaches_closed_request s _ _ _ fun t => .of_eq (ledger_reqStationFind t _)
  case stationPin => exact reaches_closed_request s _ _ _ fun t => (settles_reqStationPin t _ _).reaches
  case stationUnpin => exact reaches_closed_request s _ _ _ fun t => (settles_reqStationUnpin t _).reaches
  case stationFlush => exact reaches_closed_request s _ _ _ fun t => (settles_reqStationFlush t _).reaches
  case panelSet => exact reaches_closed_request s _ _ _ fun t => .of_eq (ledger_reqPanelSet t _ _)
  case panelReturn => exact reaches_closed_request s _ _ _ fun t => .of_eq (ledger_reqPanelReturn t _)
  case noticeMask => exact reaches_closed_request s _ _ _ fun t => .of_eq (ledger_reqNoticeMask t _)
  case restart => exact reaches_closed_request s _ _ _ fun t => reaches_reqRestart t _
  case noticeFrameEnd => exact reaches_closed_mgmt s noticeEnd_requests
  case scanNextCommon => exact close (.of_eq (ledger_scanNext _))

theorem reaches_step (s t : State) (h : step s = .next t) : Reaches s t := by
  unfold step at h
  split at h
  · obtain rfl := Host.Outcome.next.inj h
    exact .refl s
  · rename_i c rest _
    have run : Reaches { s with pending := rest } t := reaches_exec c _ t h
    exact run

end Sys2Proof.Machine
end

section
/-! The probe list stays sound (R18, R63, R64, R66). -/

namespace Sys2Proof.Machine

/-- An invariant of the ledger that every change keeps holds wherever a run of changes leads. -/

theorem Reaches.keeps {s t : State} (h : Reaches s t) {I : Ledger → Prop} (step : ∀ l m, Ledger.Change l m → I l → I m)
    (hs : I s.ledger) : I t.ledger := by
  have run : ∀ {l m}, Relation.ReflTransGen Ledger.Change l m → I l → I m := by
    intro l m h hl
    induction h with
    | refl => exact hl
    | tail _ change ih => exact step _ _ change ih
  exact run h hs

/-- A list splits at an element whose image no other element shares. -/
theorem split_at_of_nodup {α β : Type} {f : α → β} {l : List α} {a : α} (distinct : (l.map f).Nodup) (ha : a ∈ l) :
    ∃ l₁ l₂, l = l₁ ++ a :: l₂ ∧ (∀ x ∈ l₁, f x ≠ f a) ∧ ∀ x ∈ l₂, f x ≠ f a := by
  obtain ⟨l₁, l₂, rfl⟩ := List.append_of_mem ha
  rw [List.map_append, List.map_cons, List.nodup_middle, List.nodup_cons, List.mem_append] at distinct
  push Not at distinct
  obtain ⟨⟨h₁, h₂⟩, -⟩ := distinct
  exact ⟨l₁, l₂, rfl, fun x hx h => h₁ (h ▸ List.mem_map_of_mem hx), fun x hx h => h₂ (h ▸ List.mem_map_of_mem hx)⟩

/-! ### Soundness, change by change -/

/-- The entry is QUEUED (R63). -/
def ProbeKey.queued (k : ProbeKey) : Bool := k.expiry.isNone

/-- The entry without its SWEEP purpose. -/
def ProbeKey.bare (k : ProbeKey) : ProbeKey := { k with sweep := none }

/-- `ProbeListSound` as the ledger shows it. -/
structure ProbeBook.Sound (b : ProbeBook) : Prop where
  short   : b.entries.length ≤ 24
  origins : (b.entries.map (·.origin)).Nodup
  tags    : (b.entries.map (·.tag)).Nodup
  nonzero : 0 ∉ b.entries.map (·.tag)
  orders  : b.emit.map (fun o => (o.tag, o.origin)) = (b.entries.filter ProbeKey.queued).map fun k => (k.tag, k.origin)

theorem probeListSound_iff (s : State) : ProbeListSound s ↔ s.ledger.book.Sound := by
  have entries : s.ledger.book.entries = s.probes.list.map ProbeEntry.key := rfl
  have length : s.ledger.book.entries.length = s.probes.list.length := List.length_map _
  have origins : s.ledger.book.entries.map (·.origin) = s.probes.list.map (·.origin) := by rw [entries, List.map_map]; rfl
  have tags : s.ledger.book.entries.map (·.tag) = s.probes.list.map (·.tag) := by rw [entries, List.map_map]; rfl
  have orders : (s.ledger.book.entries.filter ProbeKey.queued).map (fun k => (k.tag, k.origin)) =
      (s.probes.list.filter fun e => e.expiry.isNone).map fun e => (e.tag, e.origin) := by
    rw [entries, List.filter_map, List.map_map]; rfl
  constructor
  · rintro ⟨h₁, h₂, h₃, h₄, h₅⟩
    exact ⟨length ▸ h₁, origins ▸ h₂, tags ▸ h₃, tags ▸ h₄, orders ▸ h₅⟩
  · rintro ⟨h₁, h₂, h₃, h₄, h₅⟩
    exact ⟨length ▸ h₁, origins ▸ h₂, tags ▸ h₃, tags ▸ h₄, orders ▸ h₅⟩

/-- The soundness of the probe list reads nothing of the SWEEP purposes. -/
theorem ProbeBook.Sound.congr {b c : ProbeBook} (h : b.Sound) (emit : c.emit = b.emit)
    (entries : c.entries.map ProbeKey.bare = b.entries.map ProbeKey.bare) : c.Sound := by
  have through : ∀ {β : Type} (f : ProbeKey → β) (l : List ProbeKey), (l.map ProbeKey.bare).map (fun k => f k) =
      l.map fun k => f k.bare := fun f l => List.map_map
  have length : c.entries.length = b.entries.length := by simpa using congrArg List.length entries
  have origins : c.entries.map (·.origin) = b.entries.map (·.origin) := by
    have := congrArg (List.map fun k => k.origin) entries
    simp only [through] at this
    exact this
  have tags : c.entries.map (·.tag) = b.entries.map (·.tag) := by
    have := congrArg (List.map fun k => k.tag) entries
    simp only [through] at this
    exact this
  have orders : (c.entries.filter ProbeKey.queued).map (fun k => (k.tag, k.origin)) =
      (b.entries.filter ProbeKey.queued).map fun k => (k.tag, k.origin) := by
    have := congrArg (fun l => (l.filter ProbeKey.queued).map fun k => (k.tag, k.origin)) entries
    simp only [List.filter_map, through] at this
    exact this
  obtain ⟨h₁, h₂, h₃, h₄, h₅⟩ := h
  exact ⟨length ▸ h₁, origins ▸ h₂, tags ▸ h₃, tags ▸ h₄, by rw [emit, orders]; exact h₅⟩

theorem bare_map_of_bare {f : ProbeKey → ProbeKey} (h : ∀ k, (f k).bare = k.bare) (l : List ProbeKey) :
    (l.map f).map ProbeKey.bare = l.map ProbeKey.bare := by simp [h]

theorem endSweep_sound {b : ProbeBook} (h : b.Sound) : b.endSweep.Sound :=
  h.congr rfl (bare_map_of_bare (f := fun k => { k with sweep := none }) (fun _ => rfl) _)

theorem putSweep_sound {b : ProbeBook} (r : SweepRecord) (h : b.Sound) : (b.putSweep r).Sound := by
  unfold ProbeBook.putSweep
  split
  · exact endSweep_sound h
  · exact h.congr rfl rfl

theorem conclude_sound {b : ProbeBook} (o : ProbeOutcome) (u : Option Byte) (h : b.Sound) : (b.conclude o u).Sound := by
  unfold ProbeBook.conclude
  repeat' split
  · exact h
  · exact h
  · exact putSweep_sound _ h
  · exact h

theorem joinSweep_sound {b : ProbeBook} (p : Port) (n : Byte) (h : b.Sound) : (b.joinSweep p n).Sound := by
  unfold ProbeBook.joinSweep
  split
  · exact h.congr rfl (bare_map_of_bare (fun k => by split <;> rfl) _)
  · exact h.congr rfl rfl

/-- An entry leaves the list by its tag, with its order when it is QUEUED (R18, R69, R71). -/
theorem removed_sound {b : ProbeBook} (h : b.Sound) (t : Half) (emit : List EmitOrder)
    (orders : emit.map (fun o => (o.tag, o.origin)) =
      ((b.entries.filter fun x => x.tag != t).filter ProbeKey.queued).map fun k => (k.tag, k.origin)) :
    ({ b with emit := emit, entries := b.entries.filter fun x => x.tag != t } : ProbeBook).Sound where
  short := (List.length_filter_le _ _).trans h.short
  origins := h.origins.sublist (List.filter_sublist.map _)
  tags := h.tags.sublist (List.filter_sublist.map _)
  nonzero := fun hm => h.nonzero ((List.filter_sublist.map _).subset hm)
  orders := orders

theorem withdrawn_orders {b : ProbeBook} (h : b.Sound) (t : Half) :
    (b.emit.filter fun x => x.tag != t).map (fun o => (o.tag, o.origin)) =
      ((b.entries.filter fun x => x.tag != t).filter ProbeKey.queued).map fun k => (k.tag, k.origin) := by
  have pairs := congrArg (List.filter fun x : Half × Port => x.1 != t) h.orders
  rw [List.filter_map, List.filter_map] at pairs
  rw [List.filter_comm]
  exact pairs

theorem sent_orders {b : ProbeBook} (h : b.Sound) {k : ProbeKey} (held : k ∈ b.entries) (sent : k.expiry ≠ none) :
    b.emit.map (fun o => (o.tag, o.origin)) =
      ((b.entries.filter fun x => x.tag != k.tag).filter ProbeKey.queued).map fun k => (k.tag, k.origin) := by
  obtain ⟨l₁, l₂, split, h₁, h₂⟩ := split_at_of_nodup h.tags held
  have gone : k.queued = false := by rw [ProbeKey.queued]; simpa [Option.isSome_iff_ne_none] using sent
  have same : ∀ l : List ProbeKey, (∀ x ∈ l, x.tag ≠ k.tag) → (l.filter fun x => x.tag != k.tag) = l := fun l hl =>
    List.filter_eq_self.2 fun x hx => by simpa using hl x hx
  rw [h.orders, split]
  simp [List.filter_append, same l₁ h₁, same l₂ h₂, gone]

theorem emptied_sound {b : ProbeBook} (removed : List ProbeKey) (h : b.Sound) :
    (removed.foldl (fun c k => c.conclude .void k.sweep) b).Sound := by
  induction removed generalizing b with
  | nil => exact h
  | cons k rest ih => exact ih (conclude_sound _ _ h)

theorem admitted_sound {b : ProbeBook} (h : b.Sound) (p : Port) (room tag : Half) (w : Port → Option Byte) (u : Option Byte)
    (nonzero : tag ≠ 0) (new : ∀ k ∈ b.entries, k.tag ≠ tag) (free : ∀ k ∈ b.entries, k.origin ≠ p)
    (short : b.entries.length < 24) :
    ({ b with emit := b.emit ++ [{ room := room, origin := p, tag := tag }]
              entries := b.entries ++ [{ tag := tag, origin := p, expiry := none, sweep := u }]
              wants := w } : ProbeBook).Sound where
  short := by simpa using short
  origins := by simpa [List.nodup_append] using ⟨h.origins, free⟩
  tags := by simpa [List.nodup_append] using ⟨h.tags, new⟩
  nonzero := by
    have := h.nonzero
    simp only [List.map_append, List.mem_append, not_or]
    exact ⟨this, by simpa using nonzero.symm⟩
  orders := by rw [List.filter_append, List.map_append, List.map_append, h.orders]; rfl

theorem emitted_sound {b : ProbeBook} (h : b.Sound) {o : EmitOrder} {rest : List EmitOrder} (t : Half)
    (head : b.emit = o :: rest) :
    ({ b with emit := rest, entries := b.entries.map fun k =>
        if k.tag = o.tag ∧ k.expiry = none then { k with expiry := some t } else k } : ProbeBook).Sound := by
  have field : ∀ {β : Type} (f : ProbeKey → β), (∀ (k : ProbeKey) x, f { k with expiry := x } = f k) →
      (b.entries.map fun k => if k.tag = o.tag ∧ k.expiry = none then { k with expiry := some t } else k).map f =
        b.entries.map f := by
    intro β f hf
    rw [List.map_map]
    exact List.map_congr_left fun k _ => by
      by_cases hk : k.tag = o.tag ∧ k.expiry = none
      · rw [Function.comp_apply, if_pos hk, hf]
      · rw [Function.comp_apply, if_neg hk]
  have tail := h.orders
  have queuedTags : ((b.entries.filter ProbeKey.queued).map fun k => (k.tag, k.origin)).map Prod.fst |>.Nodup := by
    rw [List.map_map]; exact h.tags.sublist (List.filter_sublist.map _)
  rw [← tail, head, List.map_cons, List.map_cons, List.nodup_cons] at queuedTags
  rw [head, List.map_cons] at tail
  refine ⟨by simpa using h.short, ?_, ?_, ?_, ?_⟩
  · rw [field]; exacts [h.origins, fun _ _ => rfl]
  · rw [field]; exacts [h.tags, fun _ _ => rfl]
  · rw [field]; exacts [h.nonzero, fun _ _ => rfl]
  · have others := congrArg (List.filter fun x : Half × Port => x.1 != o.tag) tail
    rw [List.filter_cons_of_neg (by simp), List.filter_eq_self.2 (fun x hx => by
      simpa using fun e : x.1 = o.tag => queuedTags.1 (List.mem_map.2 ⟨x, hx, e⟩)), List.filter_map,
      List.filter_filter] at others
    rw [others, List.filter_map, List.map_map]
    have still : ∀ k : ProbeKey, (k.tag != o.tag && k.queued) =
        ProbeKey.queued (if k.tag = o.tag ∧ k.expiry = none then { k with expiry := some t } else k) := by
      intro k
      by_cases hk : k.tag = o.tag
      · cases hx : k.expiry <;> simp [hk, hx, ProbeKey.queued]
      · simp [hk]
    simp only [Function.comp_def, still]
    refine List.map_congr_left fun k _ => ?_
    split <;> rfl

theorem BookChange.sound {b c : ProbeBook} (change : BookChange b c) (h : b.Sound) : c.Sound := by
  cases change with
  | restarted => exact ⟨Nat.zero_le _, List.nodup_nil, List.nodup_nil, List.not_mem_nil, rfl⟩
  | spaced => exact h.congr rfl rfl
  | admitted p room tag nonzero new free short => exact admitted_sound h p room tag _ _ nonzero new free short
  | emitted o rest t head => exact emitted_sound h t head
  | voided p => exact conclude_sound _ _ (h.congr rfl rfl)
  | ended k o held sent => exact conclude_sound _ _ (removed_sound h _ _ (sent_orders h held sent))
  | withdrawn k held queued => exact conclude_sound _ _ (removed_sound h _ _ (withdrawn_orders h _))
  | emptied removed => exact emptied_sound removed ⟨Nat.zero_le _, List.nodup_nil, List.nodup_nil, List.not_mem_nil, rfl⟩
  | started => exact h.congr rfl rfl
  | paced => exact h.congr rfl rfl
  | took r p pacing => exact putSweep_sound _ (joinSweep_sound _ _ h)
  | skipped r p pacing => exact putSweep_sound _ h
  | sweepEnded => exact endSweep_sound h

theorem Ledger.Change.book_sound {l m : Ledger} (change : Ledger.Change l m) (h : l.book.Sound) : m.book.Sound := by
  cases change with
  | lane => exact h
  | queues => exact h
  | book change => exact change.sound h
  | stations => exact h

/-- Settles O7: every change of the ledger keeps the probe list sound, and every step is a run of changes. -/
theorem probeListStaysSound : Obligations.ProbeListStaysSound := by
  intro s t sound next
  rw [probeListSound_iff] at sound ⊢
  exact (reaches_step s t next).keeps (I := fun l => l.book.Sound) (fun _ _ change => change.book_sound) sound

end Sys2Proof.Machine
end

section
/-! The sweep record stays sound: what its counts say of the ports taken and of the purposes still owed (R117 to R125). -/

namespace Sys2Proof.Machine

/-! ### The sweep record -/

/-- The SWEEP purposes of the want sets, each with its port. -/
def owedWants (w : Port → Option Byte) : List (Port × Byte) := allPorts.filterMap fun p => (w p).map (Prod.mk p)

/-- The SWEEP purposes of a list of entries, each with its port. -/
def owedEntries (l : List ProbeKey) : List (Port × Byte) := l.filterMap fun k => k.sweep.map (Prod.mk k.origin)

/-- What a sweep in progress owes: each SWEEP purpose that waits in a want set or in an entry, with its port. -/
def ProbeBook.owed (b : ProbeBook) : List (Port × Byte) := owedWants b.wants ++ owedEntries b.entries

/-- A sweep record within its ranges, its counts and what is owed adding up to the ports taken (R117, R118). -/
structure SweepRecord.Counts (r : SweepRecord) (owed : List (Port × Byte)) : Prop where
  range    : r.first ≤ r.last
  begun    : r.first.val ≤ r.next
  next     : r.next ≤ r.last.val + 1
  pacing   : r.pacing ≤ 100
  admitted : r.admitted ≤ r.next - r.first.val
  counted  : r.counted + owed.length = r.next - r.first.val
  numbered : ∀ x ∈ owed, x.2 = r.number ∧ r.first ≤ x.1 ∧ x.1.val < r.next

/-- A sweep that has taken its last port is not complete while it stands (R125). -/
def SweepRecord.Running (r : SweepRecord) : Prop := r.last.val < r.next → r.counted < r.size

/-- The sweep in progress stands for what is owed; without one nothing is. -/
def SweepOwes (record : Option SweepRecord) (owed : List (Port × Byte)) : Prop :=
  match record with
  | none => owed = []
  | some r => r.Counts owed ∧ r.Running

/-- The sweep record with the purposes `flight` taken from their sets and not yet concluded. -/
def ProbeBook.SweepSound (b : ProbeBook) (flight : List (Port × Byte)) : Prop :=
  b.spacing ≤ 100 ∧ SweepOwes b.sweep (b.owed ++ flight)

theorem mem_owedWants {w : Port → Option Byte} {x : Port × Byte} : x ∈ owedWants w ↔ w x.1 = some x.2 := by
  obtain ⟨p, n⟩ := x
  simp [owedWants]

theorem mem_owedEntries {l : List ProbeKey} {x : Port × Byte} :
    x ∈ owedEntries l ↔ ∃ k ∈ l, k.origin = x.1 ∧ k.sweep = some x.2 := by
  obtain ⟨p, n⟩ := x
  simp only [owedEntries, List.mem_filterMap, Option.map_eq_some_iff, Prod.mk.injEq]
  constructor
  · rintro ⟨k, hk, m, hm, ho, rfl⟩; exact ⟨k, hk, ho, hm⟩
  · rintro ⟨k, hk, ho, hm⟩; exact ⟨k, hk, n, hm, ho, rfl⟩

theorem sweepsOwed_eq (s : State) : sweepsOwed s = s.ledger.book.owed.length := by
  have wants : (owedWants s.ledger.book.wants).length = (allPorts.filter fun p => (s.port p).wants.sweep.isSome).length := by
    rw [owedWants, List.length_filterMap_eq_countP, List.countP_eq_length_filter]
    simp [State.ledger]
  have entries : (owedEntries s.ledger.book.entries).length =
      (s.probes.list.filter fun e => e.purposes.sweep.isSome).length := by
    rw [owedEntries, List.length_filterMap_eq_countP, show s.ledger.book.entries = s.probes.list.map ProbeEntry.key from rfl,
      List.countP_map, List.countP_eq_length_filter]
    simp [ProbeEntry.key, Function.comp_def]
  rw [ProbeBook.owed, List.length_append, wants, entries]
  rfl

theorem mem_owed_ledger (s : State) (x : Port × Byte) : x ∈ s.ledger.book.owed ↔
    (s.port x.1).wants.sweep = some x.2 ∨ ∃ e ∈ s.probes.list, e.origin = x.1 ∧ e.purposes.sweep = some x.2 := by
  rw [ProbeBook.owed, List.mem_append, mem_owedWants, mem_owedEntries,
    show s.ledger.book.entries = s.probes.list.map ProbeEntry.key from rfl]
  simp [ProbeEntry.key, State.ledger]

theorem sweepSound_iff (s : State) : SweepSound s ↔ s.ledger.book.SweepSound [] := by
  have record : s.ledger.book.sweep = s.sweep.record := rfl
  have spacing : s.ledger.book.spacing = s.profile.sweepSpacing := rfl
  unfold SweepSound ProbeBook.SweepSound SweepOwes
  rw [List.append_nil, record, spacing, sweepsOwed_eq]
  cases s.sweep.record with
  | none => simp
  | some r =>
    simp only [Option.some.injEq, forall_eq', reduceCtorEq, false_implies, true_and]
    refine and_congr_right fun _ => ?_
    constructor
    · rintro ⟨h₁, h₂, h₃, h₄, h₅, h₆, h₇, h₈, h₉⟩
      refine ⟨⟨h₁, h₂, h₃, h₄, h₅, h₆, fun x hx => ?_⟩, h₇⟩
      obtain h | ⟨e, he, ho, hn⟩ := (mem_owed_ledger s x).1 hx
      · exact h₈ _ _ h
      · exact ho ▸ h₉ e he _ hn
    · rintro ⟨⟨h₁, h₂, h₃, h₄, h₅, h₆, h₇⟩, h₈⟩
      exact ⟨h₁, h₂, h₃, h₄, h₅, h₆, h₈, fun p n h => h₇ (p, n) ((mem_owed_ledger s (p, n)).2 (.inl h)),
        fun e he n h => h₇ (e.origin, n) ((mem_owed_ledger s (e.origin, n)).2 (.inr ⟨e, he, rfl, h⟩))⟩

theorem SweepRecord.Counts.perm {r : SweepRecord} {l m : List (Port × Byte)} (h : r.Counts l) (p : l.Perm m) : r.Counts m :=
  { h with counted := p.length_eq ▸ h.counted, numbered := fun x hx => h.numbered x (p.mem_iff.2 hx) }

theorem SweepOwes.perm {record : Option SweepRecord} {l m : List (Port × Byte)} (h : SweepOwes record l) (p : l.Perm m) :
    SweepOwes record m := by
  cases record with
  | none => exact (show l = [] from h) ▸ p |>.nil_eq.symm
  | some r => exact ⟨h.1.perm p, h.2⟩

theorem owed_endSweep (b : ProbeBook) : b.endSweep.owed = [] := by
  simp [ProbeBook.owed, ProbeBook.endSweep, owedWants, owedEntries]

/-- A record put back is ended when it is complete, and then nothing is owed any more (R125). -/
theorem putSweep_sweepSound {b : ProbeBook} {r : SweepRecord} {flight : List (Port × Byte)} (spacing : b.spacing ≤ 100)
    (h : r.Counts (b.owed ++ flight)) : (b.putSweep r).SweepSound flight := by
  have size : r.size = r.last.val + 1 - r.first.val := rfl
  have counted := h.counted
  have next := h.next
  unfold ProbeBook.putSweep
  split
  · rename_i complete
    simp only [SweepRecord.complete, Bool.and_eq_true, decide_eq_true_eq, beq_iff_eq] at complete
    have none : b.owed ++ flight = [] := List.eq_nil_of_length_eq_zero (by omega)
    obtain ⟨-, rfl⟩ := List.append_eq_nil_iff.1 none
    exact ⟨spacing, by rw [owed_endSweep]; rfl⟩
  · rename_i unfinished
    simp only [SweepRecord.complete, Bool.and_eq_true, decide_eq_true_eq, beq_iff_eq, not_and] at unfinished
    exact ⟨spacing, h, fun past => by have := unfinished past; omega⟩

/-- A purpose concluded is no longer in flight: the sweep in progress counts it (R118, R124). -/
theorem conclude_sweepSound {b : ProbeBook} {p : Port} (o : ProbeOutcome) {u : Option Byte} {flight : List (Port × Byte)}
    (h : b.SweepSound ((u.map (Prod.mk p)).toList ++ flight)) : (b.conclude o u).SweepSound flight := by
  cases u with
  | none => exact h
  | some n =>
    obtain ⟨spacing, owes⟩ := h
    unfold ProbeBook.conclude
    cases hr : b.sweep with
    | none => rw [hr] at owes; simp [SweepOwes] at owes
    | some r =>
      rw [hr] at owes
      obtain ⟨counts, -⟩ := owes
      have mine : n = r.number := (counts.numbered (p, n) (by simp)).1
      dsimp only
      rw [if_pos mine.symm]
      have total : (r.count o).counted = r.counted + 1 := by
        cases o <;> simp only [SweepRecord.count, SweepRecord.counted] <;> omega
      have counted := counts.counted
      have same : (r.count o).first = r.first ∧ (r.count o).last = r.last ∧ (r.count o).next = r.next ∧
          (r.count o).number = r.number ∧ (r.count o).pacing = r.pacing ∧ (r.count o).admitted = r.admitted := by
        cases o <;> exact ⟨rfl, rfl, rfl, rfl, rfl, rfl⟩
      obtain ⟨first, last, next, number, pacing, admitted⟩ := same
      refine putSweep_sweepSound spacing ⟨?_, ?_, ?_, ?_, ?_, ?_, ?_⟩
      · rw [first, last]; exact counts.range
      · rw [first, next]; exact counts.begun
      · rw [next, last]; exact counts.next
      · rw [pacing]; exact counts.pacing
      · rw [admitted, next, first]; exact counts.admitted
      · rw [total, next, first]; simp at counted ⊢; omega
      · intro x hx
        rw [number, first, next]
        exact counts.numbered x (by simp at hx ⊢; tauto)

/-- The purposes of a port's want set are owed apart from those of the others. -/
theorem owedWants_perm (w : Port → Option Byte) (p : Port) :
    (owedWants w).Perm (((w p).map (Prod.mk p)).toList ++ owedWants (Function.update w p none)) := by
  have ports : allPorts.Perm (p :: allPorts.erase p) := List.perm_cons_erase (port_mem_allPorts p)
  have others : (allPorts.erase p).filterMap (fun q => (Function.update w p none q).map (Prod.mk q)) =
      (allPorts.erase p).filterMap fun q => (w q).map (Prod.mk q) :=
    List.filterMap_congr fun q hq => by
      rw [Function.update_of_ne (by rintro rfl; exact nodup_allPorts.not_mem_erase hq)]
  have left := ports.filterMap fun q => (w q).map (Prod.mk q)
  have right := ports.filterMap fun q => (Function.update w p none q).map (Prod.mk q)
  rw [List.filterMap_cons] at left right
  simp only [Function.update_self, Option.map_none, others] at right
  refine left.trans ?_
  cases w p with
  | none => exact right.symm
  | some n => exact right.symm.cons _

theorem owedWants_update_some {w : Port → Option Byte} {p : Port} (free : w p = none) (n : Byte) :
    (owedWants (Function.update w p (some n))).Perm ((p, n) :: owedWants w) := by
  have h := owedWants_perm (Function.update w p (some n)) p
  rw [Function.update_idem, Function.update_self] at h
  have : Function.update w p none = w := by rw [← free, Function.update_eq_self]
  rw [this] at h
  exact h

theorem owedEntries_append (l m : List ProbeKey) : owedEntries (l ++ m) = owedEntries l ++ owedEntries m :=
  List.filterMap_append

theorem owedEntries_cons (k : ProbeKey) (l : List ProbeKey) :
    owedEntries (k :: l) = (k.sweep.map (Prod.mk k.origin)).toList ++ owedEntries l := by
  rw [owedEntries, List.filterMap_cons]
  cases k.sweep <;> rfl

theorem owedEntries_middle (l₁ l₂ : List ProbeKey) (k : ProbeKey) : (owedEntries (l₁ ++ k :: l₂)).Perm
    ((k.sweep.map (Prod.mk k.origin)).toList ++ owedEntries (l₁ ++ l₂)) := by
  rw [owedEntries_append, owedEntries_cons, owedEntries_append, ← List.append_assoc, ← List.append_assoc]
  exact List.perm_append_comm.append_right _

/-- The purpose of an entry that leaves the list is owed apart from those of the others. -/
theorem owedEntries_removed {l : List ProbeKey} {k : ProbeKey} (tags : (l.map (·.tag)).Nodup) (held : k ∈ l) :
    (owedEntries l).Perm ((k.sweep.map (Prod.mk k.origin)).toList ++ owedEntries (l.filter fun x => x.tag != k.tag)) := by
  obtain ⟨l₁, l₂, rfl, h₁, h₂⟩ := split_at_of_nodup tags held
  have same : ∀ l : List ProbeKey, (∀ x ∈ l, x.tag ≠ k.tag) → (l.filter fun x => x.tag != k.tag) = l := fun l hl =>
    List.filter_eq_self.2 fun x hx => by simpa using hl x hx
  have kept : ((l₁ ++ k :: l₂).filter fun x => x.tag != k.tag) = l₁ ++ l₂ := by
    rw [List.filter_append, List.filter_cons_of_neg (by simp), same l₁ h₁, same l₂ h₂]
  rw [kept]
  exact owedEntries_middle l₁ l₂ k

/-- A purpose may pass between owed and in flight: only what both hold together counts. -/
theorem ProbeBook.SweepSound.of_perm {b c : ProbeBook} {l m : List (Port × Byte)} (h : b.SweepSound l)
    (spacing : c.spacing = b.spacing) (sweep : c.sweep = b.sweep) (p : (b.owed ++ l).Perm (c.owed ++ m)) : c.SweepSound m :=
  ⟨spacing ▸ h.1, sweep ▸ h.2.perm p⟩

theorem emptied_sweepSound : ∀ (removed : List ProbeKey) (b : ProbeBook), b.SweepSound (owedEntries removed) →
    (removed.foldl (fun c k => c.conclude .void k.sweep) b).SweepSound []
  | [], _, h => h
  | k :: rest, _, h => emptied_sweepSound rest _ (conclude_sweepSound .void (owedEntries_cons k rest ▸ h))

theorem owedEntries_map_of_keys {f : ProbeKey → ProbeKey} (h : ∀ k, (f k).origin = k.origin ∧ (f k).sweep = k.sweep)
    (l : List ProbeKey) : owedEntries (l.map f) = owedEntries l := by
  simp only [owedEntries, List.filterMap_map, Function.comp_def, h]

/-- The want of a port that owes no SWEEP is one more purpose owed (R62, R123). -/
theorem owed_joinSweep {b : ProbeBook} (sound : b.Sound) {p : Port} (n : Byte) (free : ∀ m, (p, m) ∉ b.owed) :
    (b.joinSweep p n).owed.Perm ((p, n) :: b.owed) := by
  unfold ProbeBook.joinSweep
  split
  · rename_i present
    obtain ⟨k, held, rfl, queued⟩ := present
    obtain ⟨l₁, l₂, split, h₁, h₂⟩ := split_at_of_nodup sound.origins held
    have same : ∀ l : List ProbeKey, (∀ x ∈ l, x.origin ≠ k.origin) →
        (l.map fun x => if x.origin = k.origin ∧ x.expiry = none then { x with sweep := some n } else x) = l := fun l hl => by
      conv_rhs => rw [← List.map_id l]
      exact List.map_congr_left fun x hx => by simp [hl x hx]
    have none : k.sweep = Option.none := by
      cases hs : k.sweep with
      | none => rfl
      | some m => exact absurd (List.mem_append_right _ (mem_owedEntries.2 ⟨k, held, rfl, hs⟩)) (free m)
    have entries : (owedEntries (b.entries.map fun x =>
        if x.origin = k.origin ∧ x.expiry = Option.none then { x with sweep := some n } else x)).Perm
        ((k.origin, n) :: owedEntries b.entries) := by
      rw [split, List.map_append, List.map_cons, same l₁ h₁, same l₂ h₂, if_pos ⟨rfl, queued⟩]
      refine (owedEntries_middle _ _ _).trans (List.Perm.cons _ ?_)
      have middle := owedEntries_middle l₁ l₂ k
      rw [none] at middle
      exact middle.symm
    exact (entries.append_left _).trans List.perm_middle
  · have none : b.wants p = Option.none := by
      cases hw : b.wants p with
      | none => rfl
      | some m => exact absurd (List.mem_append_left _ (mem_owedWants.2 hw)) (free m)
    exact (owedWants_update_some none n).append_right _

theorem joinSweep_sweep (b : ProbeBook) (p : Port) (n : Byte) :
    (b.joinSweep p n).sweep = b.sweep ∧ (b.joinSweep p n).spacing = b.spacing := by
  unfold ProbeBook.joinSweep; split <;> exact ⟨rfl, rfl⟩

/-- The counts after one more port of the range has been taken: a purpose more is owed, or a skip more counted (R123). -/
theorem taken_counts {r : SweepRecord} {owed owed' : List (Port × Byte)} {p : Port} (h : r.Counts owed) (next : p.val = r.next)
    (inRange : p ≤ r.last) {pacing admitted skipped : Nat} (range : pacing ≤ 100)
    (hadmitted : admitted ≤ r.admitted + 1) (total : skipped + owed'.length = r.skipped + owed.length + 1)
    (mem : ∀ x ∈ owed', x = (p, r.number) ∨ x ∈ owed) :
    ({ r with next := r.next + 1, pacing := pacing, admitted := admitted, skipped := skipped } : SweepRecord).Counts owed' := by
  have last : p.val ≤ r.last.val := inRange
  have begun := h.begun
  have counted := h.counted
  have admittedLe := h.admitted
  refine ⟨h.range, ?_, ?_, range, ?_, ?_, fun x hx => ?_⟩
  · show r.first.val ≤ r.next + 1; omega
  · show r.next + 1 ≤ r.last.val + 1; omega
  · show admitted ≤ r.next + 1 - r.first.val; omega
  · simp only [SweepRecord.counted] at counted ⊢; omega
  · obtain rfl | hx := mem x hx
    · exact ⟨rfl, by show r.first.val ≤ p.val; omega, by show p.val < r.next + 1; omega⟩
    · obtain ⟨number, first, below⟩ := h.numbered x hx
      exact ⟨number, first, Nat.lt_succ_of_lt below⟩

theorem BookChange.sweepSound {b c : ProbeBook} (change : BookChange b c) (sound : b.Sound) (h : b.SweepSound []) :
    c.SweepSound [] := by
  have empty : owedWants (fun _ => none) = [] := by simp [owedWants]
  cases change with
  | restarted spacing range =>
    exact ⟨range.elim (fun e => e ▸ h.1) id, by simp [ProbeBook.owed, empty, owedEntries, SweepOwes]⟩
  | spaced spacing range => exact ⟨range, h.2⟩
  | admitted p room tag =>
    refine h.of_perm rfl rfl ?_
    rw [List.append_nil, List.append_nil, ProbeBook.owed, ProbeBook.owed, owedEntries_append, owedEntries_cons]
    refine ((owedWants_perm b.wants p).append_right _).trans ?_
    rw [List.append_assoc]
    exact List.perm_append_comm.trans (.of_eq (by simp [owedEntries]))
  | emitted o rest t =>
    refine h.of_perm rfl rfl (.of_eq ?_)
    rw [ProbeBook.owed, ProbeBook.owed, owedEntries_map_of_keys fun k => by split <;> exact ⟨rfl, rfl⟩]
  | voided p =>
    refine conclude_sweepSound (p := p) .void (h.of_perm rfl rfl ?_)
    rw [List.append_nil, List.append_nil]
    exact ((owedWants_perm b.wants p).append_right _).trans (by rw [List.append_assoc]; exact List.perm_append_comm)
  | ended k o held =>
    refine conclude_sweepSound (p := k.origin) o (h.of_perm rfl rfl ?_)
    rw [List.append_nil, List.append_nil]
    refine ((owedEntries_removed sound.tags held).append_left _).trans ?_
    rw [ProbeBook.owed, List.append_assoc]
    exact List.perm_append_comm.append_left _
  | withdrawn k held =>
    refine conclude_sweepSound (p := k.origin) .void (h.of_perm rfl rfl ?_)
    rw [List.append_nil, List.append_nil]
    refine ((owedEntries_removed sound.tags held).append_left _).trans ?_
    rw [ProbeBook.owed, List.append_assoc]
    exact List.perm_append_comm.append_left _
  | emptied removed all =>
    refine emptied_sweepSound removed _ (h.of_perm rfl rfl ?_)
    rw [List.append_nil, ProbeBook.owed, ProbeBook.owed]
    simpa [owedEntries] using (all.symm.filterMap _).append_left (owedWants b.wants)
  | started r idle range next pacing admitted counted =>
    have none : b.owed = [] := by
      have owes := h.2
      rw [idle, List.append_nil] at owes
      exact owes
    have owed : ({ b with sweep := some r } : ProbeBook).owed = [] := none
    refine ⟨h.1, ?_⟩
    rw [owed]
    have first : r.first.val ≤ r.last.val := range
    exact ⟨⟨range, by omega, by omega, by omega, by omega, by simp [counted, next], by simp⟩, fun past => by
      rw [counted]; simp only [SweepRecord.size]; omega⟩
  | paced r running =>
    have owes := h.2
    rw [running] at owes
    obtain ⟨counts, still⟩ := owes
    exact ⟨h.1, { counts with pacing := (Nat.sub_le _ _).trans counts.pacing }, still⟩
  | took r p pacing running next inRange range =>
    obtain ⟨spacing, owes⟩ := h
    rw [running, List.append_nil] at owes
    obtain ⟨counts, -⟩ := owes
    have join := owed_joinSweep sound (p := p) r.number fun m hm => by
      have := (counts.numbered _ hm).2.2
      simp only [next] at this
      omega
    obtain ⟨-, spacing'⟩ := joinSweep_sweep b p r.number
    refine putSweep_sweepSound (spacing' ▸ spacing) ?_
    rw [List.append_nil]
    exact taken_counts counts next inRange (range.elim (fun e => e ▸ Nat.zero_le _) fun e => e ▸ spacing) (Nat.le_refl _)
      (by rw [join.length_eq]; simp only [List.length_cons]; omega) fun x hx => List.mem_cons.1 (join.mem_iff.1 hx)
  | skipped r p pacing running next inRange range =>
    obtain ⟨spacing, owes⟩ := h
    rw [running] at owes
    exact putSweep_sweepSound spacing (taken_counts owes.1 next inRange
      (range.elim (fun e => e ▸ Nat.zero_le _) fun e => e ▸ spacing) (Nat.le_succ _) (by omega) fun x hx => .inr hx)
  | sweepEnded => exact ⟨h.1, by rw [owed_endSweep]; rfl⟩

theorem Ledger.Change.sweep_sound {l m : Ledger} (change : Ledger.Change l m)
    (h : l.book.Sound ∧ l.book.SweepSound []) : m.book.Sound ∧ m.book.SweepSound [] := by
  cases change with
  | lane => exact h
  | queues => exact h
  | book change => exact ⟨change.sound h.1, change.sweepSound h.1 h.2⟩
  | stations => exact h

theorem sweepSound_step (s t : State) (sweep : SweepSound s) (probes : ProbeListSound s) (next : step s = .next t) :
    SweepSound t := by
  rw [sweepSound_iff] at sweep ⊢
  rw [probeListSound_iff] at probes
  exact ((reaches_step s t next).keeps (I := fun l => l.book.Sound ∧ l.book.SweepSound [])
    (fun _ _ change => change.sweep_sound) ⟨probes, sweep⟩).2

end Sys2Proof.Machine
end

section
/-! The Station Table and the queues stay within their bounds (R8, R15, R47, R48, R58, R146, R158, R162). -/

namespace Sys2Proof.Machine

/-! ### The Station Table -/

/-- `StationTableSound` of a table. -/
structure StationsSound (t : List StationEntry) : Prop where
  length    : t.length ≤ 512
  rising    : (t.map (·.position)).Pairwise (· < ·)
  positions : ∀ e ∈ t, e.position < 512
  addresses : (t.map (·.address)).Nodup
  pinned    : pinnedCount t ≤ 32

theorem stationTableSound_iff (s : State) : StationTableSound s ↔ StationsSound s.ledger.stations :=
  ⟨fun ⟨h₁, h₂, h₃, h₄, h₅⟩ => ⟨h₁, h₂, h₃, h₄, h₅⟩, fun ⟨h₁, h₂, h₃, h₄, h₅⟩ => ⟨h₁, h₂, h₃, h₄, h₅⟩⟩

theorem pinnedCount_eq (t : List StationEntry) : pinnedCount t = t.countP fun e => e.pinned :=
  List.countP_eq_length_filter.symm

theorem StationsSound.sublist {t u : List StationEntry} (h : StationsSound t) (sub : u.Sublist t) : StationsSound u where
  length := sub.length_le.trans h.length
  rising := h.rising.sublist (sub.map _)
  positions := fun e he => h.positions e (sub.subset he)
  addresses := h.addresses.sublist (sub.map _)
  pinned := (sub.filter _).length_le.trans h.pinned

theorem StationsSound.map {t : List StationEntry} {f : StationEntry → StationEntry} (h : StationsSound t)
    (position : ∀ e, (f e).position = e.position) (address : ∀ e, (f e).address = e.address)
    (pinned : pinnedCount (t.map f) ≤ 32) : StationsSound (t.map f) where
  length := by simpa using h.length
  rising := by simpa [Function.comp_def, position] using h.rising
  positions := fun e he => by
    obtain ⟨x, hx, rfl⟩ := List.mem_map.1 he
    rw [position]; exact h.positions x hx
  addresses := by simpa [Function.comp_def, address] using h.addresses
  pinned := pinned

theorem pinnedCount_map_le {f : StationEntry → StationEntry} (h : ∀ e, (f e).pinned = true → e.pinned = true)
    (t : List StationEntry) : pinnedCount (t.map f) ≤ pinnedCount t := by
  rw [pinnedCount_eq, pinnedCount_eq, List.countP_map]
  exact List.countP_mono_left fun e _ => h e

/-- In a sound table only the entry found has its address. -/
theorem StationsSound.eq_of_address {t : List StationEntry} (h : StationsSound t) {e x : StationEntry} (he : e ∈ t) (hx : x ∈ t)
    (same : x.address = e.address) : x = e := List.inj_on_of_nodup_map h.addresses hx he same

theorem moved_sound {t : List StationEntry} (h : StationsSound t) {e : StationEntry} (p : Port) (stamp : Half) (now : Word)
    (held : e ∈ t) : StationsSound (updateStation e.address (fun _ => e.move p stamp now) t) := by
  have each : updateStation e.address (fun _ => e.move p stamp now) t = updateStation e.address (·.move p stamp now) t :=
    List.map_congr_left fun x hx => by
      by_cases same : x.address = e.address
      · rw [h.eq_of_address held hx same]
      · rw [if_neg same, if_neg same]
  rw [each]
  refine h.map (fun x => by split <;> rfl) (fun x => by split <;> rfl) ((pinnedCount_map_le (fun x => ?_) t).trans h.pinned)
  split <;> exact id

theorem pinned_sound {t : List StationEntry} (h : StationsSound t) {e : StationEntry} (p : Port) (held : e ∈ t)
    (free : e.pinned = true ∨ pinnedCount t < 32) : StationsSound (updateStation e.address (StationEntry.pin p) t) := by
  refine h.map (fun x => by split <;> rfl) (fun x => by split <;> rfl) ?_
  obtain ⟨l₁, l₂, split, h₁, h₂⟩ := split_at_of_nodup h.addresses held
  have same : ∀ l : List StationEntry, (∀ x ∈ l, x.address ≠ e.address) →
      (l.map fun x => if x.address = e.address then x.pin p else x) = l := fun l hl => by
    conv_rhs => rw [← List.map_id l]
    exact List.map_congr_left fun x hx => if_neg (hl x hx)
  have pinned : (e.pin p).pinned = true := rfl
  have before := h.pinned
  rw [split, pinnedCount_eq] at before free
  rw [pinnedCount_eq, split, List.map_append, List.map_cons, same l₁ h₁, same l₂ h₂, if_pos rfl]
  simp only [List.countP_append, List.countP_cons, pinned, if_true] at before free ⊢
  rcases free with was | room
  · rw [if_pos was] at before; exact before
  · omega

/-! ### An insertion (R48, R50) -/

theorem lowestFree_spec : ∀ (t : List StationEntry) (n : Nat), (t.map (·.position)).Pairwise (· < ·) →
    (∀ e ∈ t, n ≤ e.position) → lowestFree t n ≤ n + t.length ∧ ∀ e ∈ t, e.position ≠ lowestFree t n
  | [], n, _, _ => ⟨Nat.le_refl _, fun _ h => absurd h List.not_mem_nil⟩
  | e :: rest, n, rising, above => by
    rw [List.map_cons, List.pairwise_cons] at rising
    have later : ∀ x ∈ rest, e.position < x.position := fun x hx => rising.1 _ (List.mem_map_of_mem hx)
    have first := above e List.mem_cons_self
    unfold lowestFree
    split
    case isTrue here =>
      have above' : ∀ x ∈ rest, n + 1 ≤ x.position := fun x hx => by have := later x hx; omega
      obtain ⟨le, free⟩ := lowestFree_spec rest (n + 1) rising.2 above'
      refine ⟨by rw [List.length_cons]; omega, fun x hx => ?_⟩
      obtain rfl | hx := List.mem_cons.1 hx
      · have := lowestFree_ge rest (n + 1); omega
      · exact free x hx
    case isFalse here =>
      refine ⟨Nat.le_add_right _ _, fun x hx => ?_⟩
      obtain rfl | hx := List.mem_cons.1 hx
      · exact here
      · have := later x hx; omega
where
  lowestFree_ge : ∀ (t : List StationEntry) (n : Nat), n ≤ lowestFree t n
    | [], _ => Nat.le_refl _
    | e :: rest, n => by
      unfold lowestFree
      split
      · exact (Nat.le_succ n).trans (lowestFree_ge rest (n + 1))
      · exact Nat.le_refl _

theorem placeStation_perm (x : StationEntry) : ∀ t : List StationEntry, (placeStation x t).Perm (x :: t)
  | [] => .refl _
  | e :: rest => by
    unfold placeStation
    split
    · exact .refl _
    · exact ((placeStation_perm x rest).cons e).trans (.swap x e rest)

theorem placeStation_rising (x : StationEntry) : ∀ t : List StationEntry, (t.map (·.position)).Pairwise (· < ·) →
    (∀ e ∈ t, e.position ≠ x.position) → ((placeStation x t).map (·.position)).Pairwise (· < ·)
  | [], _, _ => List.pairwise_singleton _ _
  | e :: rest, rising, new => by
    rw [List.map_cons, List.pairwise_cons] at rising
    have later : ∀ y ∈ rest, e.position < y.position := fun y hy => rising.1 _ (List.mem_map_of_mem hy)
    unfold placeStation
    split
    case isTrue before =>
      rw [List.map_cons, List.pairwise_cons, List.map_cons, List.pairwise_cons]
      refine ⟨fun n hn => ?_, rising⟩
      obtain rfl | hn := List.mem_cons.1 hn
      · exact before
      · exact before.trans (rising.1 n hn)
    case isFalse notBefore =>
      have after : e.position < x.position := by
        have := new e List.mem_cons_self; omega
      rw [List.map_cons, List.pairwise_cons]
      refine ⟨fun n hn => ?_, placeStation_rising x rest rising.2 fun y hy => new y (List.mem_cons_of_mem _ hy)⟩
      obtain ⟨y, hy, rfl⟩ := List.mem_map.1 hn
      obtain rfl | hy := List.mem_cons.1 ((placeStation_perm x rest).mem_iff.1 hy)
      · exact after
      · exact later y hy

/-- The search for the victim of an eviction, one entry on (R50). -/
def olderOf : Option StationEntry → StationEntry → Option StationEntry
  | some b, e => some (olderStation b e)
  | none, e => some e

theorem evictionVictim_eq (t : List StationEntry) : evictionVictim t = (t.filter fun e => !e.pinned).foldl olderOf none := by
  have step : (fun (best : Option StationEntry) e => match best with
      | some b => some (olderStation b e)
      | none => some e) = olderOf := by
    funext best e; cases best <;> rfl
  rw [← step]
  rfl

theorem olderOf_mem (best : Option StationEntry) (e : StationEntry) : olderOf best e = some e ∨ olderOf best e = best := by
  cases best with
  | none => exact .inl rfl
  | some b =>
    by_cases h : e.lastSeen.toNat < b.lastSeen.toNat
    · exact .inl (congrArg some (if_pos h))
    · exact .inr (congrArg some (if_neg h))

theorem foldl_olderOf_mem {v : StationEntry} : ∀ (l : List StationEntry) (best : Option StationEntry),
    l.foldl olderOf best = some v → v ∈ l ∨ best = some v
  | [], _, h => .inr h
  | e :: rest, best, h => by
    obtain h | h := foldl_olderOf_mem rest _ h
    · exact .inl (List.mem_cons_of_mem _ h)
    · obtain ho | ho := olderOf_mem best e
      · exact .inl (Option.some.inj (ho.symm.trans h) ▸ List.mem_cons_self)
      · exact .inr (ho ▸ h)

theorem foldl_olderOf_isSome : ∀ (l : List StationEntry) (b : StationEntry), (l.foldl olderOf (some b)).isSome = true
  | [], _ => rfl
  | e :: rest, b => foldl_olderOf_isSome rest (olderStation b e)

theorem evictionVictim_mem {t : List StationEntry} {v : StationEntry} (h : evictionVictim t = some v) : v ∈ t := by
  rw [evictionVictim_eq] at h
  obtain h | h := foldl_olderOf_mem _ _ h
  · exact (List.mem_filter.1 h).1
  · exact absurd h (by simp)

/-- Wherever an entry is unpinned there is a victim (R50). -/
theorem evictionVictim_isSome {t : List StationEntry} (h : ∃ e ∈ t, e.pinned = false) : (evictionVictim t).isSome = true := by
  obtain ⟨e, he, unpinned⟩ := h
  rw [evictionVictim_eq]
  cases hl : t.filter fun e => !e.pinned with
  | nil =>
    have mem : e ∈ t.filter fun e => !e.pinned := List.mem_filter.2 ⟨he, by simp [unpinned]⟩
    rw [hl] at mem
    exact absurd mem List.not_mem_nil
  | cons x rest => exact foldl_olderOf_isSome rest x

theorem makeRoom_sublist (t : List StationEntry) : (makeRoom t).Sublist t := by
  unfold makeRoom
  repeat' split
  · exact .refl t
  · exact List.filter_sublist
  · exact .refl t

/-- A sound table with room made for an entry holds fewer than 512 (R50). -/
theorem length_makeRoom_lt {t : List StationEntry} (h : StationsSound t) : (makeRoom t).length < 512 := by
  unfold makeRoom
  split
  · assumption
  · rename_i full
    have pinned := h.pinned
    have unpinned : ∃ e ∈ t, e.pinned = false := by
      by_contra none
      push Not at none
      have : t.filter (fun e => e.pinned) = t := List.filter_eq_self.2 fun e he => by simpa using none e he
      rw [pinnedCount, this] at pinned
      omega
    obtain ⟨v, hv⟩ := Option.isSome_iff_exists.1 (evictionVictim_isSome unpinned)
    rw [hv]
    have mem := evictionVictim_mem hv
    have : (removeAt v.position t).length < t.length := by
      rw [removeAt, List.length_filter_lt_length_iff_exists]
      exact ⟨v, mem, by simp⟩
    exact this.trans_le h.length

/-- A new entry placed at a free position of a table with room (R48). -/
theorem placeStation_sound {t : List StationEntry} {x : StationEntry} (h : StationsSound t) (short : t.length < 512)
    (below : x.position < 512) (position : ∀ e ∈ t, e.position ≠ x.position) (address : ∀ e ∈ t, e.address ≠ x.address)
    (free : x.pinned = true → pinnedCount t < 32) : StationsSound (placeStation x t) := by
  have perm := placeStation_perm x t
  refine ⟨perm.length_eq ▸ short, placeStation_rising x t h.rising position, fun e he => ?_, ?_, ?_⟩
  · obtain rfl | he := List.mem_cons.1 (perm.mem_iff.1 he)
    · exact below
    · exact h.positions e he
  · rw [(perm.map _).nodup_iff, List.map_cons, List.nodup_cons]
    refine ⟨fun hm => ?_, h.addresses⟩
    obtain ⟨e, he, same⟩ := List.mem_map.1 hm
    exact address e he same
  · have pinned := h.pinned
    rw [pinnedCount_eq, perm.countP_eq, List.countP_cons, ← pinnedCount_eq]
    split
    · have := free ‹_›; omega
    · exact pinned

theorem inserted_sound {t : List StationEntry} (h : StationsSound t) (a : Address) (home : Port) (now : Word) (pin : Bool)
    (new : findStation a t = none) (free : pin = true → pinnedCount t < 32) : StationsSound (insertStation a home now pin t) := by
  have sub := makeRoom_sublist t
  have room := h.sublist sub
  have short := length_makeRoom_lt h
  obtain ⟨low, unused⟩ := lowestFree_spec (makeRoom t) 0 room.rising fun _ _ => Nat.zero_le _
  have address : ∀ e ∈ t, e.address ≠ a := by simpa [findStation, List.find?_eq_none] using new
  exact placeStation_sound room short (by show lowestFree (makeRoom t) 0 < 512; omega) unused
    (fun e he => address e (sub.subset he)) fun pinned => (sub.filter _).length_le.trans_lt (free pinned)

theorem StationChange.sound {t u : List StationEntry} (change : StationChange t u) (h : StationsSound t) : StationsSound u := by
  cases change with
  | filtered keep => exact h.sublist List.filter_sublist
  | mapped f kept =>
    exact h.map (fun e => (kept e).1) (fun e => (kept e).2.1) ((pinnedCount_map_le (fun e => (kept e).2.2.1) t).trans h.pinned)
  | moved e p stamp now held => exact moved_sound h p stamp now (findStation_some held).1
  | pinned e p held free => exact pinned_sound h p (findStation_some held).1 free
  | inserted a home now pin new free => exact inserted_sound h a home now pin new free

theorem Ledger.Change.stations_sound {l m : Ledger} (change : Ledger.Change l m) (h : StationsSound l.stations) :
    StationsSound m.stations := by
  cases change with
  | lane => exact h
  | queues => exact h
  | book => exact h
  | stations change => exact change.sound h

/-! ### The queues -/

/-- The bounds of `QueuesBounded` on the fabric link. -/
structure FabricLane.Bounded (q : FabricLane) : Prop where
  fifo   : q.fifo.length ≤ 64
  budget : q.budget ≤ 16

/-- The bounds of `QueuesBounded` on the panel keys and the management link. -/
structure LinkQueues.Bounded (q : LinkQueues) : Prop where
  requests : q.requests.length ≤ 4
  relRun   : q.relRun < 20
  silRun   : q.silRun < 20

/-- At most four moves are held for a station (R47). -/
def MovesBounded (t : List StationEntry) : Prop := ∀ e ∈ t, e.moves.length ≤ 4

/-- The bounds of `QueuesBounded`, of the four parts of the ledger. -/
def Ledger.Bounded (l : Ledger) : Prop := l.lane.Bounded ∧ l.queues.Bounded ∧ MovesBounded l.stations

theorem queuesBounded_iff (s : State) : QueuesBounded s ↔ s.ledger.Bounded :=
  ⟨fun ⟨h₁, h₂, h₃, h₄, h₅, h₆⟩ => ⟨⟨h₁, h₂⟩, ⟨h₃, h₄, h₅⟩, h₆⟩,
   fun ⟨⟨h₁, h₂⟩, ⟨h₃, h₄, h₅⟩, h₆⟩ => ⟨h₁, h₂, h₃, h₄, h₅, h₆⟩⟩

theorem LaneChange.bounded {q r : FabricLane} (change : LaneChange q r) (h : q.Bounded) : r.Bounded := by
  cases change with
  | restarted => exact { fifo := Nat.zero_le _, budget := Nat.le_refl _ }
  | recordOffered r room => exact { h with fifo := by simpa using room }
  | recordTaken r rest head =>
    have fifo := h.fifo
    rw [head] at fifo
    exact { h with fifo := (Nat.le_succ _).trans fifo }
  | synced => exact { h with }
  | slotOpened => exact { h with budget := Nat.le_refl _ }
  | granted => exact { h with budget := (Nat.sub_le _ _).trans h.budget }

theorem QueueChange.bounded {q r : LinkQueues} (change : QueueChange q r) (h : q.Bounded) : r.Bounded := by
  cases change with
  | restarted => exact { h with relRun := Nat.zero_lt_succ _, silRun := Nat.zero_lt_succ _ }
  | linkReset => exact { h with requests := Nat.zero_le _ }
  | keysSampled rel sil hrel hsil => exact { h with relRun := hrel, silRun := hsil }
  | frameQueued f room => exact { h with requests := by simpa using room }
  | frameTaken f rest head =>
    have requests := h.requests
    rw [head] at requests
    exact { h with requests := (Nat.le_succ _).trans requests }
  | heard => exact { h with }
  | retired => exact { h with }

theorem StationChange.moves {t u : List StationEntry} (change : StationChange t u) (h : MovesBounded t) : MovesBounded u := by
  have mapped : ∀ f : StationEntry → StationEntry, (∀ e ∈ t, (f e).moves.length ≤ 4) → MovesBounded (t.map f) := by
    intro f hf e he
    obtain ⟨x, hx, rfl⟩ := List.mem_map.1 he
    exact hf x hx
  cases change with
  | filtered keep => exact fun e he => h e (List.mem_filter.1 he).1
  | mapped f kept => exact mapped f fun e he => (kept e).2.2.2.trans (h e he)
  | moved e p stamp now =>
    refine mapped _ fun x hx => ?_
    split
    · exact List.length_take_le _ _
    · exact h x hx
  | pinned e p =>
    refine mapped _ fun x hx => ?_
    split
    · unfold StationEntry.pin
      dsimp only
      split
      · exact h x hx
      · exact Nat.zero_le _
    · exact h x hx
  | inserted a home now pin =>
    intro e he
    obtain rfl | he := List.mem_cons.1 ((placeStation_perm _ _).mem_iff.1 he)
    · exact Nat.zero_le _
    · exact h e ((makeRoom_sublist t).subset he)

theorem Ledger.Change.bounded {l m : Ledger} (change : Ledger.Change l m) (h : l.Bounded) : m.Bounded := by
  obtain ⟨lane, queues, moves⟩ := h
  cases change with
  | lane change => exact ⟨change.bounded lane, queues, moves⟩
  | queues change => exact ⟨lane, change.bounded queues, moves⟩
  | book => exact ⟨lane, queues, moves⟩
  | stations change => exact ⟨lane, queues, change.moves moves⟩

/-- `FramesHeard` as the ledger shows it. -/
def LinkQueues.Heard (q : LinkQueues) : Prop := q.requests ≠ [] → q.talking = true

theorem QueueChange.heard_kept {q r : LinkQueues} (change : QueueChange q r) (h : q.Heard) : r.Heard := by
  cases change with
  | restarted => exact h
  | linkReset => exact fun none => absurd rfl none
  | keysSampled => exact h
  | frameQueued => exact fun _ => rfl
  | frameTaken f rest head => exact fun _ => h (by rw [head]; exact List.cons_ne_nil _ _)
  | heard => exact fun _ => rfl
  | retired => exact h

theorem Ledger.Change.heard_kept {l m : Ledger} (change : Ledger.Change l m) (h : l.queues.Heard) : m.queues.Heard := by
  cases change with
  | lane => exact h
  | queues change => exact change.heard_kept h
  | book => exact h
  | stations => exact h

/-- Settles O10: every change of the ledger keeps each of the four invariants, the sweep record together with the probe list,
and every step is a run of changes. -/
theorem queuesStayBounded : Obligations.QueuesStayBounded := by
  refine ⟨fun s t bounded next => ?_, fun s t sound next => ?_, sweepSound_step, fun s t heard next => ?_⟩
  · rw [queuesBounded_iff] at bounded ⊢
    exact (reaches_step s t next).keeps (I := Ledger.Bounded) (fun _ _ change => change.bounded) bounded
  · rw [stationTableSound_iff] at sound ⊢
    exact (reaches_step s t next).keeps (I := fun l => StationsSound l.stations) (fun _ _ change => change.stations_sound) sound
  · exact (reaches_step s t next).keeps (I := fun l => l.queues.Heard) (fun _ _ change => change.heard_kept) heard

end Sys2Proof.Machine
end

section
/-! The rows of the timers, the gate of a state and the control lane. -/

namespace Sys2Proof.Machine

/-! ### The gate (R88) -/

/-- Settles O33: the rules of `State.enter` put together. -/
theorem gateFollowsState : Obligations.GateFollowsState := by
  intro s p new
  refine ⟨⟨?_, ?_⟩, ?_, enter_control s p new, ?_, fun q h => port_enter_of_ne s new h, onlyIn_enter s p new⟩
  · cases new <;> decide
  · cases new <;> decide
  · rw [port_enter_self]
  · rw [enter_trips]

/-! ### The rows of events (log 3) -/

theorem takeDue_of_mem {s : State} {e : Event} (h : e ∈ s.due) : s.takeDue e = (s.setDue (s.due.erase e)).takeEvent e :=
  if_pos h

theorem takeDue_of_not_mem {s : State} {e : Event} (h : e ∉ s.due) : s.takeDue e = s := if_neg h

theorem exec_graceExpiry (s : State) : exec .graceExpiry s = .next (s.takeDue .grace) := rfl
theorem exec_retirePeriodEnd (s : State) : exec .retirePeriodEnd s = .next (s.takeDue .retireEnd) := rfl
theorem exec_fabricLost (s : State) : exec .fabricLost s = .next (s.takeDue .fabricLost) := rfl
theorem exec_buzzerExpiry (s : State) : exec .buzzerExpiry s = .next (s.takeDue .buzzer) := rfl
theorem exec_frameTimeout (s : State) : exec .frameTimeout s = .next (s.takeDue .frameTimeout) := rfl

theorem takeRetireEnd_of_zero {s : State} {room : Half} (h : s.probes.retired = some { room := room, left := 0 }) :
    s.takeRetireEnd = s.setProbes { s.probes with retired := none } := by
  unfold State.takeRetireEnd; rw [h]; rfl

theorem takeFabricLost_of_unreported {s : State} (hunt : s.receiver.synced = false) (unreported : s.receiver.reported = false)
    (reached : 16 ≤ s.receiver.huntSlots) : s.takeFabricLost =
      (s.setReceiver { s.receiver with reported := true }).raise (.fabricLost s.second) :=
  if_pos ⟨hunt, unreported, reached⟩

theorem takeFabricLost_of_over {s : State} (h : s.receiver.synced = true ∨ s.receiver.reported = true) :
    s.takeFabricLost = s := if_neg fun ⟨hunt, unreported, _⟩ => by simp [hunt, unreported] at h

theorem takeBuzzerExpiry_of_sounding {s : State} {b : Buzzer} (h : s.panel.buzzer = some b) :
    s.takeBuzzerExpiry = s.setPanel { s.panel with buzzer := if b.remaining = 0 then none else some b } := by
  unfold State.takeBuzzerExpiry
  rw [h]
  dsimp only
  split
  · rfl
  · rw [← h]; rfl

theorem takeFrameTimeout_of_age {s : State} {bytes : List Byte} {age : Nat} (h : s.mgmt.receiver = .inFrame bytes age)
    (old : 20 ≤ age) : s.takeFrameTimeout = s.setMgmt s.mgmt.requestError := by
  unfold State.takeFrameTimeout; rw [h]; exact if_pos old

/-- Settles O37: each row takes its event from the due list, and the event does what its time run out does. -/
theorem timersRunOut : Obligations.TimersRunOut := by
  refine ⟨fun s => ⟨fun due => ?_, fun room due retired => ?_⟩,
    fun s due => ⟨fun hunt unreported reached => ?_, fun ended => ?_⟩,
    fun s b due sounding => ?_, fun s bytes age due inFrame old => ?_⟩
  · rw [exec_graceExpiry, takeDue_of_mem due]; rfl
  · rw [exec_retirePeriodEnd, takeDue_of_mem due]
    exact congrArg _ (takeRetireEnd_of_zero (s := s.setDue (s.due.erase .retireEnd)) retired)
  · rw [exec_fabricLost, takeDue_of_mem due]
    exact congrArg _ (takeFabricLost_of_unreported (s := s.setDue (s.due.erase .fabricLost)) hunt unreported reached)
  · rw [exec_fabricLost, takeDue_of_mem due]
    exact congrArg _ (takeFabricLost_of_over (s := s.setDue (s.due.erase .fabricLost)) ended)
  · rw [exec_buzzerExpiry, takeDue_of_mem due]
    exact congrArg _ (takeBuzzerExpiry_of_sounding (s := s.setDue (s.due.erase .buzzer)) sounding)
  · rw [exec_frameTimeout, takeDue_of_mem due]
    exact congrArg _ (takeFrameTimeout_of_age (s := s.setDue (s.due.erase .frameTimeout)) inFrame old)

/-! ### Tallies (R12 to R14) -/

theorem consume_of_usable {t : PortTally} {slot : Byte} {x : Tally} (h : t.pending = some x) (usable : x.slot = slot) :
    t.consume slot =
      { counts := x.counts, tally := { pending := none, last := x.counts, held := 0 }, late := false, held := false } := by
  unfold PortTally.consume; rw [h]; exact if_pos usable

theorem consume_of_none {t : PortTally} (slot : Byte) (h : t.pending = none) : t.consume slot = t.hold false := by
  unfold PortTally.consume; rw [h]

theorem consume_of_late {t : PortTally} {slot : Byte} {x : Tally} (h : t.pending = some x) (late : x.slot ≠ slot) :
    t.consume slot = t.hold true := by
  unfold PortTally.consume; rw [h]; exact if_neg late

theorem hold_of_lt {t : PortTally} (late : Bool) (h : t.held < 4) : t.hold late =
    { counts := t.last, tally := { pending := none, last := t.last, held := t.held + 1 }, late := late, held := true } :=
  if_pos h

theorem hold_of_four {t : PortTally} (late : Bool) (h : t.held = 4) : t.hold late =
    { counts := ⟨0, 0, 0⟩, tally := { pending := none, last := ⟨0, 0, 0⟩, held := 4 }, late := late, held := false } := by
  unfold PortTally.hold
  rw [if_neg (by omega), h]
  rfl

/-- Without a tally the held-slot count of a port rises to 4 and stays there, its last counts being zeros from then on
(R14). -/
theorem consume_iterate {t : PortTally} (slot : Byte) (held : t.held = 0) (empty : t.pending = none) : ∀ k : Nat,
    (fun u : PortTally => (u.consume slot).tally)^[k] t =
      { pending := none, last := if k ≤ 4 then t.last else ⟨0, 0, 0⟩, held := min k 4 }
  | 0 => by cases t; simp_all
  | k + 1 => by
    rw [Function.iterate_succ_apply', consume_iterate slot held empty k, consume_of_none slot rfl]
    by_cases h : k < 4
    · rw [hold_of_lt false (by simpa using h)]
      simp [show k ≤ 4 by omega, show k + 1 ≤ 4 by omega]
    · rw [hold_of_four false (by show min k 4 = 4; omega)]
      simp [show ¬k + 1 ≤ 4 by omega, show 4 ≤ k + 1 by omega]

/-- Settles O17: one consumption by its three cases, and a run of them by the count of slots without a tally. -/
theorem tallyIsStoredAndHeldForFourSlots : Obligations.TallyIsStoredAndHeldForFourSlots := by
  refine ⟨fun s p slot counts rest due head => ?_, fun t slot k held empty => ⟨fun h => ?_, fun h => ?_⟩,
    fun t slot x h usable => consume_of_usable h usable, fun t slot late h => ?_⟩
  · show Host.Outcome.next s.close.dispatchTally = _
    rw [close_of_due_nil s due, State.dispatchTally, head]
    rfl
  · rw [consume_iterate slot held empty, consume_of_none slot rfl, hold_of_lt false (by simpa using h)]
    simp [show k ≤ 4 by omega]
  · rw [consume_iterate slot held empty, consume_of_none slot rfl, hold_of_four false (by show min k 4 = 4; omega)]
  · have held : t.consume slot = t.hold late := by
      obtain ⟨rfl, none⟩ | ⟨rfl, x, pending, late⟩ := h
      · exact consume_of_none slot none
      · exact consume_of_late pending late
    rw [held]
    exact ⟨hold_of_lt late, hold_of_four late⟩

/-! ### The control lane (R15 to R19) -/

theorem firstGate_eq_some {s : State} {p : Port} (pending : s.control.pendingGate[p].isSome = true)
    (lowest : ∀ q : Port, q < p → s.control.pendingGate[q] = none) : s.firstGate = some p := by
  have hp : allPorts[p.val]'(by simp [allPorts]) = p := by simp [allPorts]
  refine List.find?_eq_some_iff_getElem.2 ⟨pending, p.val, by simp [allPorts], hp, fun j hj => ?_⟩
  have below : (allPorts[j]'(by simp [allPorts]; omega)) < p := by simp [allPorts, Fin.lt_def, hj]
  simp [lowest _ below]

theorem firstGate_eq_none {s : State} (h : ∀ q : Port, s.control.pendingGate[q] = none) : s.firstGate = none :=
  List.find?_eq_none.2 fun q _ => by simp [h q]

theorem grantMark_of_grantable {s : State} (h : s.markGrantable = true) : s.grantMark = s.setControl
    { s.control with budget := s.control.budget - 1, markWaiting := false, lane := some (.slotMark s.slotNumber) } := if_pos h

theorem grantMark_of_not {s : State} (h : s.markGrantable = false) : s.grantMark = s := if_neg (by simp [h])

theorem grantGate_of_some {s : State} {p : Port} (h : s.laneOpen = true) (first : s.firstGate = some p) :
    s.grantGate = s.setControl { s.control with
      budget := s.control.budget - 1, lane := some (.gate p (s.gate p)),
      pendingGate := s.control.pendingGate.set p none } := by
  unfold State.grantGate; rw [if_pos h, first]; rfl

theorem grantGate_of_not {s : State} (h : s.laneOpen = false ∨ s.firstGate = none) : s.grantGate = s := by
  unfold State.grantGate
  obtain h | h := h
  · rw [if_neg (by simp [h])]
  · rw [h]; exact ite_self _

theorem grantEmit_of_cons {s : State} {o : EmitOrder} {rest : List EmitOrder} (h : s.laneOpen = true)
    (none : s.firstGate = none) (head : s.control.emitQueue = o :: rest) : s.grantEmit = (s.setControl { s.control with
      budget := s.control.budget - 1, lane := some (.emit o), emitQueue := rest }).markSent o.tag := by
  unfold State.grantEmit; rw [if_pos (by simp [h, none]), head]; rfl

theorem grantEmit_of_not {s : State} (h : s.laneOpen = false ∨ s.firstGate.isSome = true ∨ s.control.emitQueue = []) :
    s.grantEmit = s := by
  unfold State.grantEmit
  obtain h | h | h := h
  · rw [if_neg (by simp [h])]
  · rw [if_neg (by simp [Option.isSome_iff_ne_none.1 h])]
  · rw [h]; exact ite_self _

theorem grantRefresh_of_open {s : State} (h : s.laneOpen = true) (none : s.firstGate = none) (empty : s.control.emitQueue = [])
    (coming : s.control.refreshed = false) : s.grantRefresh = s.setControl { s.control with
      budget := s.control.budget - 1, refreshed := true,
      lane := some (.gate s.control.refreshPtr (s.gate s.control.refreshPtr)),
      refreshPtr := s.control.refreshPtr + 1 } := by
  unfold State.grantRefresh; rw [if_pos (by simp [h, none, empty, coming])]; rfl

theorem grantRefresh_of_not {s : State} (h : s.laneOpen = false ∨ s.firstGate.isSome = true ∨ s.control.emitQueue ≠ [] ∨
    s.control.refreshed = true) : s.grantRefresh = s := by
  unfold State.grantRefresh
  obtain h | h | h | h := h
  · rw [if_neg (by simp [h])]
  · rw [if_neg (by simp [Option.isSome_iff_ne_none.1 h])]
  · rw [if_neg (by simp [h])]
  · rw [if_neg (by simp [h])]

end Sys2Proof.Machine
end

section
/-! The control lane, the sighting receiver, RESTART and the second expiry. -/

namespace Sys2Proof.Machine

/-! ### The grants (R15 to R19, R68) -/

theorem exec_slotMarkGrant {s : State} (h : s.due = []) : exec .slotMarkGrant s = .next s.grantMark :=
  congrArg (fun t => Host.Outcome.next (State.grantMark t)) (close_of_due_nil s h)

theorem exec_gateChangeGrant {s : State} (h : s.due = []) : exec .gateChangeGrant s = .next s.grantGate :=
  congrArg (fun t => Host.Outcome.next (State.grantGate t)) (close_of_due_nil s h)

theorem exec_emitGrant {s : State} (h : s.due = []) : exec .emitGrant s = .next s.grantEmit :=
  congrArg (fun t => Host.Outcome.next (State.grantEmit t)) (close_of_due_nil s h)

theorem exec_refreshGateGrant {s : State} (h : s.due = []) : exec .refreshGateGrant s = .next s.grantRefresh :=
  congrArg (fun t => Host.Outcome.next (State.grantRefresh t)) (close_of_due_nil s h)

theorem laneOpen_of {s : State} (sent : s.control.markWaiting = false) (budget : 0 < s.control.budget) : s.laneOpen = true := by
  simp [State.laneOpen, sent, budget]

theorem portByte_toNat (p : Port) : (portByte p).toNat = p.val := by
  have := p.isLt
  simp [portByte]
  omega

theorem halfBytes_append (x : Half) : x = x.extractLsb' 8 8 ++ x.extractLsb' 0 8 := by
  refine BitVec.eq_of_getLsbD_eq fun i hi => ?_
  rw [BitVec.getLsbD_append]
  by_cases low : i < 8
  · simp [low]
  · simp [low, show i - 8 < 8 by omega, show 8 + (i - 8) = i by omega]

/-- Settles O18: each row's grant, when it may be granted and when not, and the bytes of each record. -/
theorem controlLaneGrantsInOrder : Obligations.ControlLaneGrantsInOrder := by
  refine ⟨fun s due budget => ⟨fun waiting => ?_, fun p sent pending lowest => ?_, fun sent => ?_, fun sent none => ?_,
    fun sent none empty coming => ?_⟩, fun s due spent => ?_, fun n => rfl, fun p g => ?_, fun o => ?_⟩
  · have shut : s.laneOpen = false := by simp [State.laneOpen, waiting]
    rw [exec_slotMarkGrant due, exec_gateChangeGrant due, exec_emitGrant due, exec_refreshGateGrant due,
      grantMark_of_grantable (by simp [State.markGrantable, waiting, budget]), grantGate_of_not (.inl shut),
      grantEmit_of_not (.inl shut), grantRefresh_of_not (.inl shut)]
    exact ⟨rfl, rfl, rfl, rfl⟩
  · have first := firstGate_eq_some pending lowest
    have some : s.firstGate.isSome = true := by rw [first]; rfl
    rw [exec_gateChangeGrant due, exec_emitGrant due, exec_refreshGateGrant due,
      grantGate_of_some (laneOpen_of sent budget) first, grantEmit_of_not (.inr (.inl some)),
      grantRefresh_of_not (.inr (.inl some))]
    exact ⟨rfl, rfl, rfl⟩
  · rw [exec_slotMarkGrant due, grantMark_of_not (by simp [State.markGrantable, sent])]
  · have first := firstGate_eq_none none
    rw [exec_gateChangeGrant due, exec_emitGrant due, exec_refreshGateGrant due, grantGate_of_not (.inr first)]
    refine ⟨rfl, fun empty => ?_, fun o rest head => ⟨?_, ?_⟩, fun refreshed => ?_⟩
    · rw [grantEmit_of_not (.inr (.inr empty))]
    · rw [grantRefresh_of_not (.inr (.inr (.inl (by simp [head]))))]
    · rw [grantEmit_of_cons (laneOpen_of sent budget) first head]
      exact ⟨_, rfl, rfl⟩
    · rw [grantRefresh_of_not (.inr (.inr (.inr refreshed)))]
  · rw [exec_refreshGateGrant due,
      grantRefresh_of_open (laneOpen_of sent budget) (firstGate_eq_none none) empty coming]
    rfl
  · have shut : s.laneOpen = false := by simp [State.laneOpen, spent]
    rw [exec_slotMarkGrant due, exec_gateChangeGrant due, exec_emitGrant due, exec_refreshGateGrant due,
      grantMark_of_not (by simp [State.markGrantable, spent]), grantGate_of_not (.inl shut), grantEmit_of_not (.inl shut),
      grantRefresh_of_not (.inl shut)]
    exact ⟨rfl, rfl, rfl, rfl⟩
  · exact ⟨portByte p, gateCode g, portByte_toNat p, by cases g <;> rfl, rfl⟩
  · exact ⟨portByte o.origin, _, _, _, _, portByte_toNat _, halfBytes_append _, halfBytes_append _, rfl⟩

theorem markSent_probes (s : State) (tag : Half) : (s.markSent tag).probes = { s.probes with
    list := s.probes.list.map fun e => if e.tag = tag ∧ e.expiry = none then
      { e with expiry := some (s.stamp + BitVec.ofNat 16 s.profile.probeTimeout) } else e } := rfl

/-- In a sound probe list the order at the head of the EMIT queue is that of a QUEUED entry (R18, R63). -/
theorem headOrder_entry {s : State} (sound : ProbeListSound s) {o : EmitOrder} {rest : List EmitOrder}
    (head : s.control.emitQueue = o :: rest) :
    ∃ e ∈ s.probes.list, e.tag = o.tag ∧ e.origin = o.origin ∧ e.expiry = none := by
  obtain ⟨-, -, -, -, orders⟩ := sound
  have mem : (o.tag, o.origin) ∈ (s.probes.list.filter fun e => e.expiry.isNone).map fun e => (e.tag, e.origin) := by
    rw [← orders, head]; exact List.mem_cons_self
  obtain ⟨e, he, eq⟩ := List.mem_map.1 mem
  obtain ⟨held, queued⟩ := List.mem_filter.1 he
  obtain ⟨tag, origin⟩ := Prod.mk.inj eq
  exact ⟨e, held, tag, origin, by simpa using queued⟩

/-- Settles O19: the grant marks the entry of the order's tag, which a sound list holds QUEUED. -/
theorem emitGrantMakesEntrySent : Obligations.EmitGrantMakesEntrySent := by
  intro s o rest due sound budget sent none head
  obtain ⟨e, held, tag, origin, queued⟩ := headOrder_entry sound head
  have grant := grantEmit_of_cons (laneOpen_of sent budget) (firstGate_eq_none none) head
  refine ⟨s.grantEmit, exec_emitGrant due, ?_, ?_, ⟨e, held, tag, origin, queued, ?_⟩, fun x other => ?_, ?_, ?_⟩
  · rw [grant]; rfl
  · rw [grant]; rfl
  · rw [grant, markSent_probes]
    exact List.mem_map.2 ⟨e, held, if_pos ⟨tag, queued⟩⟩
  · rw [grant, markSent_probes]
    refine List.mem_map.trans ⟨fun ⟨y, hy, eq⟩ => ?_, fun hx => ⟨x, hx, if_neg fun h => other h.1⟩⟩
    split at eq
    · rename_i h
      exact absurd (eq ▸ h.1) other
    · exact eq ▸ hy
  · rw [grant, markSent_probes]; exact List.length_map _
  · rw [grant]
    exact ((onlyIn_setControl s _).mono (by decide)).trans ((onlyIn_setProbes _ _).mono (by decide))

/-! ### RESTART (R179) -/

theorem port_restartWith (s : State) (profile : Profile) (roles : Vector Role 40) (p : Port) :
    (s.restartWith profile roles).port p = PortRecord.start roles[p] := by
  simp [State.restartWith, State.port, State.start]

theorem restartWith_control (s : State) (profile : Profile) (roles : Vector Role 40) : (s.restartWith profile roles).control =
    Control.start (Vector.ofFn fun p => gateOf (startState roles[p])) s.control.lane := rfl

/-- The gates that a control transmitter starts with show in its pending GATE changes alone. -/
theorem Control.start_gates (g h : Vector Gate 40) (lane : Option ControlRecord) :
    Control.start g lane = { Control.start h lane with pendingGate := (Control.start g lane).pendingGate } := rfl

theorem pendingGate_restartWith (s : State) (profile : Profile) (roles : Vector Role 40) (p : Port) :
    (s.restartWith profile roles).control.pendingGate[p] = some (gateOf (startState roles[p])) := by
  simp [State.restartWith, State.start, Control.start]

theorem portMeters_restartWith (s : State) (profile : Profile) (roles : Vector Role 40) (p : Port) (k : TrafficClass) :
    ((s.restartWith profile roles).portMeters p).get k = Meter.restartedWith (profile.meters.get k) 0 := by
  have meters : (s.restartWith profile roles).portMeters p = startMeters profile.meters := by
    simp [State.restartWith, State.portMeters, State.start]
  rw [meters]
  cases k <;> rfl

theorem exec_restart {s : State} (h : TakesRequests s) (tag mode : Byte) : exec (.restart tag mode) s =
    .next (((s.setMgmt s.mgmt.heard).reqRestart mode).fill 0x9A tag (restartFlushes mode)) := by
  show Host.Outcome.next (s.close.request 0x1A tag (restartFlushes mode) fun s => s.reqRestart mode) = _
  rw [close_of_due_nil s h.1, request_of_takes h]
  rfl

/-- A RESTART that is taken: every block restarts under the profile and the roles of its mode, and the reply fills the slot of
the link that has heard its frame (R165, R179). -/
theorem exec_restart_taken {s : State} (h : TakesRequests s) (tag : Byte) {mode : Byte} (taken : mode = 0 ∨ mode = 1) :
    ∃ roles : Vector Role 40, (∀ p, roles[p] = if mode = 0 then (s.port p).role else factoryRole p) ∧
      exec (.restart tag mode) s = .next ((s.restartWith (if mode = 0 then s.profile else factoryProfile) roles).setMgmt
        (s.mgmt.heard.fillReply
          { kind := 0x9A, tag := tag, flush := true,
            body := [0, mode] ++ halfBytes (if mode = 0 then s.profile else factoryProfile).roomId })) := by
  obtain rfl | rfl := taken
  · exact ⟨s.roles, fun p => by simp [State.roles], exec_restart h tag 0⟩
  · exact ⟨factoryRoles, fun p => by simp [factoryRoles], exec_restart h tag 1⟩

/-- Settles O60: a refused mode changes nothing but the link, and a mode that is taken restarts every other block. -/
theorem restartResetsAllButTheLink : Obligations.RestartResetsAllButTheLink := by
  refine fun s tag mode takes => ⟨fun keep factory => ?_, fun taken => ?_⟩
  · have refused : (s.setMgmt s.mgmt.heard).reqRestart mode = (s.setMgmt s.mgmt.heard).refuse stBadValue := by
      unfold State.reqRestart; rw [if_neg keep, if_neg factory]
    have flush : restartFlushes mode = false := 
      Bool.or_eq_false_iff.2 ⟨beq_eq_false_iff_ne.2 keep, beq_eq_false_iff_ne.2 factory⟩
    rw [exec_restart takes, refused, flush]
    rfl
  · obtain ⟨roles, role, run⟩ := exec_restart_taken takes tag taken
    generalize (if mode = 0 then s.profile else factoryProfile) = profile at run ⊢
    have port : ∀ m p, ((s.restartWith profile roles).setMgmt m).port p = PortRecord.start roles[p] := fun _ p =>
      port_restartWith s profile roles p
    refine ⟨_, run, rfl, fun p => ?_, rfl, rfl, fun p => ?_, ?_, fun p => ?_, fun p k => ?_, fun p => ?_,
      rfl, rfl, rfl, rfl, rfl, fun p => ?_, rfl, rfl, rfl, rfl⟩
    · rw [port, role]
    · simp [State.restartWith, State.start, State.tally]
    · rw [State.setMgmt_control, restartWith_control]
      exact Control.start_gates _ _ _
    · rw [port]
      exact pendingGate_restartWith s _ roles p
    · exact portMeters_restartWith s _ roles p k
    · simp [State.restartWith, State.start, State.report]
    · simp [State.restartWith, State.start, State.evidenceOf, EvidenceRecord.empty]

end Sys2Proof.Machine
end

section
/-! The sighting receiver (R4 to R8, R10, R181, R182). -/

namespace Sys2Proof.Machine

theorem exec_sightingRecordReceive {s : State} (h : s.due = []) (bytes : List Byte) (extra : Nat) :
    exec (.sightingRecordReceive bytes extra) s = .next (s.receiveRecord bytes extra) :=
  congrArg (fun t => Host.Outcome.next (State.receiveRecord t bytes extra)) (close_of_due_nil s h)

theorem receiveRecord_of_good {s : State} {bytes : List Byte} {extra : Nat} (h : checkPasses bytes extra = true) :
    s.receiveRecord bytes extra = s.takeGoodRecord (parseRecord bytes) := if_pos h

theorem receiveRecord_of_wrong {s : State} {bytes : List Byte} {extra : Nat} (h : checkPasses bytes extra = false) :
    s.receiveRecord bytes extra = if s.receiver.synced then s.enterHunt else s.loseRecord := if_neg (by simp [h])

theorem takeGoodRecord_of_synced {s : State} (h : s.receiver.synced = true) : s.takeGoodRecord .fill = s ∧
    s.takeGoodRecord .bad = s.loseRecord ∧ ∀ r, s.takeGoodRecord (.good r) = s.offerRecord r :=
  ⟨if_pos h, if_pos h, fun _ => if_pos h⟩

theorem takeGoodRecord_of_hunt {s : State} (h : s.receiver.synced = false) : s.takeGoodRecord .fill = s.resync ∧
    ∀ r, r ≠ .fill → s.takeGoodRecord r = s.loseRecord := by
  have hunt : ¬s.receiver.synced = true := by simp [h]
  refine ⟨if_neg hunt, fun r hr => ?_⟩
  cases r with
  | fill => exact absurd rfl hr
  | good g => exact if_neg hunt
  | bad => exact if_neg hunt

theorem offerRecord_of_room {s : State} (r : SightingRecord) (h : s.receiver.fifo.length < 64) :
    s.offerRecord r = s.setReceiver { s.receiver with fifo := s.receiver.fifo ++ [r] } := if_pos h

theorem offerRecord_of_full {s : State} (r : SightingRecord) (h : 64 ≤ s.receiver.fifo.length) :
    s.offerRecord r = s.setMgmt s.mgmt.flagOverrun := if_neg (not_lt.2 h)

theorem resync_eq (s : State) : s.resync =
    (s.setReceiver { s.receiver with synced := true, huntSlots := 0, reported := false }).setMgmt
      (if s.receiver.reported then s.mgmt.raise (.fabricBack s.receiver.huntSlots s.second) else s.mgmt) := by
  unfold State.resync
  dsimp only
  split <;> rfl

/-! ### The check (R4, R181) -/

theorem checkPasses_iff (bytes : List Byte) (extra : Nat) : checkPasses bytes extra = true ↔
    bytes.length = 10 ∧ extra = 0 ∧ bytes[9]? = some (crc8 (bytes.take 9)) := by
  simp only [checkPasses, Bool.and_eq_true, beq_iff_eq, and_assoc]
  refine and_congr_right fun length => and_congr_right fun _ => ?_
  rw [byteAt, List.getD_eq_getElem _ _ (by omega), List.getElem?_eq_getElem (by omega), Option.some_inj, eq_comm]

theorem crcShift_eq : (fun r : Byte => if r.getLsbD 7 then (r <<< 1) ^^^ 0x07 else r <<< 1) = crcShift := by
  funext r
  rw [crcShift, BitVec.msb_eq_getLsbD_last]

theorem crc8_append (bytes : List Byte) (b : Byte) : crc8 (bytes ++ [b]) =
    (fun r : Byte => if r.getLsbD 7 then (r <<< 1) ^^^ 0x07 else r <<< 1)^[8] (crc8 bytes ^^^ b) := by
  rw [crcShift_eq, crc8, List.foldl_append]
  rfl

/-! ### The screen (R5, R7, R182) -/

/-- The kind byte of a record that passes the screen. -/
def ParsedRecord.kind : ParsedRecord → Option Byte
  | .fill => some 0x0F
  | .good (.tally ..) => some 0x01
  | .good (.sample ..) => some 0x02
  | .good (.probe ..) => some 0x03
  | .good (.link ..) => some 0x04
  | .bad => none

theorem parseRecord_kind {b : List Byte} {k : Byte} (h : (parseRecord b).kind = some k) : byteAt b 0 = k := by
  have value : ∀ n : Nat, n < 256 → (byteAt b 0).toNat = n → byteAt b 0 = BitVec.ofNat 8 n := fun n hn e =>
    BitVec.eq_of_toNat_eq (by simp [e, Nat.mod_eq_of_lt hn])
  unfold parseRecord at h
  dsimp only at h
  split at h <;> rename_i e
  case h_1 =>
    split at h
    · exact (value _ (by decide) e).trans (Option.some.inj h)
    · exact nomatch (show (none : Option Byte) = some k from h)
  case h_6 => exact nomatch (show (none : Option Byte) = some k from h)
  all_goals
    split at h
    · split at h
      · exact (value _ (by decide) e).trans (Option.some.inj h)
      · exact nomatch (show (none : Option Byte) = some k from h)
    · exact nomatch (show (none : Option Byte) = some k from h)

section
variable (b1 b2 b3 b4 b5 b6 b7 b8 b9 : Byte)

theorem parse_fill : parseRecord [0x0F, b1, b2, b3, b4, b5, b6, b7, b8, b9] = if b1 = 0xFF then .fill else .bad := rfl

theorem zeroFrom_six (b0 : Byte) :
    zeroFrom [b0, b1, b2, b3, b4, b5, b6, b7, b8, b9] 6 = true ↔ b6 = 0 ∧ b7 = 0 ∧ b8 = 0 := by
  simp [zeroFrom]

theorem zeroFrom_eight (b0 : Byte) : zeroFrom [b0, b1, b2, b3, b4, b5, b6, b7, b8, b9] 8 = true ↔ b8 = 0 := by
  simp [zeroFrom]

theorem zeroFrom_seven (b0 : Byte) : zeroFrom [b0, b1, b2, b3, b4, b5, b6, b7, b8, b9] 7 = true ↔ b7 = 0 ∧ b8 = 0 := by
  simp [zeroFrom]

theorem zeroFrom_three (b0 : Byte) : zeroFrom [b0, b1, b2, b3, b4, b5, b6, b7, b8, b9] 3 = true ↔
    b3 = 0 ∧ b4 = 0 ∧ b5 = 0 ∧ b6 = 0 ∧ b7 = 0 ∧ b8 = 0 := by
  simp [zeroFrom]

theorem parse_tally : parseRecord [0x01, b1, b2, b3, b4, b5, b6, b7, b8, b9] = if h : b1.toNat < 40 then
    if zeroFrom [0x01, b1, b2, b3, b4, b5, b6, b7, b8, b9] 6 then
      .good (.tally ⟨b1.toNat, h⟩ b2 ⟨b3.toNat, b4.toNat, b5.toNat⟩) else .bad else .bad := rfl

theorem parse_sample : parseRecord [0x02, b1, b2, b3, b4, b5, b6, b7, b8, b9] = if h : b1.toNat < 40 then
    if zeroFrom [0x02, b1, b2, b3, b4, b5, b6, b7, b8, b9] 8 then
      .good (.sample ⟨b1.toNat, h⟩ (b2 ++ b3 ++ b4 ++ b5 ++ b6 ++ b7)) else .bad else .bad := rfl

theorem parse_probe : parseRecord [0x03, b1, b2, b3, b4, b5, b6, b7, b8, b9] = if h : b1.toNat < 40 then
    if zeroFrom [0x03, b1, b2, b3, b4, b5, b6, b7, b8, b9] 7 then
      .good (.probe ⟨b1.toNat, h⟩ (b2 ++ b3) b4 (b5 ++ b6)) else .bad else .bad := rfl

theorem parse_link : parseRecord [0x04, b1, b2, b3, b4, b5, b6, b7, b8, b9] = if h : b1.toNat < 40 then
    if zeroFrom [0x04, b1, b2, b3, b4, b5, b6, b7, b8, b9] 3 && (b2.toNat < 2) then
      .good (.link ⟨b1.toNat, h⟩ (b2 == 1)) else .bad else .bad := rfl

/-- A record read from a kind, a port below 40 and a condition on the rest is good exactly when all three hold. -/
theorem screened_iff {n : Nat} {c : Bool} {f : Port → SightingRecord} {g : SightingRecord} {p : Port} {Q : Prop}
    (same : ∀ q : Port, f q = g ↔ q = p ∧ Q) :
    (if h : n < 40 then if c then ParsedRecord.good (f ⟨n, h⟩) else .bad else .bad) = .good g ↔
      n = p.val ∧ c = true ∧ Q := by
  by_cases h : n < 40
  · rw [dif_pos h]
    cases c
    · simp
    · simp [same, Fin.ext_iff]
  · rw [dif_neg h]
    have := p.isLt
    simp
    omega

theorem parse_fill_iff (b0 : Byte) : parseRecord [b0, b1, b2, b3, b4, b5, b6, b7, b8, b9] = .fill ↔
    b0 = 0x0F ∧ b1 = 0xFF := by
  constructor
  · intro h
    obtain rfl : b0 = 0x0F := parseRecord_kind (b := [b0, b1, b2, b3, b4, b5, b6, b7, b8, b9]) (by rw [h]; rfl)
    rw [parse_fill] at h
    refine ⟨rfl, by_contra fun no => ?_⟩
    rw [if_neg no] at h
    exact absurd h (by simp)
  · rintro ⟨rfl, rfl⟩; rfl

theorem parse_tally_iff (b0 : Byte) (p : Port) (slot : Byte) (counts : PerClass Nat) :
    parseRecord [b0, b1, b2, b3, b4, b5, b6, b7, b8, b9] = .good (.tally p slot counts) ↔
    b0 = 0x01 ∧ b1.toNat = p.val ∧ slot = b2 ∧ counts = ⟨b3.toNat, b4.toNat, b5.toNat⟩ ∧ b6 = 0 ∧ b7 = 0 ∧ b8 = 0 := by
  have iff := screened_iff (n := b1.toNat) (c := zeroFrom [0x01, b1, b2, b3, b4, b5, b6, b7, b8, b9] 6)
    (f := fun q => .tally q b2 ⟨b3.toNat, b4.toNat, b5.toNat⟩) (g := .tally p slot counts) (p := p)
    (Q := b2 = slot ∧ ⟨b3.toNat, b4.toNat, b5.toNat⟩ = counts) (by simp)
  rw [← parse_tally, zeroFrom_six] at iff
  constructor
  · intro h
    obtain rfl : b0 = 0x01 := parseRecord_kind (b := [b0, b1, b2, b3, b4, b5, b6, b7, b8, b9]) (by rw [h]; rfl)
    obtain ⟨port, zero, rfl, rfl⟩ := iff.1 h
    exact ⟨rfl, port, rfl, rfl, zero⟩
  · rintro ⟨rfl, port, rfl, rfl, zero⟩
    exact iff.2 ⟨port, zero, rfl, rfl⟩

theorem parse_sample_iff (b0 : Byte) (p : Port) (a : Address) :
    parseRecord [b0, b1, b2, b3, b4, b5, b6, b7, b8, b9] = .good (.sample p a) ↔
    b0 = 0x02 ∧ b1.toNat = p.val ∧ a = b2 ++ b3 ++ b4 ++ b5 ++ b6 ++ b7 ∧ b8 = 0 := by
  have iff := screened_iff (n := b1.toNat) (c := zeroFrom [0x02, b1, b2, b3, b4, b5, b6, b7, b8, b9] 8)
    (f := fun q => .sample q (b2 ++ b3 ++ b4 ++ b5 ++ b6 ++ b7)) (g := .sample p a) (p := p)
    (Q := b2 ++ b3 ++ b4 ++ b5 ++ b6 ++ b7 = a) (by simp)
  rw [← parse_sample, zeroFrom_eight] at iff
  constructor
  · intro h
    obtain rfl : b0 = 0x02 := parseRecord_kind (b := [b0, b1, b2, b3, b4, b5, b6, b7, b8, b9]) (by rw [h]; rfl)
    obtain ⟨port, zero, rfl⟩ := iff.1 h
    exact ⟨rfl, port, rfl, zero⟩
  · rintro ⟨rfl, port, rfl, zero⟩
    exact iff.2 ⟨port, zero, rfl⟩

theorem parse_probe_iff (b0 : Byte) (p : Port) (room : Half) (origin : Byte) (tag : Half) :
    parseRecord [b0, b1, b2, b3, b4, b5, b6, b7, b8, b9] = .good (.probe p room origin tag) ↔
    b0 = 0x03 ∧ b1.toNat = p.val ∧ room = b2 ++ b3 ∧ origin = b4 ∧ tag = b5 ++ b6 ∧ b7 = 0 ∧ b8 = 0 := by
  have iff := screened_iff (n := b1.toNat) (c := zeroFrom [0x03, b1, b2, b3, b4, b5, b6, b7, b8, b9] 7)
    (f := fun q => .probe q (b2 ++ b3) b4 (b5 ++ b6)) (g := .probe p room origin tag) (p := p)
    (Q := b2 ++ b3 = room ∧ b4 = origin ∧ b5 ++ b6 = tag) (by simp)
  rw [← parse_probe, zeroFrom_seven] at iff
  constructor
  · intro h
    obtain rfl : b0 = 0x03 := parseRecord_kind (b := [b0, b1, b2, b3, b4, b5, b6, b7, b8, b9]) (by rw [h]; rfl)
    obtain ⟨port, zero, rfl, rfl, rfl⟩ := iff.1 h
    exact ⟨rfl, port, rfl, rfl, rfl, zero⟩
  · rintro ⟨rfl, port, rfl, rfl, rfl, zero⟩
    exact iff.2 ⟨port, zero, rfl, rfl, rfl⟩

/-- A state byte of 0 or 1 reads as DOWN or UP (section 12.2). -/
theorem linkByte_iff (b : Byte) (up : Bool) : b = (if up then 1 else 0) ↔ b.toNat < 2 ∧ (b == 1) = up := by
  cases up
  · constructor
    · rintro rfl; exact ⟨by decide, rfl⟩
    · rintro ⟨lt, ne⟩
      have : b ≠ 1 := by simpa using ne
      show b = 0
      bv_omega
  · constructor
    · rintro rfl; exact ⟨by decide, rfl⟩
    · rintro ⟨-, eq⟩; exact beq_iff_eq.1 eq

theorem parse_link_iff (b0 : Byte) (p : Port) (up : Bool) :
    parseRecord [b0, b1, b2, b3, b4, b5, b6, b7, b8, b9] = .good (.link p up) ↔
    b0 = 0x04 ∧ b1.toNat = p.val ∧ b2 = (if up then 1 else 0) ∧
      b3 = 0 ∧ b4 = 0 ∧ b5 = 0 ∧ b6 = 0 ∧ b7 = 0 ∧ b8 = 0 := by
  have iff := screened_iff (n := b1.toNat)
    (c := zeroFrom [0x04, b1, b2, b3, b4, b5, b6, b7, b8, b9] 3 && decide (b2.toNat < 2))
    (f := fun q => .link q (b2 == 1)) (g := .link p up) (p := p) (Q := (b2 == 1) = up) (by simp)
  rw [← parse_link, Bool.and_eq_true, zeroFrom_three, decide_eq_true_eq] at iff
  rw [linkByte_iff]
  constructor
  · intro h
    obtain rfl : b0 = 0x04 := parseRecord_kind (b := [b0, b1, b2, b3, b4, b5, b6, b7, b8, b9]) (by rw [h]; rfl)
    obtain ⟨port, ⟨zero, state⟩, eq⟩ := iff.1 h
    exact ⟨rfl, port, ⟨state, eq⟩, zero⟩
  · rintro ⟨rfl, port, ⟨state, eq⟩, zero⟩
    exact iff.2 ⟨port, ⟨zero, state⟩, eq⟩

end

/-- Settles O16: the treatment by receiver state branch by branch, the check, and the screen kind by kind. -/
theorem receiverTreatsRecordsByState : Obligations.ReceiverTreatsRecordsByState := by
  refine ⟨fun s bytes extra due synced => ?_, fun s bytes extra due hunt => ?_, checkPasses_iff, ⟨rfl, crc8_append⟩,
    fun b0 b1 b2 b3 b4 b5 b6 b7 b8 b9 => ⟨parse_fill_iff b1 b2 b3 b4 b5 b6 b7 b8 b9 b0,
      parse_tally_iff b1 b2 b3 b4 b5 b6 b7 b8 b9 b0, parse_sample_iff b1 b2 b3 b4 b5 b6 b7 b8 b9 b0,
      parse_probe_iff b1 b2 b3 b4 b5 b6 b7 b8 b9 b0, parse_link_iff b1 b2 b3 b4 b5 b6 b7 b8 b9 b0⟩⟩
  · obtain ⟨fill, bad, good⟩ := takeGoodRecord_of_synced synced
    rw [exec_sightingRecordReceive due]
    refine ⟨fun wrong => ?_, fun ok parsed => ?_, fun ok parsed => ?_, fun r ok parsed room => ?_, fun r ok parsed full => ?_⟩
    · rw [receiveRecord_of_wrong wrong, if_pos synced]; rfl
    · rw [receiveRecord_of_good ok, parsed, fill]
    · rw [receiveRecord_of_good ok, parsed, bad]; rfl
    · rw [receiveRecord_of_good ok, parsed, good, offerRecord_of_room r room]; rfl
    · rw [receiveRecord_of_good ok, parsed, good, offerRecord_of_full r full]; rfl
  · obtain ⟨fill, other⟩ := takeGoodRecord_of_hunt hunt
    rw [exec_sightingRecordReceive due]
    refine ⟨fun ok parsed => ?_, fun lost => ?_⟩
    · rw [receiveRecord_of_good ok, parsed, fill, resync_eq]; rfl
    · have lose : s.receiveRecord bytes extra = s.loseRecord := by
        cases check : checkPasses bytes extra with
        | false => rw [receiveRecord_of_wrong check, if_neg (by simp [hunt])]
        | true =>
          have ne := lost.resolve_left (by simp [check])
          rw [receiveRecord_of_good check, other _ ne]
      rw [lose]; rfl

end Sys2Proof.Machine
end

section
/-! The second expiry (R2, R41, R55, R56, R101, R104, R121). -/

namespace Sys2Proof.Machine

theorem State.setPort_port_self (s : State) (p : Port) : s.setPort p (s.port p) = s := by
  simp [State.setPort, State.setPorts, State.port]

theorem State.setDue_append_nil (s : State) : s.setDue (s.due ++ []) = s := by rw [List.append_nil]; rfl

theorem pushDue_due (s : State) (e : Event) : (s.pushDue e).due = s.due ++ [e] := rfl

/-! ### What a second counts in a port record -/

/-- A port record one second on (R101, R104). -/
def PortRecord.countSecond (r : PortRecord) : PortRecord :=
  match r.state with
  | .blocked => { r with holdOff := r.holdOff - 1 }
  | .opened => { r with decay := r.decay + 1 }
  | _ => r

/-- The events that a second brings about at a port (R101, R104). -/
def secondEvents (decayPeriod : Nat) (p : Port) (r : PortRecord) : List Event :=
  match r.state with
  | .blocked => if r.holdOff - 1 = 0 then [.holdOff p] else []
  | .opened => if decayPeriod * 60 ≤ r.decay + 1 then [.strikeDecay p] else []
  | _ => []

theorem countPortSecond_eq (s : State) (p : Port) : s.countPortSecond p =
    (s.setPort p (s.port p).countSecond).setDue (s.due ++ secondEvents s.profile.decayPeriod p (s.port p)) := by
  have same : s = (s.setPort p (s.port p)).setDue (s.due ++ []) := by
    rw [State.setPort_port_self, State.setDue_append_nil]
  unfold State.countPortSecond PortRecord.countSecond secondEvents
  dsimp only
  cases (s.port p).state with
  | blocked =>
    dsimp only
    split
    · rfl
    · exact (State.setDue_append_nil _).symm
  | opened =>
    dsimp only
    split
    · rfl
    · exact (State.setDue_append_nil _).symm
  | _ => exact same

/-- The second work of a list of ports, each counted once. -/
theorem foldl_countPortSecond : ∀ (l : List Port) (s : State), l.Nodup →
    (∀ p, (l.foldl State.countPortSecond s).port p = if p ∈ l then (s.port p).countSecond else s.port p) ∧
    (l.foldl State.countPortSecond s).due = s.due ++ l.flatMap fun p => secondEvents s.profile.decayPeriod p (s.port p)
  | [], s, _ => ⟨fun _ => rfl, (List.append_nil _).symm⟩
  | q :: l, s, h => by
    obtain ⟨notMem, distinct⟩ := List.nodup_cons.1 h
    obtain ⟨ports, due⟩ := foldl_countPortSecond l (s.countPortSecond q) distinct
    have self : (s.countPortSecond q).port q = (s.port q).countSecond := by
      rw [countPortSecond_eq]; exact State.port_setPort_self s q _
    have other : ∀ p, p ≠ q → (s.countPortSecond q).port p = s.port p := fun p hp => by
      rw [countPortSecond_eq]; exact State.port_setPort_of_ne s q p _ hp.symm
    constructor
    · intro p
      rw [List.foldl_cons, ports]
      by_cases hp : p = q
      · subst hp; rw [if_neg notMem, self, if_pos List.mem_cons_self]
      · simp only [List.mem_cons, hp, false_or, other p hp]
    · have profile : (s.countPortSecond q).profile = s.profile := by rw [countPortSecond_eq]; rfl
      have events : (s.countPortSecond q).due = s.due ++ secondEvents s.profile.decayPeriod q (s.port q) := by
        rw [countPortSecond_eq]; rfl
      have rest : (l.flatMap fun p => secondEvents s.profile.decayPeriod p ((s.countPortSecond q).port p)) =
          l.flatMap fun p => secondEvents s.profile.decayPeriod p (s.port p) :=
        List.flatMap_congr fun p hp => by rw [other p (by rintro rfl; exact notMem hp)]
      rw [List.foldl_cons, due, profile, events, rest, List.flatMap_cons, List.append_assoc]

/-! ### The second work of the other blocks -/

theorem countGrace_grace (s : State) : s.countGrace.grace = s.grace - 1 := by
  unfold State.countGrace
  split
  · omega
  · dsimp only; split <;> rfl

theorem countGrace_due (s : State) : s.countGrace.due = s.due ++ if s.grace = 1 then [.grace] else [] := by
  unfold State.countGrace
  split
  · simp [show s.grace ≠ 1 by omega]
  · dsimp only
    split
    · rw [if_pos (by omega)]; rfl
    · rw [if_neg (by omega), List.append_nil]; rfl

theorem countAutoSweep_sweep (s : State) : s.countAutoSweep.sweep = { s.sweep with timer := s.sweep.timer - 1 } := by
  unfold State.countAutoSweep
  split
  · rename_i zero
    rw [show s.sweep.timer - 1 = s.sweep.timer by omega]
  · dsimp only; split <;> rfl

theorem countAutoSweep_due (s : State) : s.countAutoSweep.due = s.due ++ if s.sweep.timer = 1 then [.autoSweep] else [] := by
  unfold State.countAutoSweep
  split
  · simp [show s.sweep.timer ≠ 1 by omega]
  · dsimp only
    split
    · rw [if_pos (by omega)]; rfl
    · rw [if_neg (by omega), List.append_nil]; rfl

theorem mem_ageStations (stamp : Half) (now : Word) (age : Nat) (t : List StationEntry) (e : StationEntry) :
    e ∈ ageStations stamp now age t ↔ ∃ e0 ∈ t, (e0.pinned = true ∨ (now - e0.lastSeen).toNat < age) ∧
      e = { e0 with moves := e0.moves.filter fun m => decide (stampAge stamp m.stamp < 5000) } := by
  simp only [ageStations, List.mem_map, List.mem_filter, StationEntry.aged, StationEntry.prune]
  constructor
  · rintro ⟨e0, ⟨held, kept⟩, rfl⟩
    exact ⟨e0, held, by cases h : e0.pinned <;> simp_all, rfl⟩
  · rintro ⟨e0, held, kept, rfl⟩
    exact ⟨e0, ⟨held, by cases h : e0.pinned <;> simp_all⟩, rfl⟩

/-- The second expiry before the ports and the sweep timer are counted: the timer, grace and the Station Table (R2). -/
def State.secondBegun (s : State) : State :=
  (s.setTimer { s.timer with secondCount := s.timer.secondCount + 1, position := 0 }).countGrace.countStations

theorem takeSecond_eq (s : State) :
    s.takeSecond = (allPorts.foldl State.countPortSecond s.secondBegun).countAutoSweep := rfl

theorem onlyIn_secondBegun (s : State) : OnlyIn [.timer, .grace, .stations, .due] s s.secondBegun :=
  OnlyIn.step (onlyIn_setStations _ _) (by decide)
    (OnlyIn.step (onlyIn_countGrace _) (by decide) ((onlyIn_setTimer s _).mono (by decide)))

theorem secondBegun_spec (s : State) :
    s.secondBegun.timer = { s.timer with secondCount := s.timer.secondCount + 1, position := 0 } ∧
    s.secondBegun.grace = s.grace - 1 ∧
    s.secondBegun.stations = ageStations s.stamp (s.timer.secondCount + 1) s.profile.stationAge s.stations ∧
    s.secondBegun.due = s.due ++ if s.grace = 1 then [.grace] else [] := by
  have frame := onlyIn_countGrace (s.setTimer { s.timer with secondCount := s.timer.secondCount + 1, position := 0 })
  have timer := frame .timer (by decide)
  have stations := frame .stations (by decide)
  have profile := frame .profile (by decide)
  simp only [SameIn] at timer stations profile
  refine ⟨timer, countGrace_grace _, ?_, countGrace_due _⟩
  simp only [State.secondBegun, State.countStations, State.setStations_stations, State.stamp, State.second, timer, stations,
    profile]
  rfl

/-- The second expiry, part by part (R2). -/
theorem takeSecond_spec (s : State) :
    s.takeSecond.timer = { s.timer with secondCount := s.timer.secondCount + 1, position := 0 } ∧
    s.takeSecond.grace = s.grace - 1 ∧ s.takeSecond.sweep = { s.sweep with timer := s.sweep.timer - 1 } ∧
    (∀ p, s.takeSecond.port p = (s.port p).countSecond) ∧
    s.takeSecond.stations = ageStations s.stamp (s.timer.secondCount + 1) s.profile.stationAge s.stations ∧
    s.takeSecond.due = s.due ++ (if s.grace = 1 then [.grace] else []) ++
      (allPorts.flatMap fun p => secondEvents s.profile.decayPeriod p (s.port p)) ++
      if s.sweep.timer = 1 then [.autoSweep] else [] := by
  have begun := onlyIn_secondBegun s
  have counted : OnlyIn [.ports, .due] s.secondBegun (allPorts.foldl State.countPortSecond s.secondBegun) :=
    OnlyIn.foldl onlyIn_countPortSecond _ _
  have swept := onlyIn_countAutoSweep (allPorts.foldl State.countPortSecond s.secondBegun)
  obtain ⟨timer, grace, stations, due⟩ := secondBegun_spec s
  obtain ⟨ports, events⟩ := foldl_countPortSecond allPorts s.secondBegun nodup_allPorts
  have port : ∀ p, s.secondBegun.port p = s.port p := State.port_congr (begun .ports (by decide))
  have profile : s.secondBegun.profile = s.profile := begun .profile (by decide)
  have sweep : (allPorts.foldl State.countPortSecond s.secondBegun).sweep = s.sweep :=
    Eq.trans (counted .sweep (by decide)) (begun .sweep (by decide))
  rw [takeSecond_eq]
  refine ⟨?_, ?_, ?_, fun p => ?_, ?_, ?_⟩
  · exact Eq.trans (swept .timer (by decide)) (Eq.trans (counted .timer (by decide)) timer)
  · exact Eq.trans (swept .grace (by decide)) (Eq.trans (counted .grace (by decide)) grace)
  · rw [countAutoSweep_sweep, sweep]
  · rw [State.port_congr (swept .ports (by decide)), ports, if_pos (port_mem_allPorts p), port]
  · exact Eq.trans (swept .stations (by decide)) (Eq.trans (counted .stations (by decide)) stations)
  · rw [countAutoSweep_due, sweep, events, due, profile]
    simp only [port]

theorem exec_secondExpiry (s : State) : exec .secondExpiry s = .next (s.takeAfterReports .second) := rfl

theorem takeAfterReports_of_mem {s : State} {e : Event} (h : e ∈ s.due) : s.takeAfterReports e = s.finishReports.takeDue e :=
  if_pos h

/-- Settles O15: SECOND_EXPIRY takes the second expiry behind the step reports, and the second expiry is the work of each
block. -/
theorem secondExpiryCounts : Obligations.SecondExpiryCounts := by
  refine ⟨fun s due => ?_, fun s due done => ?_⟩
  · have still : Event.second ∈ s.finishReports.due := by
      rw [due_finishReports]; exact List.mem_filter.2 ⟨due, rfl⟩
    rw [exec_secondExpiry, exec_secondExpiry, takeAfterReports_of_mem due, takeAfterReports_of_mem still,
      finishReports_of_none _ (reportsDone_finishReports s)]
  · have run : exec .secondExpiry s = .next (s.setDue (s.due.erase .second)).takeSecond := by
      rw [exec_secondExpiry, takeAfterReports_of_done s _ done, takeDue_of_mem due]; rfl
    obtain ⟨timer, grace, sweep, port, stations, events⟩ := takeSecond_spec (s.setDue (s.due.erase .second))
    refine ⟨_, run, timer, grace, sweep, fun p => ?_, fun e => ?_, fun p blocked one => ?_, fun p opened reached => ?_,
      fun one => ?_, fun one => ?_, ?_⟩
    · rw [port, PortRecord.countSecond]
      rfl
    · rw [stations]
      exact mem_ageStations _ _ _ _ e
    · have mem : Event.holdOff p ∈ secondEvents s.profile.decayPeriod p (s.port p) := by simp [secondEvents, blocked, one]
      rw [events]
      exact List.mem_append_left _ (List.mem_append_right _ (List.mem_flatMap.2 ⟨p, port_mem_allPorts p, mem⟩))
    · have mem : Event.strikeDecay p ∈ secondEvents s.profile.decayPeriod p (s.port p) := by
        simp [secondEvents, opened, reached]
      rw [events]
      exact List.mem_append_left _ (List.mem_append_right _ (List.mem_flatMap.2 ⟨p, port_mem_allPorts p, mem⟩))
    · rw [events, State.setDue_grace, if_pos one]
      simp
    · rw [events, State.setDue_sweep, if_pos one]
      simp
    · exact ((onlyIn_setDue s _).mono (by decide)).trans (onlyIn_takeSecond _)

end Sys2Proof.Machine
end

section
/-! The admission of a slot expiry (R64 to R67, R69). -/

namespace Sys2Proof.Machine

/-! ### One port (R66) -/

theorem admitPort_of_not {s : State} {p : Port} (h : s.admissible p = false) : s.admitPort p = s := if_neg (by simp [h])

theorem not_admissible {s : State} {p : Port} (h : (s.port p).wants.isEmpty = true ∨ (∃ e ∈ s.probes.list, e.origin = p) ∨
    24 ≤ s.probes.list.length) : s.admissible p = false := by
  refine Bool.eq_false_iff.2 fun yes => ?_
  obtain ⟨wants, free, short⟩ := (admissible_iff s p).1 yes
  obtain h | ⟨e, he, ho⟩ | h := h
  · rw [wants] at h; exact absurd h (by decide)
  · exact free e he ho
  · omega

/-- A port admitted, in the words of R66. -/
theorem admitPort_of_admissible {s : State} {p : Port} (h : s.admissible p = true) : s.admitPort p = { s with
    ports := s.ports.set p { s.port p with wants := Purposes.empty },
    control := { s.control with
      emitQueue := s.control.emitQueue ++ [{ room := s.profile.roomId, origin := p, tag := s.probes.newTag }] },
    probes := { s.probes with
      list := s.probes.list ++ [{ tag := s.probes.newTag, origin := p, purposes := (s.port p).wants, expiry := none }],
      tagCounter := s.probes.newTag,
      recent := (s.probes.recent ++ [s.probes.newTag]).drop (s.probes.recent.length - 63),
      pointer := p } } := by
  have window : lastTags (s.probes.recent ++ [s.probes.newTag]) =
      (s.probes.recent ++ [s.probes.newTag]).drop (s.probes.recent.length - 63) := by
    simp [lastTags]
  rw [← window]
  exact if_pos h

/-- The new tag is the first after the tag counter that is neither 0 nor in use (R64). -/
theorem newTag_lowest (e : ProbeEngine) (short : e.list.length < 24) : e.newTag ≠ 0 ∧ (∀ x ∈ e.list, x.tag ≠ e.newTag) ∧
    ∀ x : Half, (x - (e.tagCounter + 1)).toNat < (e.newTag - (e.tagCounter + 1)).toNat →
      x = 0 ∨ ∃ y ∈ e.list, y.tag = x := by
  obtain ⟨i, hi, eq, free, before⟩ := newTag_first e short
  refine ⟨fun zero => free (zero ▸ List.mem_cons_self), fun x hx same => ?_, fun x earlier => ?_⟩
  · exact free (same ▸ List.mem_cons_of_mem _ (List.mem_map_of_mem hx))
  · have distance : (e.newTag - (e.tagCounter + 1)).toNat = i := by
      rw [eq, add_sub_cancel_left, BitVec.toNat_ofNat, Nat.mod_eq_of_lt hi]
    have place : e.tagCounter + 1 + BitVec.ofNat 16 (x - (e.tagCounter + 1)).toNat = x := by
      rw [BitVec.ofNat_toNat, BitVec.setWidth_eq, add_sub_cancel]
    have taken := before _ (distance ▸ earlier)
    rw [place] at taken
    obtain h | h := List.mem_cons.1 taken
    · exact .inl h
    · exact .inr (by simpa using h)

/-! ### The round of all ports (R66) -/

/-- The port has no want that waits, or has an entry, or the list is full. -/
def State.Served (s : State) (p : Port) : Prop :=
  24 ≤ s.probes.list.length ∨ (s.port p).wants.isEmpty = true ∨ ∃ e ∈ s.probes.list, e.origin = p

theorem served_admitPort_self (s : State) (p : Port) : (s.admitPort p).Served p := by
  cases h : s.admissible p with
  | true =>
    rw [admitPort_of_admissible h]
    exact .inr (.inr ⟨_, List.mem_append_right _ List.mem_cons_self, rfl⟩)
  | false =>
    rw [admitPort_of_not h]
    by_contra unserved
    simp only [State.Served, not_or, not_le, not_exists, not_and] at unserved
    obtain ⟨short, wants, free⟩ := unserved
    rw [(admissible_iff s p).2 ⟨by simpa using wants, free, short⟩] at h
    exact absurd h (by decide)

theorem served_admitPort {s : State} {p : Port} (q : Port) (h : s.Served p) : (s.admitPort q).Served p := by
  cases hq : s.admissible q with
  | false => rwa [admitPort_of_not hq]
  | true =>
    by_cases same : q = p
    · subst same; exact served_admitPort_self s q
    · rw [admitPort_of_admissible hq]
      obtain full | empty | ⟨e, he, ho⟩ := h
      · exact .inl (by rw [List.length_append]; omega)
      · have kept : ({ s with ports := s.ports.set q { s.port q with wants := Purposes.empty } } : State).port p = s.port p :=
          State.port_setPort_of_ne s q p _ same
        exact .inr (.inl (Eq.trans (congrArg (fun r : PortRecord => r.wants.isEmpty) kept) empty))
      · exact .inr (.inr ⟨e, List.mem_append_left _ he, ho⟩)

theorem served_foldl {p : Port} : ∀ (l : List Port) (s : State), (p ∈ l ∨ s.Served p) → (l.foldl State.admitPort s).Served p
  | [], _, h => h.resolve_left List.not_mem_nil
  | q :: l, s, h => by
    refine served_foldl l _ ?_
    obtain h | h := h
    · obtain rfl | h := List.mem_cons.1 h
      · exact .inr (served_admitPort_self s p)
      · exact .inl h
    · exact .inr (served_admitPort q h)

theorem admissionOrder_eq (pointer : Port) :
    admissionOrder pointer = (List.range 40).map fun i => Fin.ofNat 40 (pointer.val + 1 + i) := by
  refine List.ext_getElem (by simp [admissionOrder, allPorts]) fun i h _ => ?_
  have lt : i < 40 := by simpa [admissionOrder, allPorts] using h
  simp only [admissionOrder, allPorts, List.getElem_map, List.getElem_finRange, List.getElem_range]
  ext
  simp [Fin.val_add]

theorem mem_admissionOrder (pointer p : Port) : p ∈ admissionOrder pointer :=
  List.mem_map.2 ⟨p - (pointer + 1), port_mem_allPorts _, add_sub_cancel (pointer + 1) p⟩

/-- After the admission the list is full or every port that wants has an entry (R66). -/
theorem admitWants_serves (s : State) : 24 ≤ s.admitWants.probes.list.length ∨
    ∀ p, (s.admitWants.port p).wants.isEmpty = false → (s.admitWants.entryOf p).isSome = true := by
  by_cases full : 24 ≤ s.admitWants.probes.list.length
  · exact .inl full
  · refine .inr fun p wants => ?_
    have served : s.admitWants.Served p := served_foldl _ s (.inl (mem_admissionOrder _ p))
    obtain h | h | ⟨e, he, ho⟩ := served
    · exact absurd h full
    · rw [wants] at h; exact absurd h (by decide)
    · exact List.find?_isSome.2 ⟨e, he, by simp [ho]⟩

/-! ### Its place in the expiry (R67, R69, log 3) -/

theorem endedOrigins_eq_nil {l : List Event} (h : endedOrigins l = []) : l.filter Event.endsProbe = [] := by
  refine List.filter_eq_nil_iff.2 fun e he ends => ?_
  cases e with
  | probeExpired o => exact absurd (List.filterMap_eq_nil_iff.1 h _ he) (by simp)
  | _ => exact absurd ends Bool.false_ne_true

theorem admission_of_no_end {s : State} (h : endedOrigins s.due = []) : s.admission = s.admitWants := by
  rw [State.admission, State.takeEnded, endedOrigins_eq_nil h]
  rfl

theorem close_of_admission {s : State} (h : s.due = [.admission]) : s.close = (s.setDue []).admitWants := by
  have done : s.finishReports = s := finishReports_of_none s fun e he => by
    rw [h, List.mem_singleton] at he; rw [he]; rfl
  have second : s.takeDue .second = s := takeDue_of_not_mem (by simp [h])
  unfold State.close
  rw [done, second]
  dsimp only
  rw [h]
  rfl

/-- An expiry with its admission left due is closed by it (R67). -/
theorem close_admits {s : State} (h : Event.admission ∈ s.due) : ∃ u : State, s.close = u.admitWants := by
  have reported : Event.admission ∈ s.finishReports.due := by
    rw [due_finishReports]; exact List.mem_filter.2 ⟨h, rfl⟩
  have still : Event.admission ∈ (s.finishReports.takeDue .second).due := by
    by_cases due : Event.second ∈ s.finishReports.due
    · rw [takeDue_of_mem due]
      obtain ⟨-, -, -, -, -, events⟩ := takeSecond_spec (s.finishReports.setDue (s.finishReports.due.erase .second))
      have kept : Event.admission ∈ s.finishReports.due.erase .second := (List.mem_erase_of_ne (by decide)).2 reported
      show Event.admission ∈ (State.takeSecond _).due
      rw [events]
      exact List.mem_append_left _ (List.mem_append_left _ (List.mem_append_left _ kept))
    · rwa [takeDue_of_not_mem due]
  exact ⟨_, if_pos still⟩

theorem exec_slotExpiry (s : State) (lines : SlotLines) (order : ExpiryOrder) :
    exec (.slotExpiry lines order) s = .next (s.slotExpiry lines order) := rfl

/-- The admission of a state in which no event is due ends the expiry. -/
theorem admission_close {u : State} (h : u.due = []) : u.admission.close = u.admitWants := by
  have none : u.admitWants.due = [] := Eq.trans (onlyIn_admit u .due (by decide)) h
  rw [admission_of_no_end (by rw [h]; rfl), close_of_due_nil _ none]

theorem meterWork_due (s : State) (first : Bool) : (s.meterWork first).due = s.due := onlyIn_meterWork s first .due (by decide)

theorem slotExpiry_before (s : State) (lines : SlotLines) : s.slotExpiry lines ⟨.before, false⟩ =
    ((s.close.countSlot lines).close.meterWork s.close.timer.first).admission.close := by
  simp [State.slotExpiry, State.slotWorks, State.eventsAt]

theorem slotExpiry_between (s : State) (lines : SlotLines) : s.slotExpiry lines ⟨.between, false⟩ =
    ((s.close.countSlot lines).meterWork s.close.timer.first).close.admission.close := by
  simp [State.slotExpiry, State.slotWorks, State.eventsAt]

/-- With its events before or between the works and its admission last, a slot expiry ends with the admission (R67). -/
theorem slotExpiry_admits (s : State) (lines : SlotLines) {place : EventPlace} (h : place = .before ∨ place = .between) :
    ∃ u : State, s.slotExpiry lines ⟨place, false⟩ = u.admitWants := by
  obtain rfl | rfl := h
  · exact ⟨_, by rw [slotExpiry_before, admission_close (by rw [meterWork_due, close_due])]⟩
  · exact ⟨_, by rw [slotExpiry_between, admission_close (close_due _)]⟩

theorem slotExpiry_ownRows (s : State) (lines : SlotLines) (admitFirst : Bool) : s.slotExpiry lines ⟨.ownRows, admitFirst⟩ =
    (s.close.countSlot lines).leaveWorks s.close.timer.first := rfl

theorem leaveWorks_admission (s : State) (first : Bool) : Event.admission ∈ (s.leaveWorks first).due :=
  List.mem_append_right _ List.mem_cons_self

theorem Purposes.isEmpty_iff (u : Purposes) : u.isEmpty = true ↔ u.linkup = false ∧ u.storm = false ∧ u.flap = false ∧
    u.sweep = none ∧ u.recover = false ∧ u.host = none := by
  simp [Purposes.isEmpty, and_assoc]

/-- Settles O14: the round of all ports serves each, and the admission is the last work of the expiry in the named orders. -/
theorem slotExpiryAdmitsWaitingWants : Obligations.SlotExpiryAdmitsWaitingWants := by
  refine ⟨fun s lines place h => ?_, fun s lines admitFirst => ?_, fun s => ?_, fun s h => close_of_admission h,
    fun s h => admission_of_no_end h, Purposes.isEmpty_iff, fun s p => ⟨fun h => admitPort_of_not (not_admissible h),
      fun wants free short => ?_⟩⟩
  · obtain ⟨u, eq⟩ := slotExpiry_admits s lines h
    exact ⟨_, exec_slotExpiry s lines _, eq ▸ admitWants_serves u⟩
  · obtain ⟨u, eq⟩ := close_admits (s := s.slotExpiry lines ⟨.ownRows, admitFirst⟩) (leaveWorks_admission _ _)
    exact ⟨_, exec_slotExpiry s lines _, eq ▸ admitWants_serves u⟩
  · rw [State.admitWants, admissionOrder_eq]
  · obtain ⟨nonzero, new, first⟩ := newTag_lowest s.probes short
    exact ⟨s.probes.newTag, nonzero, new, first, admitPort_of_admissible ((admissible_iff s p).2 ⟨wants, free, short⟩)⟩

end Sys2Proof.Machine
end

section
/-! The slot timer and the counts of a slot expiry (R1, R2, R10, R15, R69, R83, R123). -/

namespace Sys2Proof.Machine

/-! ### The timer through the works of an expiry (R2, log 3) -/

/-- The slot timer as it stands once a second expiry left due has been taken (R2). -/
def State.closedTimer (s : State) : SlotTimer :=
  if .second ∈ s.due then { s.timer with secondCount := s.timer.secondCount + 1, position := 0 } else s.timer

theorem closedTimer_congr {s t : State} (timer : t.timer = s.timer) (due : .second ∈ t.due ↔ .second ∈ s.due) :
    t.closedTimer = s.closedTimer := by simp only [State.closedTimer, timer, due]

theorem closedTimer_of_due_nil {s : State} (h : s.due = []) : s.closedTimer = s.timer := if_neg (by simp [h])

/-- Only the second expiry changes the slot timer. -/
theorem timer_takeEvent (s : State) : ∀ e, e ≠ .second → (s.takeEvent e).timer = s.timer
  | .second, h => absurd rfl h
  | .fabricLost, _ => onlyIn_takeFabricLost s .timer (by decide)
  | .calmHold p, _ => onlyIn_takeCalmHold s p .timer (by decide)
  | .probeExpired o, _ => onlyIn_takeProbeExpiry s o .timer (by decide)
  | .retireEnd, _ => onlyIn_takeRetireEnd s .timer (by decide)
  | .holdOff p, _ => onlyIn_takeHoldOff s p .timer (by decide)
  | .strikeDecay p, _ => onlyIn_takeStrikeDecay s p .timer (by decide)
  | .grace, _ => onlyIn_raise s _ .timer (by decide)
  | .autoSweep, _ => onlyIn_takeAutoSweep s .timer (by decide)
  | .sweepTake, _ => onlyIn_takeSweepTake s .timer (by decide)
  | .silPress, _ => onlyIn_takeSilPress s .timer (by decide)
  | .relPress, _ => onlyIn_takeRelPress s .timer (by decide)
  | .relRelease, _ => onlyIn_takeRelRelease s .timer (by decide)
  | .silRelease, _ => rfl
  | .twoKey, _ => onlyIn_takeTwoKey s .timer (by decide)
  | .buzzer, _ => onlyIn_takeBuzzerExpiry s .timer (by decide)
  | .frameTimeout, _ => onlyIn_takeFrameTimeout s .timer (by decide)
  | .linkBreak, _ => onlyIn_takeLinkBreak s .timer (by decide)
  | .reports p, _ => onlyIn_handReports (portsAbove p) s .timer (by decide)
  | .admission, _ => onlyIn_admit s .timer (by decide)

theorem timer_foldl_takeEvent : ∀ (l : List Event) (s : State), (∀ e ∈ l, e ≠ .second) →
    (l.foldl State.takeEvent s).timer = s.timer
  | [], _, _ => rfl
  | e :: l, s, h => (timer_foldl_takeEvent l _ fun x hx => h x (List.mem_cons_of_mem _ hx)).trans
      (timer_takeEvent s e (h e List.mem_cons_self))

theorem closedTimer_takeDue (s : State) {e : Event} (h : e ≠ .second) : (s.takeDue e).closedTimer = s.closedTimer := by
  by_cases due : e ∈ s.due
  · have events : (s.takeDue e).due = s.due.erase e := by
      rw [takeDue_of_mem due]; exact onlyIn_takeEvent_of_ne _ e h .due (by decide)
    refine closedTimer_congr ?_ (by rw [events]; exact List.mem_erase_of_ne h.symm)
    rw [takeDue_of_mem due, timer_takeEvent _ e h]
    rfl
  · rw [takeDue_of_not_mem due]

theorem closedTimer_foldl_takeDue : ∀ (l : List Event) (s : State), (∀ e ∈ l, e ≠ .second) →
    (l.foldl State.takeDue s).closedTimer = s.closedTimer
  | [], _, _ => rfl
  | e :: l, s, h => (closedTimer_foldl_takeDue l _ fun x hx => h x (List.mem_cons_of_mem _ hx)).trans
      (closedTimer_takeDue s (h e List.mem_cons_self))

theorem closedTimer_finishReports (s : State) : s.finishReports.closedTimer = s.closedTimer :=
  closedTimer_foldl_takeDue _ s fun e he => by
    rintro rfl
    exact Bool.false_ne_true (List.mem_filter.1 he).2

theorem timer_takeDue_second (s : State) : (s.takeDue .second).timer = s.closedTimer := by
  by_cases due : Event.second ∈ s.due
  · rw [takeDue_of_mem due, State.closedTimer, if_pos due]
    exact (takeSecond_spec _).1
  · rw [takeDue_of_not_mem due, State.closedTimer, if_neg due]

theorem timer_close (s : State) : s.close.timer = s.closedTimer := by
  have others : ∀ e ∈ (s.finishReports.takeDue .second).due.filter (fun e => e != .second && e != .admission),
      e ≠ .second := by simp +contextual
  have events := timer_foldl_takeEvent _ ((s.finishReports.takeDue .second).setDue []) others
  rw [State.setDue_timer, timer_takeDue_second, closedTimer_finishReports] at events
  unfold State.close
  dsimp only
  split
  · exact Eq.trans (onlyIn_admit _ .timer (by decide)) events
  · exact events

theorem closedTimer_close (s : State) : s.close.closedTimer = s.closedTimer := by
  rw [closedTimer_of_due_nil (close_due s), timer_close]

theorem closedTimer_eventsAt (s : State) (order : ExpiryOrder) (place : EventPlace) :
    (s.eventsAt order place).closedTimer = s.closedTimer := by
  unfold State.eventsAt
  split
  · exact closedTimer_close s
  · rfl

theorem closedTimer_admission (s : State) : s.admission.closedTimer = s.closedTimer := by
  have ended : s.takeEnded.closedTimer = s.closedTimer := closedTimer_foldl_takeDue _ s fun e he => by
    rintro rfl
    exact Bool.false_ne_true (List.mem_filter.1 he).2
  have admitted := onlyIn_admit s.takeEnded
  exact (closedTimer_congr (admitted .timer (by decide))
    (by rw [show s.takeEnded.admitWants.due = _ from admitted .due (by decide)])).trans ended

theorem closedTimer_meterWork (s : State) (first : Bool) : (s.meterWork first).closedTimer = s.closedTimer :=
  closedTimer_congr (onlyIn_meterWork s first .timer (by decide)) (by rw [meterWork_due])

theorem closedTimer_slotWorks (s : State) (first : Bool) (order : ExpiryOrder) :
    (s.slotWorks first order).closedTimer = s.closedTimer := by
  unfold State.slotWorks
  dsimp only
  split <;> simp only [closedTimer_meterWork, closedTimer_admission, closedTimer_eventsAt]

/-! ### The events that fall due at a slot expiry -/

/-- The events that the counts of the timer, the receiver, the Probe Engine and the sweep bring about. -/
def Event.counted : Event → Bool
  | .second | .fabricLost | .probeExpired _ | .retireEnd | .sweepTake => true
  | _ => false

/-- The second expiry at position 1000 (R2). -/
def timerEvents (position : Nat) : List Event := if 1000 ≤ position + 1 then [.second] else []

/-- FABRIC_LOST at the sixteenth slot of an unreported HUNT episode (R10). -/
def huntEvents (r : Receiver) : List Event :=
  if r.synced = false ∧ r.reported = false ∧ r.huntSlots = 15 then [.fabricLost] else []

/-- The ends of the reached entries (R69). -/
def probeEvents (stamp : Half) (l : List ProbeEntry) : List Event :=
  (inPortOrder (l.filter (ProbeEntry.reached stamp))).map fun e => .probeExpired e.origin

/-- The end of the retire period (R83). -/
def retireEvents : Option RetiredRoom → List Event
  | some r => if r.left ≤ 1 then [.retireEnd] else []
  | none => []

/-- The next take of a sweep (R123). -/
def pacingEvents : Option SweepRecord → List Event
  | some r => if r.next ≤ r.last.val ∧ r.pacing ≤ 1 then [.sweepTake] else []
  | none => []

theorem advanceTimer_spec (s : State) :
    s.advanceTimer.timer =
      { s.timer with slotCount := s.timer.slotCount + 1, position := s.timer.position + 1, first := false } ∧
    s.advanceTimer.due = s.due ++ timerEvents s.timer.position := by
  unfold State.advanceTimer timerEvents
  dsimp only
  split
  · exact ⟨rfl, rfl⟩
  · exact ⟨rfl, (List.append_nil _).symm⟩

theorem countHunt_spec (s : State) :
    s.countHunt.receiver = (if s.receiver.synced then s.receiver
      else { s.receiver with huntSlots := min (s.receiver.huntSlots + 1) 65535 }) ∧
    s.countHunt.due = s.due ++ huntEvents s.receiver := by
  unfold State.countHunt huntEvents
  dsimp only
  split
  · rename_i synced
    simp [synced]
  · rename_i hunting
    have reach : (sat16 s.receiver.huntSlots = 16 ∧ s.receiver.reported = false) ↔
        s.receiver.synced = false ∧ s.receiver.reported = false ∧ s.receiver.huntSlots = 15 := by
      have sixteenth : sat16 s.receiver.huntSlots = 16 ↔ s.receiver.huntSlots = 15 := by unfold sat16; omega
      rw [sixteenth, and_comm, Bool.eq_false_iff.2 hunting, eq_self, true_and]
    split
    · rename_i h
      exact ⟨rfl, by rw [if_pos (reach.1 h)]; rfl⟩
    · rename_i h
      exact ⟨rfl, by rw [if_neg (mt reach.2 h), List.append_nil]; rfl⟩

theorem countRetire_spec (s : State) :
    s.countRetire.probes.retired = (s.probes.retired.map fun r => { r with left := r.left - 1 }) ∧
    s.countRetire.due = s.due ++ retireEvents s.probes.retired := by
  unfold State.countRetire retireEvents
  cases h : s.probes.retired with
  | none => exact ⟨h, (List.append_nil _).symm⟩
  | some r =>
    dsimp only
    split
    · exact ⟨rfl, by rw [if_pos (by omega)]; rfl⟩
    · exact ⟨rfl, by rw [if_neg (by omega), List.append_nil]; rfl⟩

theorem countPacing_taking {s : State} {r : SweepRecord} (running : s.sweep.record = some r) (taking : r.next ≤ r.last.val) :
    s.countPacing.sweep = { s.sweep with record := some { r with pacing := r.pacing - 1 } } := by
  unfold State.countPacing
  rw [running]
  dsimp only
  rw [if_pos taking]
  split <;> rfl

theorem countPacing_of_done {s : State} (h : ∀ r, s.sweep.record = some r → r.last.val < r.next) : s.countPacing = s := by
  unfold State.countPacing
  split
  · rw [if_neg (not_le.2 (h _ ‹_›))]
  · rfl

theorem countPacing_due (s : State) : s.countPacing.due = s.due ++ pacingEvents s.sweep.record := by
  unfold State.countPacing pacingEvents
  cases s.sweep.record with
  | none => exact (List.append_nil _).symm
  | some r =>
    dsimp only
    repeat' split
    · rfl
    · omega
    · omega
    · exact (List.append_nil _).symm
    · omega
    · exact (List.append_nil _).symm

/-- The counts of a slot expiry but for those of the panel and the management link. -/
def State.countBlocks (s : State) : State := s.advanceTimer.openSlot.countHunt.countProbes.countRetire.countPacing

theorem countSlot_eq (s : State) (lines : SlotLines) :
    s.countSlot lines = ((s.countBlocks.countKeys lines).countBuzzer.countFrameAge).countBreak lines.rxLow := rfl

theorem countBlocks_due (s : State) : s.countBlocks.due = s.due ++ timerEvents s.timer.position ++ huntEvents s.receiver ++
    probeEvents ((s.timer.slotCount + 1).setWidth 16) s.probes.list ++ retireEvents s.probes.retired ++
    pacingEvents s.sweep.record := by
  have opened : OnlyIn [.timer, .control, .due] s s.advanceTimer.openSlot :=
    OnlyIn.step (onlyIn_openSlot _) (by decide) ((onlyIn_advanceTimer s).mono (by decide))
  have hunted := onlyIn_countHunt s.advanceTimer.openSlot
  have receiver : s.advanceTimer.openSlot.receiver = s.receiver := opened .receiver (by decide)
  have probes : s.advanceTimer.openSlot.countHunt.probes = s.probes :=
    Eq.trans (hunted .probes (by decide)) (opened .probes (by decide))
  have timer : s.advanceTimer.openSlot.countHunt.timer = s.advanceTimer.timer := hunted .timer (by decide)
  have sweep : s.advanceTimer.openSlot.countHunt.countProbes.countRetire.sweep = s.sweep :=
    Eq.trans (onlyIn_countRetire _ .sweep (by decide))
      (Eq.trans (hunted .sweep (by decide)) (opened .sweep (by decide)))
  have ends : s.advanceTimer.openSlot.countHunt.countProbes.due =
      s.due ++ timerEvents s.timer.position ++ huntEvents s.receiver ++
        probeEvents ((s.timer.slotCount + 1).setWidth 16) s.probes.list := by
    rw [State.countProbes, State.setDue_due, (countHunt_spec _).2, receiver, probes, State.stamp, timer,
      (advanceTimer_spec s).1]
    exact congrArg (· ++ _ ++ _) (advanceTimer_spec s).2
  rw [State.countBlocks, countPacing_due, (countRetire_spec _).2, sweep, ends, State.countProbes, State.setDue_probes, probes]

/-! ### The counts of the panel and the management link -/

/-- Events of one kind fall due, behind those that are due already. -/
def DueGrows (kind : Event → Bool) (s t : State) : Prop := ∃ l, t.due = s.due ++ l ∧ ∀ e ∈ l, kind e = true

theorem DueGrows.of_eq {kind : Event → Bool} {s t : State} (h : t.due = s.due) : DueGrows kind s t :=
  ⟨[], by rw [h, List.append_nil], fun _ he => absurd he List.not_mem_nil⟩

theorem DueGrows.push {kind : Event → Bool} {s t : State} (h : t.due = s.due) {e : Event} (he : kind e = true) :
    DueGrows kind s (t.pushDue e) := ⟨[e], by rw [pushDue_due, h], by simpa using he⟩

theorem DueGrows.trans {kind : Event → Bool} {s t u : State} (h : DueGrows kind s t) (k : DueGrows kind t u) :
    DueGrows kind s u := by
  obtain ⟨a, ha, kindA⟩ := h
  obtain ⟨b, hb, kindB⟩ := k
  exact ⟨a ++ b, by rw [hb, ha, List.append_assoc], fun e he => (List.mem_append.1 he).elim (kindA e) (kindB e)⟩

/-- What falls due is of another kind, so the events of this one stand. -/
theorem DueGrows.filter_eq {kind other : Event → Bool} {s t : State} (h : DueGrows kind s t)
    (apart : ∀ e, kind e = true → other e = false) : t.due.filter other = s.due.filter other := by
  obtain ⟨l, hl, kinds⟩ := h
  have no : l.filter other = [] := List.filter_eq_nil_iff.2 fun e he => by simp [apart e (kinds e he)]
  rw [hl, List.filter_append, no, List.append_nil]

/-- The events of the panel and the management link. -/
def Event.ofLinks : Event → Bool
  | .silPress | .silRelease | .relPress | .relRelease | .twoKey | .buzzer | .frameTimeout | .linkBreak => true
  | _ => false

theorem dueGrows_countKeys (s : State) (lines : SlotLines) : DueGrows Event.ofLinks s (s.countKeys lines) := by
  have sil : ∀ edge pressed, ∀ e ∈ silEdgeEvent edge pressed, e.ofLinks = true := by decide
  have rel : ∀ edge pressed, ∀ e ∈ relEdgeEvent edge pressed, e.ofLinks = true := by decide
  unfold State.countKeys
  refine ⟨_, (List.append_assoc _ _ _).trans (List.append_assoc _ _ _), fun e he => ?_⟩
  obtain he | he := List.mem_append.1 he
  · exact sil _ _ e he
  · obtain he | he := List.mem_append.1 he
    · exact rel _ _ e he
    · split at he
      · rw [List.mem_singleton.1 he]; rfl
      · exact absurd he List.not_mem_nil

theorem dueGrows_countBuzzer (s : State) : DueGrows Event.ofLinks s s.countBuzzer := by
  unfold State.countBuzzer
  dsimp only
  repeat' split
  · exact ⟨[.buzzer], rfl, by decide⟩
  all_goals exact .of_eq rfl

theorem dueGrows_countFrameAge (s : State) : DueGrows Event.ofLinks s s.countFrameAge := by
  unfold State.countFrameAge
  dsimp only
  repeat' split
  · exact .push rfl rfl
  all_goals exact .of_eq rfl

theorem dueGrows_countBreak (s : State) (low : Bool) : DueGrows Event.ofLinks s (s.countBreak low) := by
  unfold State.countBreak
  dsimp only
  split
  · exact .of_eq rfl
  · generalize (if low = true then s.mgmt.breakCount + 1 else 0) = n
    split
    · exact .push rfl rfl
    · exact .of_eq rfl

theorem dueGrows_countSlot (s : State) (lines : SlotLines) : DueGrows Event.ofLinks s.countBlocks (s.countSlot lines) :=
  (((dueGrows_countKeys _ lines).trans (dueGrows_countBuzzer _)).trans (dueGrows_countFrameAge _)).trans
    (dueGrows_countBreak _ lines.rxLow)

/-! ### The works left due -/

/-- The events that the works leave due: those of the step reports, and the admission. -/
def Event.ofWorks (e : Event) : Bool := e.ofReports || e == .admission

theorem dueGrows_handUntilCalm : ∀ (l : List Port) (s : State), DueGrows Event.ofWorks s (s.handUntilCalm l)
  | [], _ => .of_eq rfl
  | p :: l, s => by
    unfold State.handUntilCalm
    split
    · rename_i r _
      have judged : (s.judgeReport p r).due = s.due := onlyIn_judgeReport s p r .due (by decide)
      dsimp only
      split
      · exact (DueGrows.push judged (e := .calmHold p) rfl).trans (DueGrows.push rfl (e := .reports p) rfl)
      · exact (DueGrows.of_eq judged).trans (dueGrows_handUntilCalm l _)
    · exact dueGrows_handUntilCalm l s

theorem dueGrows_leaveWorks (s : State) (first : Bool) : DueGrows Event.ofWorks s (s.leaveWorks first) := by
  unfold State.leaveWorks
  refine DueGrows.trans ?_ (DueGrows.push rfl (e := .admission) rfl)
  split
  · exact .of_eq rfl
  · exact (DueGrows.of_eq (onlyIn_stepPorts s .due (by decide))).trans (dueGrows_handUntilCalm _ _)

/-! ### The events of an expiry left to their own rows -/

/-- What the counts of a slot bring about, in the order in which it falls due. -/
def State.slotEvents (s : State) : List Event :=
  timerEvents s.timer.position ++ huntEvents s.receiver ++
    probeEvents ((s.timer.slotCount + 1).setWidth 16) s.probes.list ++ retireEvents s.probes.retired ++
    pacingEvents s.sweep.record

theorem mem_timerEvents {n : Nat} {e : Event} : e ∈ timerEvents n ↔ 1000 ≤ n + 1 ∧ e = .second := by
  rw [timerEvents, List.mem_ite_nil_right, List.mem_singleton]

theorem mem_huntEvents {r : Receiver} {e : Event} : e ∈ huntEvents r ↔
    (r.synced = false ∧ r.reported = false ∧ r.huntSlots = 15) ∧ e = .fabricLost := by
  rw [huntEvents, List.mem_ite_nil_right, List.mem_singleton]

theorem mem_probeEvents {n : Half} {l : List ProbeEntry} {e : Event} :
    e ∈ probeEvents n l ↔ ∃ x ∈ l, x.reached n = true ∧ e = .probeExpired x.origin := by
  simp only [probeEvents, List.mem_map, (inPortOrder_perm _).mem_iff, List.mem_filter, and_assoc, eq_comm]

theorem reached_iff {n : Half} {e : ProbeEntry} : e.reached n = true ↔
    ∃ x, e.expiry = some x ∧ ((x - n).toNat = 0 ∨ 32768 ≤ (x - n).toNat) := by
  cases h : e.expiry <;> simp [ProbeEntry.reached, h]

theorem mem_retireEvents {r : Option RetiredRoom} {e : Event} :
    e ∈ retireEvents r ↔ ∃ x, r = some x ∧ x.left ≤ 1 ∧ e = .retireEnd := by
  cases r <;> simp [retireEvents]

theorem mem_pacingEvents {r : Option SweepRecord} {e : Event} :
    e ∈ pacingEvents r ↔ ∃ x, r = some x ∧ (x.next ≤ x.last.val ∧ x.pacing ≤ 1) ∧ e = .sweepTake := by
  cases r <;> simp [pacingEvents]

theorem mem_slotEvents {s : State} {e : Event} : e ∈ s.slotEvents ↔
    (1000 ≤ s.timer.position + 1 ∧ e = .second) ∨
    ((s.receiver.synced = false ∧ s.receiver.reported = false ∧ s.receiver.huntSlots = 15) ∧ e = .fabricLost) ∨
    (∃ x ∈ s.probes.list, x.reached ((s.timer.slotCount + 1).setWidth 16) = true ∧ e = .probeExpired x.origin) ∨
    (∃ r, s.probes.retired = some r ∧ r.left ≤ 1 ∧ e = .retireEnd) ∨
    ∃ r, s.sweep.record = some r ∧ (r.next ≤ r.last.val ∧ r.pacing ≤ 1) ∧ e = .sweepTake := by
  simp only [State.slotEvents, List.mem_append, mem_timerEvents, mem_huntEvents, mem_probeEvents, mem_retireEvents,
    mem_pacingEvents, or_assoc]

theorem probeExpired_mem_slotEvents {s : State} {o : Port} : .probeExpired o ∈ s.slotEvents ↔
    ∃ e ∈ s.probes.list, e.origin = o ∧ e.reached ((s.timer.slotCount + 1).setWidth 16) = true := by
  rw [mem_slotEvents]
  constructor
  · rintro (⟨-, h⟩ | ⟨-, h⟩ | ⟨x, held, reached, h⟩ | ⟨_, -, -, h⟩ | ⟨_, -, -, h⟩)
    · exact Event.noConfusion h
    · exact Event.noConfusion h
    · exact ⟨x, held, (Event.probeExpired.inj h).symm, reached⟩
    · exact Event.noConfusion h
    · exact Event.noConfusion h
  · rintro ⟨x, held, rfl, reached⟩
    exact .inr (.inr (.inl ⟨x, held, reached, rfl⟩))

theorem slotEvents_counted (s : State) : ∀ e ∈ s.slotEvents, e.counted = true := fun e he => by
  obtain ⟨-, rfl⟩ | ⟨-, rfl⟩ | ⟨_, -, -, rfl⟩ | ⟨_, -, -, rfl⟩ | ⟨_, -, -, rfl⟩ := mem_slotEvents.1 he <;> rfl

/-- What falls due at a slot expiry that nothing waits for (R1). -/
theorem countSlot_due {s : State} (lines : SlotLines) (due : s.due = []) :
    ∃ l, (s.countSlot lines).due = s.slotEvents ++ l ∧ ∀ e ∈ l, e.ofLinks = true := by
  obtain ⟨l, hl, links⟩ := dueGrows_countSlot s lines
  exact ⟨l, by rw [hl, countBlocks_due, due]; rfl, links⟩

theorem counted_countSlot {s : State} (lines : SlotLines) (due : s.due = []) :
    (s.countSlot lines).due.filter Event.counted = s.slotEvents := by
  have apart : ∀ e : Event, e.ofLinks = true → e.counted = false := fun e h => by
    cases e <;> simp_all [Event.ofLinks, Event.counted]
  rw [(dueGrows_countSlot s lines).filter_eq apart, countBlocks_due, due]
  exact List.filter_eq_self.2 (slotEvents_counted s)

theorem counted_ownRows {s : State} (lines : SlotLines) (admitFirst : Bool) (due : s.due = []) :
    (s.slotExpiry lines ⟨.ownRows, admitFirst⟩).due.filter Event.counted = s.slotEvents := by
  have apart : ∀ e : Event, e.ofWorks = true → e.counted = false := fun e h => by
    cases e <;> simp_all [Event.ofWorks, Event.ofReports, Event.counted]
  rw [slotExpiry_ownRows, close_of_due_nil s due, (dueGrows_leaveWorks _ _).filter_eq apart, counted_countSlot lines due]

theorem mem_due_ownRows {s : State} (lines : SlotLines) (admitFirst : Bool) (due : s.due = []) {e : Event}
    (h : e.counted = true) : e ∈ (s.slotExpiry lines ⟨.ownRows, admitFirst⟩).due ↔ e ∈ s.slotEvents := by
  rw [← counted_ownRows lines admitFirst due, List.mem_filter, h]
  simp

theorem endedOrigins_ownRows {s : State} (lines : SlotLines) (admitFirst : Bool) (due : s.due = []) :
    endedOrigins (s.slotExpiry lines ⟨.ownRows, admitFirst⟩).due =
      (inPortOrder (s.probes.list.filter (ProbeEntry.reached ((s.timer.slotCount + 1).setWidth 16)))).map (·.origin) := by
  have counted : ∀ l : List Event, endedOrigins l = endedOrigins (l.filter Event.counted) := fun l => by
    rw [endedOrigins, endedOrigins, List.filterMap_filter]
    refine List.filterMap_congr fun e _ => ?_
    cases e <;> rfl
  have ends : ∀ l : List ProbeEntry, endedOrigins (l.map fun e => .probeExpired e.origin) = l.map (·.origin) := fun l => by
    rw [endedOrigins, List.filterMap_map]
    exact congrFun List.filterMap_eq_map l
  have no : ∀ l : List Event, (∀ e ∈ l, e.endsProbe = false) → endedOrigins l = [] := fun l h => by
    refine List.filterMap_eq_nil_iff.2 fun e he => ?_
    cases e with
    | probeExpired o => exact absurd (h _ he) Bool.noConfusion
    | _ => rfl
  have append : ∀ a b : List Event, endedOrigins (a ++ b) = endedOrigins a ++ endedOrigins b := fun _ _ => List.filterMap_append
  rw [counted, counted_ownRows lines admitFirst due, State.slotEvents]
  simp only [append]
  rw [no (timerEvents _), no (huntEvents _), no (retireEvents _), no (pacingEvents _), probeEvents, ends]
  · simp
  · exact fun e he => by obtain ⟨-, -, -, rfl⟩ := mem_pacingEvents.1 he; rfl
  · exact fun e he => by obtain ⟨-, -, -, rfl⟩ := mem_retireEvents.1 he; rfl
  · exact fun e he => by obtain ⟨-, rfl⟩ := mem_huntEvents.1 he; rfl
  · exact fun e he => by obtain ⟨-, rfl⟩ := mem_timerEvents.1 he; rfl

theorem inPortOrder_sorted (l : List ProbeEntry) : ((inPortOrder l).map (·.origin)).Pairwise (· ≤ ·) := by
  refine List.pairwise_map.2 (List.pairwise_flatMap.2 ⟨fun p _ => ?_, ?_⟩)
  · refine List.Pairwise.imp_of_mem (R := fun _ _ => True) (fun ha hb _ => ?_) (List.pairwise_of_forall fun _ _ => trivial)
    have := (List.mem_filter.1 ha).2
    have := (List.mem_filter.1 hb).2
    simp_all
  · refine (List.pairwise_lt_finRange 40).imp fun {p q} lt a ha b hb => ?_
    have := (List.mem_filter.1 ha).2
    have := (List.mem_filter.1 hb).2
    simp_all [le_of_lt]

/-! ### The expiry as a whole -/

theorem onlyIn_opened (s : State) : OnlyIn [.timer, .control, .due] s s.advanceTimer.openSlot :=
  OnlyIn.step (onlyIn_openSlot _) (by decide) ((onlyIn_advanceTimer s).mono (by decide))

theorem onlyIn_countLinks (s : State) (lines : SlotLines) : OnlyIn [.panel, .mgmt, .due] s.countBlocks (s.countSlot lines) := by
  rw [countSlot_eq]
  refine OnlyIn.step (onlyIn_countBreak _ _) (by decide) (OnlyIn.step (onlyIn_countFrameAge _) (by decide) ?_)
  exact OnlyIn.step (onlyIn_countBuzzer _) (by decide) ((onlyIn_countKeys _ _).mono (by decide))

theorem onlyIn_leaveWorks (s : State) (first : Bool) :
    OnlyIn [.meters, .tallies, .reports, .ports, .probes, .control, .trips, .evidence, .mgmt, .panel, .due] s
      (s.leaveWorks first) :=
  OnlyIn.step (onlyIn_pushDue _ _) (by decide) (OnlyIn.ite (OnlyIn.refl _ s)
    (OnlyIn.step (onlyIn_handUntilCalm _ _) (by decide) ((onlyIn_stepPorts s).mono (by decide))))

theorem countSlot_timer (s : State) (lines : SlotLines) : (s.countSlot lines).timer =
    { s.timer with slotCount := s.timer.slotCount + 1, position := s.timer.position + 1, first := false } := by
  have blocks : OnlyIn [.control, .receiver, .probes, .sweep, .due] s.advanceTimer s.countBlocks :=
    OnlyIn.step (onlyIn_countPacing _) (by decide) <| OnlyIn.step (onlyIn_countRetire _) (by decide) <|
      OnlyIn.step (onlyIn_countProbes _) (by decide) <| OnlyIn.step (onlyIn_countHunt _) (by decide) <|
        (onlyIn_openSlot _).mono (by decide)
  have links := onlyIn_countLinks s lines
  exact Eq.trans (links .timer (by decide)) (Eq.trans (blocks .timer (by decide)) (advanceTimer_spec s).1)

theorem countSlot_receiver (s : State) (lines : SlotLines) : (s.countSlot lines).receiver =
    if s.receiver.synced then s.receiver else { s.receiver with huntSlots := min (s.receiver.huntSlots + 1) 65535 } := by
  have opened : s.advanceTimer.openSlot.receiver = s.receiver := onlyIn_opened s .receiver (by decide)
  have blocks : OnlyIn [.probes, .sweep, .due] s.advanceTimer.openSlot.countHunt s.countBlocks :=
    OnlyIn.step (onlyIn_countPacing _) (by decide) <| OnlyIn.step (onlyIn_countRetire _) (by decide) <|
      (onlyIn_countProbes _).mono (by decide)
  have links := onlyIn_countLinks s lines
  have counted := (countHunt_spec s.advanceTimer.openSlot).1
  rw [opened] at counted
  exact Eq.trans (links .receiver (by decide)) (Eq.trans (blocks .receiver (by decide)) counted)

theorem countSlot_retired (s : State) (lines : SlotLines) : (s.countSlot lines).probes.retired =
    s.probes.retired.map fun r => { r with left := r.left - 1 } := by
  have kept : s.advanceTimer.openSlot.countHunt.countProbes.probes = s.probes :=
    Eq.trans (onlyIn_countHunt _ .probes (by decide)) (onlyIn_opened s .probes (by decide))
  have counted := (countRetire_spec s.advanceTimer.openSlot.countHunt.countProbes).1
  have paced : s.countBlocks.probes = _ := onlyIn_countPacing _ .probes (by decide)
  have links : (s.countSlot lines).probes = s.countBlocks.probes := onlyIn_countLinks s lines .probes (by decide)
  rw [links, paced, counted, kept]

/-- The sweep before its pacing is counted, and after it (R123). -/
theorem countSlot_sweep (s : State) (lines : SlotLines) :
    ∃ u : State, u.sweep = s.sweep ∧ (s.countSlot lines).sweep = u.countPacing.sweep := by
  refine ⟨s.advanceTimer.openSlot.countHunt.countProbes.countRetire, ?_, onlyIn_countLinks s lines .sweep (by decide)⟩
  exact Eq.trans (onlyIn_countRetire _ .sweep (by decide))
    (Eq.trans (onlyIn_countHunt _ .sweep (by decide)) (onlyIn_opened s .sweep (by decide)))

theorem second_mem_countSlot {s : State} (lines : SlotLines) (due : s.due = []) :
    .second ∈ (s.countSlot lines).due ↔ 1000 ≤ s.timer.position + 1 := by
  have mem : .second ∈ (s.countSlot lines).due ↔ .second ∈ s.slotEvents := by
    rw [← counted_countSlot lines due, List.mem_filter]
    simp [Event.counted]
  rw [mem, mem_slotEvents]
  simp

theorem timer_slotExpiry {s : State} (lines : SlotLines) {order : ExpiryOrder} (due : s.due = [])
    (h : order.events ≠ .ownRows) : (s.slotExpiry lines order).timer = (s.countSlot lines).closedTimer := by
  unfold State.slotExpiry
  dsimp only
  rw [if_neg h, timer_close, closedTimer_slotWorks, close_of_due_nil s due]

theorem lane_slotExpiry {s : State} (lines : SlotLines) (order : ExpiryOrder) (due : s.due = []) :
    (s.slotExpiry lines order).ledger.lane = s.ledger.lane.slotOpened := by
  unfold State.slotExpiry
  dsimp only
  rw [close_of_due_nil s due]
  split
  · rw [ledger_leaveWorks, lane_countSlot]
  · rw [(settles_close _).2, (settles_slotWorks _ _ _).2, lane_countSlot]

/-- The clocks of an expiry whose events are taken by its command (R1, R2). -/
theorem timer_slotExpiry_closed {s : State} (lines : SlotLines) {order : ExpiryOrder} (due : s.due = [])
    (range : s.timer.position ≤ 999) (h : order.events ≠ .ownRows) : (s.slotExpiry lines order).timer =
      { slotCount := s.timer.slotCount + 1, position := (s.timer.position + 1) % 1000, first := false,
        secondCount := if s.timer.position = 999 then s.timer.secondCount + 1 else s.timer.secondCount } := by
  have second := second_mem_countSlot lines due
  rw [timer_slotExpiry lines due h, State.closedTimer, countSlot_timer]
  by_cases top : s.timer.position = 999
  · rw [if_pos (second.2 (by omega)), if_pos top, show (s.timer.position + 1) % 1000 = 0 by omega]
  · rw [if_neg (mt second.1 (by omega)), if_neg top, show (s.timer.position + 1) % 1000 = s.timer.position + 1 by omega]

theorem timer_slotExpiry_ownRows {s : State} (lines : SlotLines) (admitFirst : Bool) (due : s.due = []) :
    (s.slotExpiry lines ⟨.ownRows, admitFirst⟩).timer =
      { s.timer with slotCount := s.timer.slotCount + 1, position := s.timer.position + 1, first := false } := by
  rw [slotExpiry_ownRows, close_of_due_nil s due, ← countSlot_timer s lines]
  exact onlyIn_leaveWorks _ _ .timer (by decide)

/-- The clocks of a slot expiry (R1, R2, log 3). -/
theorem slotExpiry_clocks {s : State} (lines : SlotLines) (order : ExpiryOrder) (due : s.due = [])
    (range : s.timer.position ≤ 999) :
    (s.slotExpiry lines order).timer.slotCount = s.timer.slotCount + 1 ∧ (s.slotExpiry lines order).timer.first = false ∧
    (order.events ≠ .ownRows → (s.slotExpiry lines order).timer.position = (s.timer.position + 1) % 1000 ∧
      (s.slotExpiry lines order).timer.secondCount =
        if s.timer.position = 999 then s.timer.secondCount + 1 else s.timer.secondCount) ∧
    (order.events = .ownRows → (s.slotExpiry lines order).timer.position = s.timer.position + 1 ∧
      (s.slotExpiry lines order).timer.secondCount = s.timer.secondCount ∧
      (.second ∈ (s.slotExpiry lines order).due ↔ s.timer.position = 999)) := by
  obtain ⟨events, admitFirst⟩ := order
  by_cases h : events = .ownRows
  · subst h
    rw [timer_slotExpiry_ownRows lines admitFirst due, mem_due_ownRows lines admitFirst due rfl, mem_slotEvents]
    refine ⟨rfl, rfl, fun no => absurd rfl no, fun _ => ⟨rfl, rfl, ?_⟩⟩
    simp only [and_true, reduceCtorEq, and_false, exists_false, or_false]
    omega
  · rw [timer_slotExpiry_closed lines due range h]
    exact ⟨rfl, rfl, fun _ => ⟨rfl, rfl⟩, fun own => absurd own h⟩

/-- Settles O12: the works and the events keep the lane and, but for the second expiry, the timer; the counts and what they
bring about are those of each block. -/
theorem slotExpiryAdvancesTimer : Obligations.SlotExpiryAdvancesTimer := by
  refine ⟨fun s lines order due range => ?_, fun s lines admitFirst due => ?_⟩
  · obtain ⟨slotCount, first, closed, own⟩ := slotExpiry_clocks lines order due range
    have lane := lane_slotExpiry lines order due
    have profile : (s.slotExpiry lines order).profile = s.profile := onlyIn_slotExpiry s lines order .profile (by decide)
    exact ⟨_, exec_slotExpiry s lines order, slotCount, first, closed, own, congrArg FabricLane.budget lane,
      congrArg FabricLane.markWaiting lane, congrArg FabricLane.refreshed lane, congrArg FabricLane.fifo lane,
      congrArg FabricLane.synced lane, profile⟩
  · have works := onlyIn_leaveWorks (s.countSlot lines) s.timer.first
    have state : s.slotExpiry lines ⟨.ownRows, admitFirst⟩ = (s.countSlot lines).leaveWorks s.timer.first := by
      rw [slotExpiry_ownRows, close_of_due_nil s due]
    have receiver : (s.slotExpiry lines ⟨.ownRows, admitFirst⟩).receiver = _ :=
      Eq.trans (state ▸ works .receiver (by decide)) (countSlot_receiver s lines)
    have retired : (s.slotExpiry lines ⟨.ownRows, admitFirst⟩).probes.retired = _ :=
      Eq.trans (congrArg (·.queues.retired) (state ▸ ledger_leaveWorks _ _)) (countSlot_retired s lines)
    obtain ⟨u, before, after⟩ := countSlot_sweep s lines
    have sweep : (s.slotExpiry lines ⟨.ownRows, admitFirst⟩).sweep = u.countPacing.sweep :=
      Eq.trans (state ▸ works .sweep (by decide)) after
    refine ⟨_, exec_slotExpiry s lines _, receiver, ?_, fun o => ?_, ?_, fun r hr => ⟨by rw [retired, hr]; rfl, ?_⟩,
      fun none => ⟨by rw [retired, none]; rfl, ?_⟩, fun r running taking => ⟨?_, ?_⟩, fun done => ⟨?_, ?_⟩⟩
    · rw [mem_due_ownRows lines admitFirst due rfl, mem_slotEvents]
      simp
    · rw [mem_due_ownRows lines admitFirst due rfl, probeExpired_mem_slotEvents]
      simp only [reached_iff]
    · rw [endedOrigins_ownRows lines admitFirst due]
      exact inPortOrder_sorted _
    · rw [mem_due_ownRows lines admitFirst due rfl, mem_slotEvents]
      simp [hr]
    · rw [mem_due_ownRows lines admitFirst due rfl, mem_slotEvents]
      simp [none]
    · rw [sweep, countPacing_taking (before ▸ running) taking, before]
    · rw [mem_due_ownRows lines admitFirst due rfl, mem_slotEvents]
      simp [running, taking]
    · rw [sweep, countPacing_of_done (before ▸ done), before]
    · rw [mem_due_ownRows lines admitFirst due rfl, mem_slotEvents]
      rintro (⟨-, h⟩ | ⟨-, h⟩ | ⟨_, -, -, h⟩ | ⟨_, -, -, h⟩ | ⟨r, running, ⟨taking, -⟩, -⟩)
      · exact Event.noConfusion h
      · exact Event.noConfusion h
      · exact Event.noConfusion h
      · exact Event.noConfusion h
      · exact absurd taking (not_le.2 (done r running))

end Sys2Proof.Machine
end

section
/-! Acting on step reports neither reads nor changes the events due, and keeps every port's role; so the reports that wait
behind a reopening may be acted on later (R30, R95, log 4). -/

namespace Sys2Proof.Machine

/-! ### The events due stand aside -/

@[simp] theorem port_setDue (s : State) (d : List Event) (p : Port) : (s.setDue d).port p = s.port p := rfl

@[simp] theorem port_pushDue (s : State) (e : Event) (p : Port) : (s.pushDue e).port p = s.port p := rfl

theorem raise_setDue (s : State) (d : List Event) (n : Notice) : (s.setDue d).raise n = (s.raise n).setDue d := rfl

theorem supersede_setDue (s : State) (d : List Event) (p : Port) (w : Want) (u : Purposes) :
    (s.setDue d).supersede p w u = (s.supersede p w u).setDue d := by
  unfold State.supersede
  split <;> rfl

theorem setWant_setDue (s : State) (d : List Event) (p : Port) (w : Want) :
    (s.setDue d).setWant p w = (s.setWant p w).setDue d := by
  have same : (s.setDue d).queuedEntry p = s.queuedEntry p := rfl
  unfold State.setWant
  rw [same]
  split
  · simp only [supersede_setDue]; rfl
  · simp only [supersede_setDue, port_setDue]; rfl

theorem leaveState_setDue (s : State) (d : List Event) (p : Port) :
    (s.setDue d).leaveState p = (s.leaveState p).setDue d := by
  unfold State.leaveState
  rw [port_setDue]
  split <;> rfl

theorem enter_setDue (s : State) (d : List Event) (p : Port) (x : PortState) :
    (s.setDue d).enter p x = (s.enter p x).setDue d := by
  unfold State.enter
  dsimp only
  rw [leaveState_setDue, port_setDue]
  split <;> split <;> rfl

theorem recordTrip_setDue (s : State) (d : List Event) (p : Port) (c : Cause) (x : PortState) (q : Option Port)
    (r : Option Half) : (s.setDue d).recordTrip p c x q r = (s.recordTrip p c x q r).setDue d := by
  have same : (s.setDue d).evidenceOf p = s.evidenceOf p := rfl
  unfold State.recordTrip
  rw [same]
  split <;> rfl

theorem trip_setDue (s : State) (d : List Event) (p : Port) (c : Cause) (x : PortState) (q : Option Port)
    (r : Option Half) : (s.setDue d).trip p c x q r = (s.trip p c x q r).setDue d := by
  have flag : ∀ t : State, (t.setDue d).setMgmt (t.setDue d).mgmt.flagTripped = (t.setMgmt t.mgmt.flagTripped).setDue d :=
    fun _ => rfl
  unfold State.trip
  dsimp only
  rw [enter_setDue, flag, recordTrip_setDue]
  split <;> rfl

theorem blockingTrip_setDue (s : State) (d : List Event) (p : Port) (c : Cause) (q : Option Port) (r : Option Half) :
    (s.setDue d).blockingTrip p c q r = (s.blockingTrip p c q r).setDue d := by
  have strike : ∀ v, (s.setDue d).setPort p v = (s.setPort p v).setDue d := fun _ => rfl
  unfold State.blockingTrip
  dsimp only
  rw [strike, trip_setDue, trip_setDue, port_setDue, State.setDue_profile]
  split <;> rfl

theorem limitingTrip_setDue (s : State) (d : List Event) (p : Port) (c : Cause) (q : Option Port) :
    (s.setDue d).limitingTrip p c q = (s.limitingTrip p c q).setDue d := by
  unfold State.limitingTrip
  dsimp only
  rw [trip_setDue]
  split
  · exact setWant_setDue _ _ _ _
  · rfl

theorem primingExit_setDue (s : State) (d : List Event) (p : Port) :
    (s.setDue d).primingExit p = (s.primingExit p).setDue d := by
  have primed : (s.setDue d).primed p = s.primed p := rfl
  unfold State.primingExit
  rw [port_setDue, primed]
  split
  · split
    · rfl
    · exact enter_setDue _ _ _ _
    · exact enter_setDue _ _ _ _
    · exact limitingTrip_setDue _ _ _ _ _
  · rfl

theorem judgeReport_setDue (s : State) (d : List Event) (p : Port) (r : StepReport) :
    (s.setDue d).judgeReport p r = (s.judgeReport p r).setDue d := by
  unfold State.judgeReport
  rw [port_setDue, primingExit_setDue]
  split
  case h_1 =>
    split
    · exact blockingTrip_setDue s d p _ _ _
    · split
      · split
        · rfl
        · exact limitingTrip_setDue s d p _ _
      · rfl
  case h_2 =>
    split
    · exact blockingTrip_setDue s d p _ _ _
    · rfl
  case h_3 =>
    split
    · exact blockingTrip_setDue s d p _ _ _
    · rfl
  all_goals rfl

theorem takeCalmHold_setDue (s : State) (d : List Event) (p : Port) :
    (s.setDue d).takeCalmHold p = (s.takeCalmHold p).setDue d := by
  have reached : (s.setDue d).calmReached p = s.calmReached p := rfl
  unfold State.takeCalmHold State.reopen
  rw [reached, enter_setDue, raise_setDue]
  split <;> rfl

theorem actOnReport_setDue (s : State) (d : List Event) (p : Port) (r : StepReport) :
    (s.setDue d).actOnReport p r = (s.actOnReport p r).setDue d := by
  unfold State.actOnReport
  rw [port_setDue, judgeReport_setDue, takeCalmHold_setDue]
  split <;> rfl

theorem handReport_setDue (s : State) (d : List Event) (p : Port) :
    (s.setDue d).handReport p = (s.handReport p).setDue d := by
  have handed : (s.setDue d).handed p = s.handed p := rfl
  unfold State.handReport
  rw [handed]
  split
  · exact actOnReport_setDue _ _ _ _
  · rfl

theorem foldl_handReport_setDue (d : List Event) : ∀ (l : List Port) (s : State),
    l.foldl State.handReport (s.setDue d) = (l.foldl State.handReport s).setDue d
  | [], _ => rfl
  | p :: l, s => by rw [List.foldl_cons, handReport_setDue, foldl_handReport_setDue d l, List.foldl_cons]

/-! ### Roles stand -/

theorem role_setPort (s : State) (p q : Port) (v : PortRecord) (h : v.role = (s.port p).role) :
    ((s.setPort p v).port q).role = (s.port q).role := by
  rw [State.port_setPort]
  split
  · subst_vars; exact h
  · rfl

theorem role_enter (s : State) (p : Port) (x : PortState) (q : Port) : ((s.enter p x).port q).role = (s.port q).role := by
  by_cases h : q = p
  · rw [h, port_enter_self]
  · rw [port_enter_of_ne s x h]

theorem role_trip (s : State) (p : Port) (c : Cause) (x : PortState) (o : Option Port) (r : Option Half) (q : Port) :
    ((s.trip p c x o r).port q).role = (s.port q).role := by
  rw [State.port_congr (trip_ports s p c x o r), role_enter]

theorem role_blockingTrip (s : State) (p : Port) (c : Cause) (o : Option Port) (r : Option Half) (q : Port) :
    ((s.blockingTrip p c o r).port q).role = (s.port q).role := by
  have strike : ∀ n, ((s.setPort p { s.port p with strikes := n }).port q).role = (s.port q).role :=
    fun _ => role_setPort s p q _ rfl
  have holdOff : ∀ (t : State) n, ((t.setPort p { t.port p with holdOff := n }).port q).role = (t.port q).role :=
    fun t _ => role_setPort t p q _ rfl
  unfold State.blockingTrip
  dsimp only
  split
  · rw [role_trip, strike]
  · rw [holdOff, role_trip, strike]

theorem role_limitingTrip (s : State) (p : Port) (c : Cause) (o : Option Port) (q : Port) :
    ((s.limitingTrip p c o).port q).role = (s.port q).role := by
  unfold State.limitingTrip
  dsimp only
  split
  · rw [port_setWant, role_trip]
  · rw [role_trip]

theorem role_primingExit (s : State) (p q : Port) : ((s.primingExit p).port q).role = (s.port q).role := by
  unfold State.primingExit
  split
  · split
    · rfl
    · exact role_enter s p _ q
    · exact role_enter s p _ q
    · exact role_limitingTrip s p _ _ q
  · rfl

theorem role_judgeReport (s : State) (p : Port) (r : StepReport) (q : Port) :
    ((s.judgeReport p r).port q).role = (s.port q).role := by
  unfold State.judgeReport
  split
  case h_1 =>
    split
    · exact role_blockingTrip s p _ _ _ q
    · split
      · split
        · rfl
        · exact role_limitingTrip s p _ _ q
      · rfl
  case h_2 =>
    split
    · exact role_blockingTrip s p _ _ _ q
    · exact role_setPort s p q _ rfl
  case h_3 =>
    split
    · exact role_blockingTrip s p _ _ _ q
    · rfl
  case h_4 => exact role_primingExit s p q
  all_goals rfl

theorem role_takeCalmHold (s : State) (p q : Port) : ((s.takeCalmHold p).port q).role = (s.port q).role := by
  unfold State.takeCalmHold State.reopen
  split
  · rw [port_raise, role_enter]
  · rfl

theorem role_actOnReport (s : State) (p : Port) (r : StepReport) (q : Port) :
    ((s.actOnReport p r).port q).role = (s.port q).role := by
  unfold State.actOnReport
  split
  · rw [role_takeCalmHold, role_judgeReport]
  · exact role_judgeReport s p r q

/-! ### The reports handed over one by one -/

theorem handed_congr {s t : State} (role : ∀ q, (t.port q).role = (s.port q).role) (reports : t.reports = s.reports)
    (p : Port) : t.handed p = s.handed p := by
  have guarded : t.guarded p = s.guarded p := congrArg (· != Role.off) (role p)
  rw [State.handed, guarded, State.report_congr reports]
  rfl

theorem handed_actOnReport (s : State) (p : Port) (r : StepReport) (q : Port) : (s.actOnReport p r).handed q = s.handed q :=
  handed_congr (role_actOnReport s p r) (onlyIn_actOnReport s p r .reports (by decide)) q

theorem handReport_of_some {s : State} {p : Port} {r : StepReport} (h : s.handed p = some r) :
    s.handReport p = s.actOnReport p r := by rw [State.handReport, h]

theorem handReport_of_none {s : State} {p : Port} (h : s.handed p = none) : s.handReport p = s := by
  rw [State.handReport, h]

theorem handed_handReport (s : State) (p q : Port) : (s.handReport p).handed q = s.handed q := by
  cases h : s.handed p with
  | none => rw [handReport_of_none h]
  | some r => rw [handReport_of_some h, handed_actOnReport]

/-- The report of a port in `u` acted on in `v`. -/
def State.actOnHeld (u v : State) (p : Port) : State :=
  match u.report p with
  | some r => v.actOnReport p r
  | none => v

/-- The reports handed over are those of the guarded ports, as they stood before any was acted on. -/
theorem foldl_handReport_held (u : State) : ∀ (l : List Port) (v : State), (∀ p, v.handed p = u.handed p) →
    l.foldl State.handReport v = (l.filter u.guarded).foldl u.actOnHeld v
  | [], _, _ => rfl
  | p :: l, v, h => by
    rw [List.foldl_cons, foldl_handReport_held u l _ fun q => (handed_handReport v p q).trans (h q)]
    by_cases guarded : u.guarded p = true
    · have handed : v.handed p = u.report p := by rw [h, State.handed, if_pos guarded]
      have act : v.handReport p = u.actOnHeld v p := by rw [State.handReport, handed]; rfl
      rw [List.filter_cons_of_pos guarded, List.foldl_cons, act]
    · have handed : v.handed p = none := by rw [h, State.handed, if_neg guarded]
      rw [List.filter_cons_of_neg guarded, handReport_of_none handed]

/-! ### The reports that wait behind a reopening -/

theorem portsAbove_of_split {a b : List Port} {p : Port} (h : allPorts = a ++ p :: b) : portsAbove p = b := by
  have sorted : (a ++ p :: b).Pairwise (· < ·) := h ▸ List.pairwise_lt_finRange 40
  obtain ⟨-, tail, below⟩ := List.pairwise_append.1 sorted
  have first : a.filter (fun q => decide (p < q)) = [] := List.filter_eq_nil_iff.2 fun q hq => by
    simpa using (below q hq p List.mem_cons_self).le
  have last : b.filter (fun q => decide (p < q)) = b := List.filter_eq_self.2 fun q hq => by
    simpa using (List.pairwise_cons.1 tail).1 q hq
  rw [portsAbove, h, List.filter_append, first, List.filter_cons_of_neg (by simp), last, List.nil_append]

theorem takeDue_setDue_append (s : State) {d l : List Event} {e : Event} (h : e ∉ d) :
    (s.setDue (d ++ e :: l)).takeDue e = (s.setDue (d ++ l)).takeEvent e := by
  have mem : e ∈ (s.setDue (d ++ e :: l)).due := List.mem_append_right _ List.mem_cons_self
  rw [takeDue_of_mem mem, State.setDue_due, List.erase_append_right _ h, List.erase_cons_head]
  rfl

theorem reportsDone_pushDue {s : State} (h : ReportsDone s) : ReportsDone (s.pushDue .admission) := fun e he => by
  obtain he | he := List.mem_append.1 he
  · exact h e he
  · rw [List.mem_singleton.1 he]; rfl

/-- A reopening and the reports behind it, left due with the admission, taken one after the other (R95, log 4). -/
theorem finishReports_of_reopening {s : State} {p : Port} (done : ReportsDone s) :
    (((s.pushDue (.calmHold p)).pushDue (.reports p)).pushDue .admission).finishReports =
      ((portsAbove p).foldl State.handReport (s.takeCalmHold p)).pushDue .admission := by
  have state : ((s.pushDue (.calmHold p)).pushDue (.reports p)).pushDue .admission =
      s.setDue (s.due ++ [.calmHold p, .reports p, .admission]) := by
    simp only [State.pushDue, State.setDue_due, List.append_assoc]
    rfl
  have waiting : (s.due ++ [Event.calmHold p, .reports p, .admission]).filter Event.ofReports = [.calmHold p, .reports p] := by
    rw [List.filter_append, List.filter_eq_nil_iff.2 fun e he => by simp [done e he]]
    rfl
  have calm : Event.calmHold p ∉ s.due := fun h => Bool.noConfusion (done _ h)
  have reports : Event.reports p ∉ s.due := fun h => Bool.noConfusion (done _ h)
  have due : ((portsAbove p).foldl State.handReport (s.takeCalmHold p)).due = s.due :=
    Eq.trans (onlyIn_handReports _ _ .due (by decide)) (onlyIn_takeCalmHold s p .due (by decide))
  rw [State.finishReports, state, State.setDue_due, waiting, List.foldl_cons, List.foldl_cons, List.foldl_nil,
    takeDue_setDue_append s calm, State.takeEvent, takeCalmHold_setDue, takeDue_setDue_append _ reports, State.takeEvent,
    foldl_handReport_setDue, State.pushDue, due]

/-- The reports left behind a reopening, once acted on, are the reports acted on in one run (R30, log 4). -/
theorem finishReports_handUntilCalm : ∀ (l done : List Port) (s : State), allPorts = done ++ l → ReportsDone s →
    ((s.handUntilCalm l).pushDue .admission).finishReports = (l.foldl State.handReport s).pushDue .admission
  | [], _, s, _, h => finishReports_of_none _ (reportsDone_pushDue h)
  | p :: l, done, s, split, h => by
    have later : allPorts = (done ++ [p]) ++ l := by rw [split, List.append_assoc]; rfl
    rw [List.foldl_cons]
    cases handed : s.handed p with
    | none =>
      have pass : s.handUntilCalm (p :: l) = s.handUntilCalm l := by rw [State.handUntilCalm, handed]
      rw [pass, handReport_of_none handed, finishReports_handUntilCalm l _ s later h]
    | some r =>
      have judged : ReportsDone (s.judgeReport p r) := fun e he =>
        h e (by rwa [show (s.judgeReport p r).due = s.due from onlyIn_judgeReport s p r .due (by decide)] at he)
      rw [handReport_of_some handed]
      by_cases calm : (s.port p).state = .limited ∧ (s.judgeReport p r).calmReached p = true
      · have stop : s.handUntilCalm (p :: l) = ((s.judgeReport p r).pushDue (.calmHold p)).pushDue (.reports p) := by
          rw [State.handUntilCalm, handed]; exact if_pos calm
        rw [stop, finishReports_of_reopening judged, portsAbove_of_split split, State.actOnReport, if_pos calm.1]
      · have pass : s.handUntilCalm (p :: l) = (s.judgeReport p r).handUntilCalm l := by
          rw [State.handUntilCalm, handed]; exact if_neg calm
        have act : s.actOnReport p r = s.judgeReport p r := by
          unfold State.actOnReport State.takeCalmHold
          split
          · rename_i limited
            rw [if_neg fun reached => calm ⟨limited, reached⟩]
          · rfl
        rw [pass, act, finishReports_handUntilCalm l _ _ later judged]

end Sys2Proof.Machine
end

section
/-! The Array's work of a slot expiry, port by port (R13, R14, R23, R30, R35, R36). -/

namespace Sys2Proof.Machine

/-! ### What the work reads and leaves at one port -/

/-- What the Array holds of a port: the tally state, the meters and the latest report. -/
structure PortCells where
  tally  : PortTally
  meters : PerClass Meter
  report : Option StepReport

/-- The cells of a port. -/
def State.cells (s : State) (p : Port) : PortCells := ⟨s.tally p, s.portMeters p, s.report p⟩

theorem cells_eq {s : State} {p : Port} {c : PortCells} (h : s.cells p = c) :
    s.tally p = c.tally ∧ s.portMeters p = c.meters ∧ s.report p = c.report := by
  subst h
  exact ⟨rfl, rfl, rfl⟩

/-- The meters of a port after their steps (R23). -/
def State.steppedMeters (s : State) (p : Port) (counts : PerClass Nat) : PerClass Meter :=
  PerClass.build fun k =>
    ((s.portMeters p).get k).step (s.profile.meters.get k) ((s.profile.meters.get k).thresholds (s.port p).role)
      (counts.get k)

/-- Stepped meters after the baseline steps of a 64th expiry (R36). -/
def State.baselinedMeters (s : State) (p : Port) (baseline : Bool) (m : PerClass Meter) : PerClass Meter :=
  if baseline = true ∧ (s.port p).state = .opened ∧ s.graceAtExpiry = false then
    PerClass.build fun k =>
      (m.get k).baselineStep (s.profile.meters.get k) ((s.profile.meters.get k).thresholds (s.port p).role)
  else m

/-- The cells of a port after the Array's work (R13, R23, R30, R35, R36). -/
def State.workedCells (slot : Byte) (baseline : Bool) (s : State) (p : Port) : PortCells :=
  if s.guarded p then
    { tally := ((s.tally p).consume slot).tally
      meters := s.baselinedMeters p baseline (s.steppedMeters p ((s.tally p).consume slot).counts)
      report := some
        { classes := (s.steppedMeters p ((s.tally p).consume slot).counts).map (Meter.report s.profile.confirmCount)
          held := ((s.tally p).consume slot).held
          grace := s.graceAtExpiry } }
  else { tally := PortTally.start, meters := s.portMeters p, report := s.report p }

/-- A guarded port's tally comes late (R14). -/
def State.tallyLate (slot : Byte) (s : State) (p : Port) : Bool := s.guarded p && ((s.tally p).consume slot).late

/-- A guarded port's step is given held counts (R14). -/
def State.tallyHeld (slot : Byte) (s : State) (p : Port) : Bool := s.guarded p && ((s.tally p).consume slot).held

/-- A late tally is counted and a held step sets TALLY_HELD (R14). -/
def Mgmt.countUse (m : Mgmt) (late held : Bool) : Mgmt :=
  { m with
    lost := if late then sat16 m.lost else m.lost
    flags := { m.flags with tallyHeld := m.flags.tallyHeld || held } }

@[simp] theorem countUse_none (m : Mgmt) : m.countUse false false = m := by simp [Mgmt.countUse]

theorem PerClass.get_build {α : Type} (f : TrafficClass → α) (k : TrafficClass) : (PerClass.build f).get k = f k := by
  cases k <;> rfl

theorem PerClass.get_map {α β : Type} (f : α → β) (v : PerClass α) (k : TrafficClass) : (v.map f).get k = f (v.get k) := by
  cases k <;> rfl

theorem applyTally_eq (s : State) (p : Port) (u : TallyUse) :
    s.applyTally p u = (s.setTally p u.tally).setMgmt (s.mgmt.countUse u.late u.held) := by
  unfold State.applyTally Mgmt.countUse
  dsimp only
  split <;> split <;> simp_all [Mgmt.countLost, Mgmt.flagTallyHeld] <;> rfl

theorem setPortMeters_setPortMeters (s : State) (p : Port) (m n : PerClass Meter) :
    (s.setPortMeters p m).setPortMeters p n = s.setPortMeters p n := by
  simp [State.setPortMeters, State.setMeters]

theorem setPortMeters_self (s : State) (p : Port) : s.setPortMeters p (s.portMeters p) = s := by
  simp [State.setPortMeters, State.setMeters, State.portMeters]

theorem setReport_self (s : State) (p : Port) : s.setReport p (s.report p) = s := by
  simp [State.setReport, State.setReports, State.report]

theorem stepBaselines_eq (s : State) (p : Port) (baseline : Bool) :
    (if baseline then s.stepBaselines p else s) = s.setPortMeters p (s.baselinedMeters p baseline (s.portMeters p)) := by
  unfold State.stepBaselines State.baselinedMeters
  cases baseline with
  | false => simp [setPortMeters_self]
  | true =>
    simp only [true_and, if_true]
    split
    · rfl
    · exact (setPortMeters_self s p).symm

/-- The Array's work on one port, as four updates. -/
theorem stepPort_eq (slot : Byte) (baseline : Bool) (s : State) (p : Port) : State.stepPort slot baseline s p =
    (((s.setTally p (s.workedCells slot baseline p).tally).setMgmt
      (s.mgmt.countUse (s.tallyLate slot p) (s.tallyHeld slot p))).setPortMeters p
        (s.workedCells slot baseline p).meters).setReport p (s.workedCells slot baseline p).report := by
  unfold State.stepPort State.workedCells State.tallyLate State.tallyHeld
  cases guarded : s.guarded p with
  | false =>
    have meters : ∀ t : State, t.meters = s.meters → t.setPortMeters p (s.portMeters p) = t := fun t h => by
      rw [← State.portMeters_congr h, setPortMeters_self]
    have report : ∀ t : State, t.reports = s.reports → t.setReport p (s.report p) = t := fun t h => by
      rw [← State.report_congr h, setReport_self]
    simp only [Bool.false_and, Bool.false_eq_true, if_false, countUse_none]
    calc s.setTally p PortTally.start
      _ = (s.setTally p PortTally.start).setReport p (s.report p) := (report (s.setTally p PortTally.start) rfl).symm
      _ = ((s.setTally p PortTally.start).setPortMeters p (s.portMeters p)).setReport p (s.report p) := by
        rw [meters (s.setTally p PortTally.start) rfl]
  | true =>
    simp only [Bool.true_and, if_true]
    rw [stepBaselines_eq, applyTally_eq]
    generalize (s.tally p).consume slot = u
    have stepped : ((s.setTally p u.tally).setMgmt (s.mgmt.countUse u.late u.held)).stepMeters p u.counts =
        ((s.setTally p u.tally).setMgmt (s.mgmt.countUse u.late u.held)).setPortMeters p (s.steppedMeters p u.counts) := rfl
    have swap : ∀ (t : State) m r n, ((t.setPortMeters p m).setReport p r).setPortMeters p n =
        (t.setPortMeters p n).setReport p r := fun t m r n => by
      rw [← setPortMeters_setPortMeters t p m n]
      rfl
    have same : ∀ (t : State) m r, ((t.setPortMeters p m).setReport p r).portMeters p = m := fun t m r =>
      State.portMeters_setPortMeters_self t p m
    rw [stepped, swap, same, State.makeReport, State.portMeters_setPortMeters_self]
    rfl

theorem cells_stepPort_self (slot : Byte) (baseline : Bool) (s : State) (p : Port) :
    (State.stepPort slot baseline s p).cells p = s.workedCells slot baseline p := by
  rw [stepPort_eq, State.cells, State.report_setReport_self]
  exact congrArg₂ (fun t m => (⟨t, m, (s.workedCells slot baseline p).report⟩ : PortCells))
    (State.tally_setTally_self s p _) (State.portMeters_setPortMeters_self _ p _)

theorem cells_stepPort_of_ne (slot : Byte) (baseline : Bool) (s : State) {p q : Port} (h : p ≠ q) :
    (State.stepPort slot baseline s p).cells q = s.cells q := by
  rw [stepPort_eq, State.cells, State.report_setReport_of_ne _ _ _ _ h]
  exact congrArg₂ (fun t m => (⟨t, m, s.report q⟩ : PortCells))
    (State.tally_setTally_of_ne s p q _ h) (State.portMeters_setPortMeters_of_ne _ p q _ h)

theorem mgmt_stepPort (slot : Byte) (baseline : Bool) (s : State) (p : Port) : (State.stepPort slot baseline s p).mgmt =
    s.mgmt.countUse (s.tallyLate slot p) (s.tallyHeld slot p) := by
  rw [stepPort_eq]
  rfl

/-! ### All ports -/

/-- The work at a port reads its own cells and what no port's work changes. -/
theorem work_congr {s t : State} (frame : OnlyIn [.meters, .tallies, .reports, .mgmt] s t) {p : Port}
    (cells : t.cells p = s.cells p) (slot : Byte) (baseline : Bool) :
    t.workedCells slot baseline p = s.workedCells slot baseline p ∧ t.tallyLate slot p = s.tallyLate slot p ∧
    t.tallyHeld slot p = s.tallyHeld slot p := by
  have port : t.port p = s.port p := State.port_congr (frame .ports (by decide)) p
  have profile : t.profile = s.profile := frame .profile (by decide)
  have due : t.due = s.due := frame .due (by decide)
  have grace : t.grace = s.grace := frame .grace (by decide)
  obtain ⟨tally, meters, report⟩ : t.tally p = s.tally p ∧ t.portMeters p = s.portMeters p ∧ t.report p = s.report p :=
    cells_eq cells
  have guarded : t.guarded p = s.guarded p := congrArg (fun r : PortRecord => r.role != .off) port
  have active : t.graceAtExpiry = s.graceAtExpiry := by rw [State.graceAtExpiry, due, grace]; rfl
  have stepped : t.steppedMeters p = s.steppedMeters p := by
    funext counts
    rw [State.steppedMeters, port, profile, meters]
    rfl
  have baselined : t.baselinedMeters p = s.baselinedMeters p := by
    funext b m
    rw [State.baselinedMeters, port, profile, active]
    rfl
  refine ⟨?_, by rw [State.tallyLate, guarded, tally]; rfl, by rw [State.tallyHeld, guarded, tally]; rfl⟩
  rw [State.workedCells, guarded, tally, meters, report, stepped, baselined, active, profile]
  rfl

/-- The Array's work on a list of ports, each once. -/
theorem foldl_stepPort (slot : Byte) (baseline : Bool) : ∀ (l : List Port) (s : State), l.Nodup →
    (∀ q, (l.foldl (State.stepPort slot baseline) s).cells q =
      if q ∈ l then s.workedCells slot baseline q else s.cells q) ∧
    (l.foldl (State.stepPort slot baseline) s).mgmt =
      l.foldl (fun m p => m.countUse (s.tallyLate slot p) (s.tallyHeld slot p)) s.mgmt
  | [], _, _ => ⟨fun _ => rfl, rfl⟩
  | p :: l, s, h => by
    obtain ⟨notMem, distinct⟩ := List.nodup_cons.1 h
    obtain ⟨cells, mgmt⟩ := foldl_stepPort slot baseline l (State.stepPort slot baseline s p) distinct
    have other := fun q (hq : p ≠ q) =>
      work_congr (onlyIn_stepPort slot baseline s p) (cells_stepPort_of_ne slot baseline s hq) slot baseline
    constructor
    · intro q
      rw [List.foldl_cons, cells]
      by_cases hq : p = q
      · subst hq
        rw [if_neg notMem, if_pos List.mem_cons_self, cells_stepPort_self]
      · rw [(other q hq).1, cells_stepPort_of_ne slot baseline s hq]
        simp only [List.mem_cons, Ne.symm hq, false_or]
    · rw [List.foldl_cons, mgmt, mgmt_stepPort, List.foldl_cons]
      refine List.foldl_ext _ _ _ fun m q hq => ?_
      obtain ⟨-, late, held⟩ := other q fun same => notMem (same ▸ hq)
      rw [late, held]

/-- The late tallies of a list counted, up to the limit of the counter, and the held steps flagged (R14, R165). -/
theorem foldl_countUse {α : Type} (late held : α → Bool) : ∀ (l : List α) (m : Mgmt), m.lost ≤ 65535 →
    l.foldl (fun m p => m.countUse (late p) (held p)) m =
      { m with
        lost := min (m.lost + (l.filter late).length) 65535
        flags := { m.flags with tallyHeld := m.flags.tallyHeld || l.any held } }
  | [], m, h => by simp [h]
  | p :: l, m, h => by
    have range : (m.countUse (late p) (held p)).lost ≤ 65535 := by
      unfold Mgmt.countUse sat16
      dsimp only
      split <;> omega
    have lost : min ((m.countUse (late p) (held p)).lost + (l.filter late).length) 65535 =
        min (m.lost + ((p :: l).filter late).length) 65535 := by
      unfold Mgmt.countUse sat16
      cases hp : late p with
      | false => rw [List.filter_cons_of_neg (by simp [hp])]; rfl
      | true =>
        rw [List.filter_cons_of_pos hp, List.length_cons]
        dsimp only
        rw [if_pos rfl]
        omega
    rw [List.foldl_cons, foldl_countUse late held l _ range, lost, List.any_cons, ← Bool.or_assoc]
    rfl

/-! ### The state that the counts of a slot leave -/

theorem port_countSlot (s : State) (lines : SlotLines) (p : Port) : (s.countSlot lines).port p = s.port p :=
  State.port_congr (onlyIn_countSlot s lines .ports (by decide)) p

theorem guarded_countSlot (s : State) (lines : SlotLines) (p : Port) : (s.countSlot lines).guarded p = s.guarded p :=
  congrArg (fun r : PortRecord => r.role != .off) (port_countSlot s lines p)

theorem tally_countSlot (s : State) (lines : SlotLines) (p : Port) : (s.countSlot lines).tally p = s.tally p := by
  have tallies : (s.countSlot lines).tallies = s.tallies := onlyIn_countSlot s lines .tallies (by decide)
  rw [State.tally, tallies]
  rfl

theorem portMeters_countSlot (s : State) (lines : SlotLines) (p : Port) :
    (s.countSlot lines).portMeters p = s.portMeters p :=
  State.portMeters_congr (onlyIn_countSlot s lines .meters (by decide)) p

theorem report_countSlot (s : State) (lines : SlotLines) (p : Port) : (s.countSlot lines).report p = s.report p :=
  State.report_congr (onlyIn_countSlot s lines .reports (by decide)) p

theorem profile_countSlot (s : State) (lines : SlotLines) : (s.countSlot lines).profile = s.profile :=
  onlyIn_countSlot s lines .profile (by decide)

/-- Grace as counted at this expiry (R30, R41, log 20). -/
theorem graceAtExpiry_countSlot {s : State} (lines : SlotLines) (due : s.due = []) (range : s.timer.position ≤ 999) :
    (s.countSlot lines).graceAtExpiry =
      if s.timer.position = 999 then decide (1 < s.grace) else decide (0 < s.grace) := by
  have grace : (s.countSlot lines).grace = s.grace := onlyIn_countSlot s lines .grace (by decide)
  have second := second_mem_countSlot lines due
  rw [State.graceAtExpiry, grace]
  by_cases top : s.timer.position = 999
  · rw [if_pos (second.2 (by omega)), if_pos top]
  · rw [if_neg (mt second.1 (by omega)), if_neg top]

theorem counters_countFrameAge (s : State) :
    s.countFrameAge.mgmt.lost = s.mgmt.lost ∧ s.countFrameAge.mgmt.flags = s.mgmt.flags := by
  unfold State.countFrameAge
  dsimp only
  repeat' split
  all_goals exact ⟨rfl, rfl⟩

theorem counters_countBreak (s : State) (low : Bool) :
    (s.countBreak low).mgmt.lost = s.mgmt.lost ∧ (s.countBreak low).mgmt.flags = s.mgmt.flags := by
  unfold State.countBreak
  dsimp only
  generalize (if low = true then s.mgmt.breakCount + 1 else 0) = n
  repeat' split
  all_goals exact ⟨rfl, rfl⟩

/-- The counts of a slot touch neither the records-lost counter nor the flags. -/
theorem counters_countSlot (s : State) (lines : SlotLines) :
    (s.countSlot lines).mgmt.lost = s.mgmt.lost ∧ (s.countSlot lines).mgmt.flags = s.mgmt.flags := by
  have blocks : OnlyIn [.timer, .control, .receiver, .probes, .sweep, .panel, .due] s
      (s.countBlocks.countKeys lines).countBuzzer :=
    OnlyIn.step (onlyIn_countBuzzer _) (by decide) <| OnlyIn.step (onlyIn_countKeys _ _) (by decide) <|
      OnlyIn.step (onlyIn_countPacing _) (by decide) <| OnlyIn.step (onlyIn_countRetire _) (by decide) <|
      OnlyIn.step (onlyIn_countProbes _) (by decide) <| OnlyIn.step (onlyIn_countHunt _) (by decide) <|
      (onlyIn_opened s).mono (by decide)
  have mgmt : (s.countBlocks.countKeys lines).countBuzzer.mgmt = s.mgmt := blocks .mgmt (by decide)
  rw [countSlot_eq, (counters_countBreak _ _).1, (counters_countBreak _ _).2, (counters_countFrameAge _).1,
    (counters_countFrameAge _).2, mgmt]
  exact ⟨rfl, rfl⟩

/-- The number of the slot that a slot expiry's tallies belong to (R13). -/
def State.talliedSlot (s : State) : Byte := (s.timer.slotCount - 1).setWidth 8

theorem stepPorts_countSlot (s : State) (lines : SlotLines) : (s.countSlot lines).stepPorts =
    allPorts.foldl (State.stepPort s.talliedSlot (s.timer.slotCount.toNat % 64 == 63)) (s.countSlot lines) := by
  have closed : (s.countSlot lines).timer.slotCount - 1 = s.timer.slotCount := by
    rw [countSlot_timer]; exact add_sub_cancel_right _ _
  rw [State.stepPorts, closed]
  rfl

theorem cells_stepPorts (s : State) (lines : SlotLines) (p : Port) : (s.countSlot lines).stepPorts.cells p =
    (s.countSlot lines).workedCells s.talliedSlot (s.timer.slotCount.toNat % 64 == 63) p := by
  rw [stepPorts_countSlot, (foldl_stepPort _ _ allPorts _ nodup_allPorts).1, if_pos (port_mem_allPorts p)]

theorem mgmt_stepPorts {s : State} (lines : SlotLines) (range : s.mgmt.lost ≤ 65535) :
    (s.countSlot lines).stepPorts.mgmt = { (s.countSlot lines).mgmt with
      lost := min (s.mgmt.lost + (allPorts.filter fun p => s.guarded p &&
        ((s.tally p).consume s.talliedSlot).late).length) 65535
      flags := { s.mgmt.flags with
        tallyHeld := s.mgmt.flags.tallyHeld || allPorts.any fun p => s.guarded p &&
          ((s.tally p).consume s.talliedSlot).held } } := by
  obtain ⟨lost, flags⟩ := counters_countSlot s lines
  have late : ∀ p, (s.countSlot lines).tallyLate s.talliedSlot p =
      (s.guarded p && ((s.tally p).consume s.talliedSlot).late) := fun p => by
    rw [State.tallyLate, guarded_countSlot, tally_countSlot]
  have held : ∀ p, (s.countSlot lines).tallyHeld s.talliedSlot p =
      (s.guarded p && ((s.tally p).consume s.talliedSlot).held) := fun p => by
    rw [State.tallyHeld, guarded_countSlot, tally_countSlot]
  rw [stepPorts_countSlot, (foldl_stepPort _ _ allPorts _ nodup_allPorts).2, foldl_countUse _ _ _ _ (lost ▸ range), lost,
    flags, funext late, funext held]

theorem stepPorts_of_guarded {s : State} (lines : SlotLines) {p : Port} (guarded : s.guarded p = true) :
    (s.countSlot lines).stepPorts.cells p =
      { tally := ((s.tally p).consume s.talliedSlot).tally
        meters := (s.countSlot lines).baselinedMeters p (s.timer.slotCount.toNat % 64 == 63)
          (s.steppedMeters p ((s.tally p).consume s.talliedSlot).counts)
        report := some
          { classes := (s.steppedMeters p ((s.tally p).consume s.talliedSlot).counts).map (Meter.report s.profile.confirmCount)
            held := ((s.tally p).consume s.talliedSlot).held
            grace := (s.countSlot lines).graceAtExpiry } } := by
  have stepped : (s.countSlot lines).steppedMeters p = s.steppedMeters p := by
    funext counts
    rw [State.steppedMeters, port_countSlot, profile_countSlot, portMeters_countSlot]
    rfl
  rw [cells_stepPorts, State.workedCells, if_pos (by rw [guarded_countSlot, guarded]), tally_countSlot, profile_countSlot,
    stepped]

theorem stepPorts_of_off {s : State} (lines : SlotLines) {p : Port} (off : s.guarded p = false) :
    (s.countSlot lines).stepPorts.cells p = ⟨PortTally.start, s.portMeters p, s.report p⟩ := by
  rw [cells_stepPorts, State.workedCells, if_neg (by rw [guarded_countSlot, off]; decide), portMeters_countSlot,
    report_countSlot]

theorem role_handUntilCalm : ∀ (l : List Port) (s : State) (q : Port), ((s.handUntilCalm l).port q).role = (s.port q).role
  | [], _, _ => rfl
  | p :: l, s, q => by
    unfold State.handUntilCalm
    split
    · dsimp only
      split
      · exact role_judgeReport s p _ q
      · exact (role_handUntilCalm l _ q).trans (role_judgeReport s p _ q)
    · exact role_handUntilCalm l s q

theorem reportsDone_countSlot {s : State} (lines : SlotLines) (due : s.due = []) : ReportsDone (s.countSlot lines) := by
  obtain ⟨l, hl, links⟩ := countSlot_due lines due
  intro e he
  rw [hl] at he
  obtain he | he := List.mem_append.1 he
  · have counted := slotEvents_counted s e he
    cases e <;> simp_all [Event.counted, Event.ofReports]
  · have linked := links e he
    cases e <;> simp_all [Event.ofLinks, Event.ofReports]

/-- The works left due at an expiry that is not the first after a reset (R30, log 3). -/
theorem slotExpiry_leavesReports {s : State} (lines : SlotLines) (admitFirst : Bool) (due : s.due = [])
    (first : s.timer.first = false) : s.slotExpiry lines ⟨.ownRows, admitFirst⟩ =
      ((s.countSlot lines).stepPorts.handUntilCalm allPorts).pushDue .admission := by
  rw [slotExpiry_ownRows, close_of_due_nil s due, State.leaveWorks, first, if_neg Bool.false_ne_true]

theorem slotExpiry_after {s : State} (lines : SlotLines) (due : s.due = []) (first : s.timer.first = false) :
    s.slotExpiry lines ⟨.after, false⟩ =
      (allPorts.foldl State.handReport (s.countSlot lines).stepPorts).admission.close := by
  simp [State.slotExpiry, State.slotWorks, State.eventsAt, State.meterWork, close_of_due_nil s due, first]

/-- The reports of the guarded ports, acted on in ascending port order (R30). -/
theorem foldl_handReport_stepPorts (s : State) (lines : SlotLines) :
    allPorts.foldl State.handReport (s.countSlot lines).stepPorts =
      (allPorts.filter s.guarded).foldl (s.countSlot lines).stepPorts.actOnHeld (s.countSlot lines).stepPorts := by
  have guarded : (s.countSlot lines).stepPorts.guarded = s.guarded := funext fun p => by
    have port : (s.countSlot lines).stepPorts.port p = (s.countSlot lines).port p :=
      State.port_congr (onlyIn_stepPorts _ .ports (by decide)) p
    rw [State.guarded, port]
    exact guarded_countSlot s lines p
  rw [foldl_handReport_held (s.countSlot lines).stepPorts allPorts _ fun _ => rfl, guarded]

theorem baselinedMeters_countSlot {s : State} (lines : SlotLines) (due : s.due = []) (range : s.timer.position ≤ 999)
    (p : Port) (m : PerClass Meter) (k : TrafficClass) :
    ((s.countSlot lines).baselinedMeters p (s.timer.slotCount.toNat % 64 == 63) m).get k =
      if s.timer.slotCount.toNat % 64 = 63 ∧ (s.port p).state = .opened ∧
          (if s.timer.position = 999 then decide (1 < s.grace) else decide (0 < s.grace)) = false then
        (m.get k).baselineStep (s.profile.meters.get k) ((s.profile.meters.get k).thresholds (s.port p).role)
      else m.get k := by
  rw [State.baselinedMeters, port_countSlot, profile_countSlot, graceAtExpiry_countSlot lines due range]
  simp only [beq_iff_eq]
  generalize (if s.timer.position = 999 then decide (1 < s.grace) else decide (0 < s.grace)) = grace
  split
  · exact PerClass.get_build _ k
  · rfl

/-- Settles O13: the works of an expiry are the Array's work on every port, then the reports in port order, whether they are
acted on in one run or wait behind a reopening. -/
theorem slotExpiryStepsEveryGuardedMeter : Obligations.SlotExpiryStepsEveryGuardedMeter := by
  intro s lines due first range lost
  have frame := onlyIn_stepPorts (s.countSlot lines)
  refine ⟨(s.countSlot lines).stepPorts, ?_⟩
  refine ⟨?_, ?_, ?_, ?_, ?_, ?_⟩
  · exact frame.mono (by decide)
  · exact mgmt_stepPorts lines lost
  · intro p guarded use grace stepped
    obtain ⟨tally, meters, report⟩ := cells_eq (stepPorts_of_guarded lines guarded)
    have stepped_eq : ∀ k, (s.steppedMeters p ((s.tally p).consume s.talliedSlot).counts).get k = stepped k :=
      PerClass.get_build _
    refine ⟨tally, fun k => ?_, _, report, rfl, graceAtExpiry_countSlot lines due range, fun k => ?_⟩
    · rw [meters, baselinedMeters_countSlot lines due range, stepped_eq]
    · rw [PerClass.get_map, stepped_eq]
  · intro p off
    obtain ⟨tally, meters, report⟩ := cells_eq (stepPorts_of_off lines off)
    exact ⟨meters, report, tally⟩
  · intro admitFirst
    have handed := (onlyIn_handUntilCalm allPorts (s.countSlot lines).stepPorts).trans
      ((onlyIn_pushDue _ .admission).mono (by decide))
    have profile : (s.slotExpiry lines ⟨.ownRows, admitFirst⟩).profile = s.profile :=
      onlyIn_slotExpiry s lines _ .profile (by decide)
    have events : (s.countSlot lines).stepPorts.due = (s.countSlot lines).due := frame .due (by decide)
    have done : ReportsDone (s.countSlot lines).stepPorts := fun e he => reportsDone_countSlot lines due e (events ▸ he)
    have role : ∀ p, ((((s.countSlot lines).stepPorts.handUntilCalm allPorts).pushDue .admission).port p).role =
        (s.port p).role := fun p => by
      have ports : (s.countSlot lines).stepPorts.port p = (s.countSlot lines).port p :=
        State.port_congr (frame .ports (by decide)) p
      rw [port_pushDue, role_handUntilCalm, ports, port_countSlot]
    rw [exec_slotExpiry]
    rw [slotExpiry_leavesReports lines admitFirst due first] at profile ⊢
    refine ⟨_, rfl, handed .tallies (by decide), handed .meters (by decide), handed .reports (by decide), profile, role, ?_⟩
    rw [finishReports_handUntilCalm allPorts [] _ rfl done, foldl_handReport_stepPorts]
    generalize (s.countSlot lines).stepPorts = u
    rfl
  · rw [exec_slotExpiry, slotExpiry_after lines due first, foldl_handReport_stepPorts]
    generalize (s.countSlot lines).stepPorts = u
    rfl

end Sys2Proof.Machine
end

section
/-! The meter arithmetic: the rings and sums of a meter that has taken a list of counts, one meter step, and one baseline step
(R24 to R29, R32, R37). -/

namespace Sys2Proof.Machine

/-! ### One step (R24 to R29, R32) -/

@[simp] theorem enterCount_base (c : ClassSetup) (n : Nat) (m : Meter) : (m.enterCount c n).base = m.base := by
  unfold Meter.enterCount; split <;> rfl

@[simp] theorem enterCount_h1 (c : ClassSetup) (n : Nat) (m : Meter) : (m.enterCount c n).h1 = pushRing m.h1 n := by
  unfold Meter.enterCount; split <;> rfl

@[simp] theorem enterCount_s1 (c : ClassSetup) (n : Nat) (m : Meter) : (m.enterCount c n).s1 = (pushRing m.h1 n).sum := by
  unfold Meter.enterCount; split <;> rfl

@[simp] theorem step_base (c : ClassSetup) (th : Thresholds) (n : Nat) (m : Meter) : (m.step c th n).base = m.base :=
  enterCount_base c n m

@[simp] theorem step_h1 (c : ClassSetup) (th : Thresholds) (n : Nat) (m : Meter) : (m.step c th n).h1 = pushRing m.h1 n :=
  enterCount_h1 c n m

@[simp] theorem step_s1 (c : ClassSetup) (th : Thresholds) (n : Nat) (m : Meter) :
    (m.step c th n).s1 = (pushRing m.h1 n).sum := enterCount_s1 c n m

theorem step_h2_box {c : ClassSetup} (box : c.shape = .box) (th : Thresholds) (n : Nat) (m : Meter) :
    (m.step c th n).h2 = m.h2 ∧ (m.step c th n).s2 = m.s2 := by
  simp [Meter.step, Meter.enterCount, box]

theorem step_h2_triangle {c : ClassSetup} (triangle : c.shape = .triangle) (th : Thresholds) (n : Nat) (m : Meter) :
    (m.step c th n).h2 = pushRing m.h2 (pushRing m.h1 n).sum ∧
    (m.step c th n).s2 = (pushRing m.h2 (pushRing m.h1 n).sum).sum := by
  simp [Meter.step, Meter.enterCount, triangle]

theorem step_level (c : ClassSetup) (th : Thresholds) (n : Nat) (m : Meter) :
    (m.step c th n).level = (m.step c th n).rawLevel c * (64 / c.window) := rfl

theorem rawLevel_box {c : ClassSetup} (box : c.shape = .box) (m : Meter) : m.rawLevel c = m.s1 := by
  unfold Meter.rawLevel; rw [box]

theorem rawLevel_triangle {c : ClassSetup} (triangle : c.shape = .triangle) (m : Meter) :
    m.rawLevel c = m.s2 / c.window := by
  unfold Meter.rawLevel; rw [triangle]

theorem step_excess (c : ClassSetup) (th : Thresholds) (n : Nat) (m : Meter) :
    (m.step c th n).excess = ((m.step c th n).level : Int) - (m.base : Int) := rfl

/-- A condition is judged against its threshold by a meter that was not priming, and never by one that was (R28, R32). -/
theorem judged_iff (priming : Nat) (p : Prop) [Decidable p] :
    (priming = 0 → ((priming == 0 && decide p) = true ↔ p)) ∧ (priming ≠ 0 → (priming == 0 && decide p) = false) :=
  ⟨fun h => by simp [h], fun h => by simp [h]⟩

/-- Settles O21: each field of the stepped meter by the definition of the step, the conditions by `judged_iff`. -/
theorem meterStepRaisesConditions : Obligations.MeterStepRaisesConditions := by
  intro c th n m
  have storm := judged_iff m.priming (th.limit ≤ (m.step c th n).excess)
  have severe := judged_iff m.priming (th.block ≤ (m.step c th n).excess)
  have calm := judged_iff m.priming ((m.step c th n).excess ≤ th.calm)
  refine ⟨step_base c th n m, step_excess c th n m, fun primed => ⟨storm.1 primed, severe.1 primed, calm.1 primed⟩,
    fun priming => ⟨storm.2 priming, severe.2 priming, calm.2 priming⟩, rfl, rfl, rfl, fun confirm => ?_⟩
  exact ⟨rfl, step_base c th n m, rfl, rfl, rfl, rfl, rfl, decide_eq_true_iff, decide_eq_true_iff⟩

/-! ### The rings as a list of counts leaves them (R24, R25) -/

/-- The last `w` values of a list, oldest first, behind the zeros that no value has replaced yet. -/
def lastValues (w : Nat) (l : List Nat) : List Nat := (List.replicate w 0 ++ l).drop l.length

theorem length_lastValues (w : Nat) (l : List Nat) : (lastValues w l).length = w := by simp [lastValues]

theorem pushRing_lastValues {w : Nat} (pos : 0 < w) (l : List Nat) (x : Nat) :
    pushRing (lastValues w l) x = lastValues w (l ++ [x]) := by
  have short : l.length + 1 ≤ (List.replicate w 0 ++ l).length := by simp; omega
  rw [pushRing, lastValues, List.tail_drop, lastValues, ← List.append_assoc, List.length_append, List.length_singleton,
    List.drop_append_of_le_length short]

theorem sum_lastValues (w : Nat) (l : List Nat) : (lastValues w l).sum = (l.reverse.take w).sum := by
  have newest : (lastValues w l).reverse = (l.reverse ++ List.replicate w 0).take w := by
    rw [lastValues, List.reverse_drop]
    simp
  calc (lastValues w l).sum
    _ = ((l.reverse ++ List.replicate w 0).take w).sum := by rw [← newest, List.sum_reverse]
    _ = (l.reverse.take w).sum := by simp [List.take_append]

/-- The window sums of the last `w` steps of a meter that has taken the counts `l`, newest first: the `j`th is the sum of the
last `w` counts as they stood `j` steps ago (R25). -/
def windowSums (w : Nat) (l : List Nat) : List Nat := (List.range w).map fun j => ((l.reverse.drop j).take w).sum

theorem windowSums_nil (w : Nat) : windowSums w [] = List.replicate w 0 := by simp [windowSums]

theorem pushRing_windowSums {w : Nat} (pos : 0 < w) (l : List Nat) (x : Nat) :
    pushRing (windowSums w l).reverse (lastValues w (l ++ [x])).sum = (windowSums w (l ++ [x])).reverse := by
  obtain ⟨k, rfl⟩ := Nat.exists_eq_succ_of_ne_zero pos.ne'
  have older : (windowSums (k + 1) l).reverse.tail =
      ((List.range k).map fun j => ((l.reverse.drop j).take (k + 1)).sum).reverse := by
    simp [windowSums, List.range_succ]
  have newer : windowSums (k + 1) (l ++ [x]) = (lastValues (k + 1) (l ++ [x])).sum ::
      (List.range k).map fun j => ((l.reverse.drop j).take (k + 1)).sum := by
    simp [windowSums, List.range_succ_eq_map, sum_lastValues, Function.comp_def]
  rw [pushRing, Nat.succ_eq_add_one, older, newer, List.reverse_cons]

/-- A meter as a restart and the counts `l` leave it, whatever its baseline and its judgements (R24, R25). -/
structure Meter.Fed (c : ClassSetup) (l : List Nat) (m : Meter) : Prop where
  h1 : m.h1 = lastValues c.window l
  s1 : m.s1 = m.h1.sum
  box : c.shape = .box → m.h2 = List.replicate c.window 0 ∧ m.s2 = 0
  triangle : c.shape = .triangle → m.h2 = (windowSums c.window l).reverse ∧ m.s2 = m.h2.sum
  level : m.level = m.rawLevel c * (64 / c.window)

theorem fed_restartedWith (c : ClassSetup) (base : Nat) : (Meter.restartedWith c base).Fed c [] where
  h1 := by simp [Meter.restartedWith, lastValues]
  s1 := by simp [Meter.restartedWith]
  box _ := ⟨rfl, rfl⟩
  triangle _ := by simp [Meter.restartedWith, windowSums_nil]
  level := by unfold Meter.rawLevel; split <;> simp [Meter.restartedWith]

theorem Meter.Fed.step {c : ClassSetup} (pos : 0 < c.window) (th : Thresholds) {l : List Nat} {m : Meter} (h : m.Fed c l)
    (n : Nat) : (m.step c th n).Fed c (l ++ [n]) where
  h1 := by rw [step_h1, h.h1, pushRing_lastValues pos]
  s1 := by rw [step_s1, step_h1]
  box box := by rw [(step_h2_box box th n m).1, (step_h2_box box th n m).2]; exact h.box box
  triangle triangle := by
    obtain ⟨h2, s2⟩ := step_h2_triangle triangle th n m
    rw [h2, s2, h.h1, (h.triangle triangle).1, pushRing_lastValues pos, pushRing_windowSums pos]
    exact ⟨rfl, rfl⟩
  level := step_level c th n m

theorem Meter.Fed.foldl {c : ClassSetup} (pos : 0 < c.window) (th : Thresholds) : ∀ (counts l : List Nat) {m : Meter},
    m.Fed c l → (counts.foldl (fun m n => m.step c th n) m).Fed c (l ++ counts)
  | [], l, _, h => by rwa [List.append_nil]
  | n :: counts, l, _, h => by
    have rest := Meter.Fed.foldl pos th counts _ (h.step pos th n)
    rwa [List.append_assoc] at rest

/-! ### The ranges of the rings (R21, R26) -/

/-- The rings, sums and level of a meter within the ranges of R21. -/
structure Meter.RingsInRange (c : ClassSetup) (m : Meter) : Prop where
  len1 : m.h1.length = c.window
  bound1 : ∀ x ∈ m.h1, x ≤ 255
  s1 : m.s1 = m.h1.sum
  len2 : m.h2.length = c.window
  bound2 : ∀ y ∈ m.h2, y ≤ 255 * c.window
  s2 : m.s2 = m.h2.sum
  box : c.shape = .box → m.s2 = 0
  level : m.level ≤ 16320

theorem length_pushRing {ring : List Nat} {w : Nat} (_pos : 0 < w) (h : ring.length = w) (x : Nat) :
    (pushRing ring x).length = w := by
  simp [pushRing, h]; omega

theorem le_of_mem_pushRing {ring : List Nat} {b x : Nat} (h : ∀ y ∈ ring, y ≤ b) (hx : x ≤ b) :
    ∀ y ∈ pushRing ring x, y ≤ b := by
  intro y hy
  obtain old | new := List.mem_append.1 hy
  · exact h y (List.mem_of_mem_tail old)
  · exact (List.mem_singleton.1 new) ▸ hx

theorem sum_le_of_ring {ring : List Nat} {b w : Nat} (len : ring.length = w) (h : ∀ y ∈ ring, y ≤ b) : ring.sum ≤ b * w := by
  have := List.sum_le_card_nsmul ring b h
  rwa [len, smul_eq_mul, Nat.mul_comm] at this

theorem window_pos {w : Nat} (window : w ∈ [4, 8, 16, 32, 64]) : 0 < w := by
  simp only [List.mem_cons, List.not_mem_nil, or_false] at window
  omega

/-- The scale of a level brings every window to 64 slots (R26). -/
theorem window_scale {w : Nat} (window : w ∈ [4, 8, 16, 32, 64]) : w * (64 / w) = 64 := by
  simp only [List.mem_cons, List.not_mem_nil, or_false] at window
  obtain rfl | rfl | rfl | rfl | rfl := window <;> rfl

/-- A level of at most 255 counts a slot is at most 16320 (R26). -/
theorem scaled_level_le {w raw : Nat} (window : w ∈ [4, 8, 16, 32, 64]) (h : raw ≤ 255 * w) : raw * (64 / w) ≤ 16320 :=
  calc raw * (64 / w)
    _ ≤ 255 * w * (64 / w) := Nat.mul_le_mul_right _ h
    _ = 16320 := by rw [Nat.mul_assoc, window_scale window]

theorem rawLevel_le {c : ClassSetup} {m : Meter} (s1 : m.s1 ≤ 255 * c.window)
    (s2 : m.s2 ≤ 255 * c.window * c.window) : m.rawLevel c ≤ 255 * c.window := by
  unfold Meter.rawLevel
  split
  · exact s1
  · exact Nat.div_le_of_le_mul (by rwa [Nat.mul_comm])

theorem rings_restartedWith (c : ClassSetup) (base : Nat) : (Meter.restartedWith c base).RingsInRange c where
  len1 := by simp [Meter.restartedWith]
  bound1 x hx := by simp [List.eq_of_mem_replicate hx]
  s1 := by simp [Meter.restartedWith]
  len2 := by simp [Meter.restartedWith]
  bound2 x hx := by simp [List.eq_of_mem_replicate hx]
  s2 := by simp [Meter.restartedWith]
  box _ := rfl
  level := Nat.zero_le _

theorem Meter.RingsInRange.step {c : ClassSetup} {m : Meter} (h : m.RingsInRange c) (window : c.window ∈ [4, 8, 16, 32, 64])
    (th : Thresholds) {n : Nat} (count : n ≤ 255) : (m.step c th n).RingsInRange c := by
  have pos := window_pos window
  have len1 := length_pushRing pos h.len1 n
  have bound1 := le_of_mem_pushRing h.bound1 count
  have sum1 := sum_le_of_ring len1 bound1
  have rings2 : (m.step c th n).h2.length = c.window ∧ (∀ y ∈ (m.step c th n).h2, y ≤ 255 * c.window) ∧
      (m.step c th n).s2 = (m.step c th n).h2.sum ∧ (c.shape = .box → (m.step c th n).s2 = 0) := by
    cases shape : c.shape with
    | box =>
      rw [(step_h2_box shape th n m).1, (step_h2_box shape th n m).2]
      exact ⟨h.len2, h.bound2, h.s2, fun _ => h.box shape⟩
    | triangle =>
      rw [(step_h2_triangle shape th n m).1, (step_h2_triangle shape th n m).2]
      exact ⟨length_pushRing pos h.len2 _, le_of_mem_pushRing h.bound2 sum1, rfl, nofun⟩
  obtain ⟨len2, bound2, s2, box⟩ := rings2
  have raw : (m.step c th n).rawLevel c ≤ 255 * c.window :=
    rawLevel_le (by rwa [step_s1]) (by rw [s2]; exact sum_le_of_ring len2 bound2)
  exact ⟨by rwa [step_h1], by rwa [step_h1], by rw [step_s1, step_h1], len2, bound2, s2, box, scaled_level_le window raw⟩

theorem Meter.RingsInRange.foldl {c : ClassSetup} (window : c.window ∈ [4, 8, 16, 32, 64]) (th : Thresholds) :
    ∀ (counts : List Nat) {m : Meter}, m.RingsInRange c → (∀ n ∈ counts, n ≤ 255) →
      (counts.foldl (fun m n => m.step c th n) m).RingsInRange c
  | [], _, h, _ => h
  | n :: counts, _, h, bound =>
    Meter.RingsInRange.foldl window th counts (h.step window th (bound n List.mem_cons_self))
      fun x hx => bound x (List.mem_cons_of_mem n hx)

/-- Settles O20: the rings by induction over the counts, the bounds by the ranges that every step keeps. -/
theorem meterLevelIsWindowSum : Obligations.MeterLevelIsWindowSum := by
  intro c th base counts window m
  have fed : m.Fed c counts := (fed_restartedWith c base).foldl (window_pos window) th counts []
  have s1 : m.s1 = (counts.reverse.take c.window).sum := by rw [fed.s1, fed.h1, sum_lastValues]
  refine ⟨fed.h1, fed.s1, fun box => ?_, fun triangle => ?_, fun bound => ?_⟩
  · obtain ⟨h2, s2⟩ := fed.box box
    have level : m.level = m.s1 * (64 / c.window) := by rw [fed.level, rawLevel_box box]
    exact ⟨h2, s2, level, s1 ▸ level⟩
  · obtain ⟨h2, s2⟩ := fed.triangle triangle
    have level : m.level = m.s2 / c.window * (64 / c.window) := by rw [fed.level, rawLevel_triangle triangle]
    refine ⟨h2, s2, level, ?_⟩
    rw [level, s2, h2, List.sum_reverse]
    rfl
  · have rings : m.RingsInRange c := (rings_restartedWith c base).foldl window th counts bound
    refine ⟨rings.s1 ▸ sum_le_of_ring rings.len1 rings.bound1, ?_, rings.level⟩
    rw [rings.s2, pow_two, ← Nat.mul_assoc]
    exact sum_le_of_ring rings.len2 rings.bound2

/-! ### The baseline step (R36, R37) -/

/-- The floored share of a rise is within it. -/
theorem floor_share_of_nonneg {d k : Int} (pos : 0 < k) (h : 0 ≤ d) : 0 ≤ d / k ∧ d / k ≤ d :=
  ⟨Int.ediv_nonneg h pos.le, Int.ediv_le_self k h⟩

/-- The floored share of a fall is at least 1 and within it (R37). -/
theorem floor_share_of_neg {d k : Int} (pos : 0 < k) (h : d < 0) : d ≤ d / k ∧ d / k < 0 := by
  refine ⟨(Int.le_ediv_iff_mul_le pos).2 ?_, Int.ediv_neg_of_neg_of_pos h pos⟩
  nlinarith

theorem clampInt_eq_min {hi x : Int} (h : 0 ≤ x) : clampInt 0 hi x = min x hi := by
  unfold clampInt; split
  · omega
  · split <;> omega

/-- A baseline step that moves the baseline (R37). -/
theorem nextBase_eq (shift : Nat) {ceil : Int} (level base : Nat) (h : 0 ≤ ceil) : (nextBase shift ceil level base : Int) =
    min ((base : Int) + ((level : Int) - (base : Int)) / ((2 ^ shift : Nat) : Int)) ceil := by
  have pos : (0 : Int) < ((2 ^ shift : Nat) : Int) := by positivity
  have sum : 0 ≤ (base : Int) + ((level : Int) - (base : Int)) / ((2 ^ shift : Nat) : Int) := by
    by_cases rise : 0 ≤ (level : Int) - (base : Int)
    · have := (floor_share_of_nonneg pos rise).1; omega
    · have := (floor_share_of_neg pos (not_le.1 rise)).1; omega
  rw [nextBase, clampInt_eq_min sum, Int.toNat_of_nonneg (le_min sum h)]

theorem baselineStep_of_learning {c : ClassSetup} {th : Thresholds} {m : Meter} (primed : m.priming = 0)
    (below : m.excess < th.limit) : m.baselineStep c th = m.withBase (nextBase c.shift th.ceil m.level m.base) :=
  if_pos ⟨primed, below⟩

theorem baselineStep_of_not_learning {c : ClassSetup} {th : Thresholds} {m : Meter}
    (h : m.priming ≠ 0 ∨ th.limit ≤ m.excess) : m.baselineStep c th = m :=
  if_neg fun ⟨primed, below⟩ => h.elim (· primed) fun above => absurd below (not_lt.2 above)

/-- Settles O22: a step that moves the baseline by the bounds of its floored share, rise and fall apart. -/
theorem baselineStepMovesTowardLevel : Obligations.BaselineStepMovesTowardLevel := by
  intro c th m _ ceil within
  refine ⟨fun primed below => ?_, fun h => baselineStep_of_not_learning h⟩
  have moved : ((m.baselineStep c th).base : Int) =
      min ((m.base : Int) + ((m.level : Int) - (m.base : Int)) / ((2 ^ c.shift : Nat) : Int)) th.ceil := by
    rw [baselineStep_of_learning primed below]
    exact nextBase_eq c.shift m.level m.base ceil
  have pos : (0 : Int) < ((2 ^ c.shift : Nat) : Int) := by positivity
  refine ⟨moved, moved ▸ min_le_right _ _, fun fall => ?_, fun rise small => ?_, fun rise => ?_, ?_⟩
  · have share := floor_share_of_neg pos (show (m.level : Int) - (m.base : Int) < 0 by omega)
    omega
  · have share : ((m.level : Int) - (m.base : Int)) / ((2 ^ c.shift : Nat) : Int) = 0 :=
      Int.ediv_eq_zero_of_lt (by omega) (by omega)
    omega
  · have share := floor_share_of_nonneg pos (show 0 ≤ (m.level : Int) - (m.base : Int) by omega)
    omega
  · rw [baselineStep_of_learning primed below]
    rfl

end Sys2Proof.Machine
end

section
/-! The operations that keep every port's role: all but a change of role and a restart of the part (R86, R109). -/

namespace Sys2Proof.Machine

/-! ### Updates -/

theorem roles_of_role {s t : State} (h : ∀ q, (t.port q).role = (s.port q).role) : t.roles = s.roles := by
  simp [State.roles, h]

theorem role_of_roles {s t : State} (h : t.roles = s.roles) (q : Port) : (t.port q).role = (s.port q).role := by
  have at_q : t.roles[q] = s.roles[q] := by rw [h]
  simpa [State.roles] using at_q

theorem roles_of_ports {s t : State} (h : t.ports = s.ports) : t.roles = s.roles :=
  roles_of_role fun q => by rw [State.port_congr h]

/-- What does not change the port table keeps the roles. -/
theorem OnlyIn.roles {parts : List Part} {s t : State} (h : OnlyIn parts s t) (out : .ports ∉ parts) : t.roles = s.roles :=
  roles_of_ports (h .ports out)

theorem roles_foldl {α : Type} {f : State → α → State} (h : ∀ s a, (f s a).roles = s.roles) :
    ∀ (l : List α) (s : State), (l.foldl f s).roles = s.roles
  | [], _ => rfl
  | a :: l, s => (roles_foldl h l (f s a)).trans (h s a)

@[simp] theorem roles_setTimer (s : State) (v : SlotTimer) : (s.setTimer v).roles = s.roles := rfl
@[simp] theorem roles_setControl (s : State) (v : Control) : (s.setControl v).roles = s.roles := rfl
@[simp] theorem roles_setStations (s : State) (v : List StationEntry) : (s.setStations v).roles = s.roles := rfl
@[simp] theorem roles_setProbes (s : State) (v : ProbeEngine) : (s.setProbes v).roles = s.roles := rfl
@[simp] theorem roles_setSweep (s : State) (v : SweepScheduler) : (s.setSweep v).roles = s.roles := rfl
@[simp] theorem roles_setPanel (s : State) (v : Panel) : (s.setPanel v).roles = s.roles := rfl
@[simp] theorem roles_setDue (s : State) (v : List Event) : (s.setDue v).roles = s.roles := rfl
@[simp] theorem roles_pushDue (s : State) (e : Event) : (s.pushDue e).roles = s.roles := rfl
@[simp] theorem roles_raise (s : State) (n : Notice) : (s.raise n).roles = s.roles := rfl
@[simp] theorem roles_raisePanel (s : State) (a : PanelAction) : (s.raisePanel a).roles = s.roles := rfl

@[simp] theorem roles_setPort (s : State) (p : Port) (v : PortRecord) (h : v.role = (s.port p).role) :
    (s.setPort p v).roles = s.roles := roles_of_role fun q => role_setPort s p q v h

/-! ### Wants, states and trips -/

@[simp] theorem roles_setWant (s : State) (p : Port) (w : Want) : (s.setWant p w).roles = s.roles :=
  roles_of_role fun q => by rw [port_setWant]

@[simp] theorem roles_enter (s : State) (p : Port) (x : PortState) : (s.enter p x).roles = s.roles :=
  roles_of_role (role_enter s p x)

@[simp] theorem roles_trip (s : State) (p : Port) (c : Cause) (x : PortState) (o : Option Port) (r : Option Half) :
    (s.trip p c x o r).roles = s.roles := roles_of_role (role_trip s p c x o r)

@[simp] theorem roles_blockingTrip (s : State) (p : Port) (c : Cause) (o : Option Port) (r : Option Half) :
    (s.blockingTrip p c o r).roles = s.roles := roles_of_role (role_blockingTrip s p c o r)

@[simp] theorem roles_limitingTrip (s : State) (p : Port) (c : Cause) (o : Option Port) :
    (s.limitingTrip p c o).roles = s.roles := roles_of_role (role_limitingTrip s p c o)

@[simp] theorem roles_primingExit (s : State) (p : Port) : (s.primingExit p).roles = s.roles :=
  roles_of_role (role_primingExit s p)

@[simp] theorem roles_takeCalmHold (s : State) (p : Port) : (s.takeCalmHold p).roles = s.roles :=
  roles_of_role (role_takeCalmHold s p)

@[simp] theorem roles_reopen (s : State) (p : Port) : (s.reopen p).roles = s.roles := by simp [State.reopen]

@[simp] theorem roles_handReport (s : State) (p : Port) : (s.handReport p).roles = s.roles := by
  unfold State.handReport
  split
  · exact roles_of_role (role_actOnReport s p _)
  · rfl

@[simp] theorem roles_release (s : State) (p : Port) : (s.release p).roles = s.roles := by
  unfold State.release
  dsimp only
  split
  · split <;> simp
  · rfl

@[simp] theorem roles_roomRelease (s : State) : s.roomRelease.roles = s.roles := roles_foldl roles_release _ s

/-! ### Sweeps and conclusions -/

@[simp] theorem roles_dropSweeps (s : State) : s.dropSweeps.roles = s.roles :=
  roles_of_role fun q => by simp [State.dropSweeps, State.port, State.setPorts, State.setProbes]

@[simp] theorem roles_putSweep (s : State) (r : SweepRecord) : (s.putSweep r).roles = s.roles := by
  unfold State.putSweep
  split <;> simp [State.endSweep]

@[simp] theorem roles_deliverSweep (s : State) (n : Byte) (o : ProbeOutcome) : (s.deliverSweep n o).roles = s.roles := by
  unfold State.deliverSweep
  split
  · split <;> simp
  · rfl

@[simp] theorem roles_takeSweepPort (s : State) : s.takeSweepPort.roles = s.roles := by
  unfold State.takeSweepPort
  dsimp only
  split
  · rfl
  · split
    · split <;> simp
    · rfl

@[simp] theorem roles_conclude (s : State) (p : Port) (u : Purposes) (o : ProbeOutcome) (a : Option Port) :
    (s.conclude p u o a).roles = s.roles := by
  have linkup : (s.concludeLinkup p u o).roles = s.roles := by unfold State.concludeLinkup; split <;> simp
  have sweep : ∀ t : State, (t.concludeSweep u o).roles = t.roles := fun t => by
    unfold State.concludeSweep; split <;> simp
  have recover : ∀ t : State, (t.concludeRecover p u o).roles = t.roles := fun t => by
    unfold State.concludeRecover; split <;> simp
  have host : ∀ t : State, (t.concludeHost p u o a).roles = t.roles := fun t =>
    (onlyIn_concludeHost t p u o a).roles (by decide)
  rw [State.conclude, host, recover, sweep, linkup]

@[simp] theorem roles_voidWants (s : State) (p : Port) : (s.voidWants p).roles = s.roles := by simp [State.voidWants]

@[simp] theorem roles_removeQueued (s : State) (p : Port) : (s.removeQueued p).roles = s.roles := by
  unfold State.removeQueued; split <;> simp

/-! ### Links, proofs, stations and probes -/

@[simp] theorem roles_linkDown (s : State) (p : Port) : (s.linkDown p).roles = s.roles := by simp [State.linkDown]

@[simp] theorem roles_trunkLoop (s : State) (o x : Port) : (s.trunkLoop o x).roles = s.roles := by
  have limit : ∀ (t : State) p q, (t.limitTrunk p q).roles = t.roles := fun t p q => by
    unfold State.limitTrunk; split <;> simp
  unfold State.trunkLoop
  dsimp only
  split
  · simp [limit]
  · split <;> simp [limit]

@[simp] theorem roles_resolve (s : State) (o x : Port) (recover : Bool) : (s.resolve o x recover).1.roles = s.roles := by
  unfold State.resolve
  dsimp only
  repeat' split
  all_goals simp

@[simp] theorem roles_takeReturn (s : State) (x : Port) (room : Half) (o : Byte) (tag : Half) :
    (s.takeReturn x room o tag).roles = s.roles := by
  unfold State.takeReturn State.matchedReturn State.unmatchedReturn State.foreignReturn
  dsimp only
  repeat' split
  all_goals simp

@[simp] theorem roles_learn (s : State) (p : Port) (a : Address) : (s.learn p a).roles = s.roles := by
  have want : ∀ (t : State) q, (t.flapWant q).roles = t.roles := fun t q => by unfold State.flapWant; split <;> simp
  unfold State.learn State.moveStation State.flap
  dsimp only
  repeat' split
  all_goals simp [want]

@[simp] theorem roles_admitWants (s : State) : s.admitWants.roles = s.roles :=
  roles_foldl (fun t p => by
    unfold State.admitPort
    split
    · exact roles_setPort (t.setProbes _) p _ rfl
    · rfl) _ s

@[simp] theorem roles_takeProbeExpiry (s : State) (o : Port) : (s.takeProbeExpiry o).roles = s.roles := by
  unfold State.takeProbeExpiry; split <;> simp

@[simp] theorem roles_roomChanged (s : State) (old : Half) : (s.roomChanged old).roles = s.roles := by
  have renew : ∀ (t : State) p, (t.renewWant p).roles = t.roles := fun t p => by
    unfold State.renewWant; split <;> simp
  have concluded : ∀ (t : State) (e : ProbeEntry), (t.conclude e.origin e.purposes .void none).roles = t.roles :=
    fun t e => roles_conclude t _ _ _ _
  simp only [State.roomChanged]
  rw [roles_foldl renew, roles_foldl concluded]
  rfl

/-! ### The events of an expiry -/

theorem roles_takeSecond (s : State) : s.takeSecond.roles = s.roles := by
  have port : ∀ (t : State) p, (t.countPortSecond p).roles = t.roles := fun t p => by
    unfold State.countPortSecond
    dsimp only
    repeat' split
    all_goals simp
  have grace : ∀ t : State, t.countGrace.roles = t.roles := fun t => (onlyIn_countGrace t).roles (by decide)
  have sweep : ∀ t : State, t.countAutoSweep.roles = t.roles := fun t => (onlyIn_countAutoSweep t).roles (by decide)
  rw [State.takeSecond, sweep, roles_foldl port, State.countStations, roles_setStations, grace, roles_setTimer]

theorem roles_takeEvent (s : State) : ∀ e, (s.takeEvent e).roles = s.roles
  | .second => roles_takeSecond s
  | .fabricLost => (onlyIn_takeFabricLost s).roles (by decide)
  | .calmHold p => roles_takeCalmHold s p
  | .probeExpired o => roles_takeProbeExpiry s o
  | .retireEnd => (onlyIn_takeRetireEnd s).roles (by decide)
  | .holdOff p => by
    show (s.takeHoldOff p).roles = s.roles
    unfold State.takeHoldOff; split <;> simp
  | .strikeDecay p => by
    show (s.takeStrikeDecay p).roles = s.roles
    unfold State.takeStrikeDecay; split <;> simp
  | .grace => roles_raise s _
  | .autoSweep => (onlyIn_takeAutoSweep s).roles (by decide)
  | .sweepTake => by
    show s.takeSweepTake.roles = s.roles
    unfold State.takeSweepTake
    repeat' split
    all_goals simp
  | .silPress => (onlyIn_takeSilPress s).roles (by decide)
  | .relPress => (onlyIn_takeRelPress s).roles (by decide)
  | .relRelease => by
    show s.takeRelRelease.roles = s.roles
    unfold State.takeRelRelease State.releaseHead
    repeat' split
    all_goals simp
  | .silRelease => rfl
  | .twoKey => by
    show s.takeTwoKey.roles = s.roles
    unfold State.takeTwoKey
    repeat' split
    all_goals simp
  | .buzzer => (onlyIn_takeBuzzerExpiry s).roles (by decide)
  | .frameTimeout => (onlyIn_takeFrameTimeout s).roles (by decide)
  | .linkBreak => (onlyIn_takeLinkBreak s).roles (by decide)
  | .reports p => roles_foldl roles_handReport (portsAbove p) s
  | .admission => roles_admitWants s

theorem roles_takeDue (s : State) (e : Event) : (s.takeDue e).roles = s.roles := by
  unfold State.takeDue
  split
  · rw [roles_takeEvent, roles_setDue]
  · rfl

theorem roles_finishReports (s : State) : s.finishReports.roles = s.roles := roles_foldl roles_takeDue _ s

theorem roles_takeAfterReports (s : State) (e : Event) : (s.takeAfterReports e).roles = s.roles := by
  unfold State.takeAfterReports
  split
  · rw [roles_takeDue, roles_finishReports]
  · rfl

theorem roles_close (s : State) : s.close.roles = s.roles := by
  have events : ∀ (l : List Event) d, (l.foldl State.takeEvent ((s.finishReports.takeDue .second).setDue d)).roles = s.roles := fun l d => by
    rw [roles_foldl roles_takeEvent, roles_setDue, roles_takeDue, roles_finishReports]
  unfold State.close
  dsimp only
  split
  · rw [roles_admitWants, events]
  · exact events _ _

theorem roles_handUntilCalm (l : List Port) (s : State) : (s.handUntilCalm l).roles = s.roles :=
  roles_of_role (role_handUntilCalm l s)

theorem roles_takeReopening (s : State) (p : Port) : (s.takeReopening p).roles = s.roles := by
  have resumed : s.resumeReports.roles = s.roles := by
    unfold State.resumeReports
    repeat' split
    · rfl
    · rw [roles_handUntilCalm, roles_setDue]
    · rfl
  unfold State.takeReopening
  repeat' split
  · exact roles_takeDue s _
  · rw [roles_takeDue, resumed]
  · rfl

theorem roles_countSlot (s : State) (lines : SlotLines) : (s.countSlot lines).roles = s.roles :=
  (onlyIn_countSlot s lines).roles (by decide)

end Sys2Proof.Machine
end

section
/-! Meters, setups and tallies within their ranges: what each operation of the Storm Meter Array gives (R12, R21, R22, R33,
R37 to R39, R43, R44). -/

namespace Sys2Proof.Machine

/-! ### Setups as METER SET takes them (R43) -/

theorem clampInt_mem {lo hi : Int} (h : lo ≤ hi) (x : Int) : lo ≤ clampInt lo hi x ∧ clampInt lo hi x ≤ hi := by
  unfold clampInt
  split
  · exact ⟨le_rfl, h⟩
  · split <;> omega

theorem le_clampNat {lo hi : Nat} (h : lo ≤ hi) (x : Nat) : lo ≤ clampNat lo hi x := by
  unfold clampNat
  split
  · exact le_rfl
  · split <;> omega

theorem takeThresholds_inRange (t : ThresholdBlock) : (takeThresholds t).InRange := by
  obtain ⟨limit_pos, limit_le⟩ := clampInt_mem (show (1 : Int) ≤ 16320 by decide) t.limit.toInt
  obtain ⟨block_ge, block_le⟩ := clampInt_mem limit_le t.block.toInt
  obtain ⟨calm_ge, calm_le⟩ := clampInt_mem (show (-16320 : Int) ≤ clampInt 1 16320 t.limit.toInt - 1 by omega) t.calm.toInt
  obtain ⟨ceil_ge, ceil_le⟩ := clampInt_mem (show (0 : Int) ≤ 16320 by decide) t.ceil.toInt
  exact ⟨limit_pos, limit_le, block_ge, block_le, calm_ge, Int.lt_of_le_sub_one calm_le, ceil_ge, ceil_le⟩

theorem ClassSetup.InRange.thresholds {c : ClassSetup} (h : c.InRange) (role : Role) : (c.thresholds role).InRange := by
  obtain ⟨-, -, -, desk, trunk⟩ := h
  cases role with
  | off => exact desk
  | desk => exact desk
  | trunk => exact trunk

theorem ClassSetup.InRange.window {c : ClassSetup} (h : c.InRange) : c.window ∈ [4, 8, 16, 32, 64] := h.1

theorem ClassSetup.InRange.ceil_nonneg {c : ClassSetup} (h : c.InRange) (role : Role) : 0 ≤ (c.thresholds role).ceil := by
  obtain ⟨-, -, -, -, -, -, ceil, -⟩ := h.thresholds role
  exact ceil

theorem factoryMeters_inRange (k : TrafficClass) : (factoryMeters.get k).InRange := by
  unfold ClassSetup.InRange Thresholds.InRange
  cases k <;> decide

/-! ### One meter (R21) -/

theorem Meter.inRange_iff {c : ClassSetup} {role : Role} {m : Meter} : m.InRange c role ↔
    m.RingsInRange c ∧ m.excess = (m.level : Int) - (m.base : Int) ∧ m.stormRun ≤ 32 ∧ m.severeRun ≤ m.stormRun ∧
    m.priming ≤ c.primingLength ∧ (role ≠ .off → (m.base : Int) ≤ (c.thresholds role).ceil) ∧
    (role = .off → m = Meter.restartedWith c 0) := by
  constructor
  · rintro ⟨len1, bound1, s1, len2, bound2, s2, box, level, rest⟩
    exact ⟨⟨len1, bound1, s1, len2, bound2, s2, box, level⟩, rest⟩
  · rintro ⟨⟨len1, bound1, s1, len2, bound2, s2, box, level⟩, rest⟩
    exact ⟨len1, bound1, s1, len2, bound2, s2, box, level, rest⟩

theorem inRange_restartedWith {c : ClassSetup} {role : Role} {base : Nat}
    (within : role ≠ .off → (base : Int) ≤ (c.thresholds role).ceil) (off : role = .off → base = 0) :
    (Meter.restartedWith c base).InRange c role :=
  Meter.inRange_iff.2 ⟨rings_restartedWith c base, by simp [Meter.restartedWith], Nat.zero_le _, le_rfl, le_rfl, within,
    fun h => by rw [off h]⟩

/-- The baseline of an UNGUARDED port's meter is 0 (R35). -/
theorem Meter.InRange.base_of_off {c : ClassSetup} {role : Role} {m : Meter} (h : m.InRange c role) (off : role = .off) :
    m.base = 0 := by
  obtain ⟨-, -, -, -, -, -, cleared⟩ := Meter.inRange_iff.1 h
  rw [cleared off]
  rfl

theorem Meter.InRange.restart {c : ClassSetup} {role : Role} {m : Meter} (h : m.InRange c role) :
    (m.restart c).InRange c role := by
  obtain ⟨-, -, -, -, -, within, -⟩ := Meter.inRange_iff.1 h
  exact inRange_restartedWith within h.base_of_off

theorem clampBase_restart (c : ClassSetup) (ceil : Int) (m : Meter) :
    (m.restart c).clampBase ceil = Meter.restartedWith c (min m.base ceil.toNat) := by
  simp [Meter.clampBase, Meter.restart, Meter.withBase, Meter.restartedWith]

/-- A value clamped to a ceiling of 0 or more is within it. -/
theorem min_toNat_le {ceil : Int} (h : 0 ≤ ceil) (b : Nat) : ((min b ceil.toNat : Nat) : Int) ≤ ceil := by omega

theorem Meter.InRange.withBase {c : ClassSetup} {role : Role} {m : Meter} (h : m.InRange c role) (guarded : role ≠ .off)
    {b : Nat} (within : (b : Int) ≤ (c.thresholds role).ceil) : (m.withBase b).InRange c role := by
  obtain ⟨⟨len1, bound1, s1, len2, bound2, s2, box, level⟩, -, storm, severe, priming, -, -⟩ := Meter.inRange_iff.1 h
  exact Meter.inRange_iff.2 ⟨⟨len1, bound1, s1, len2, bound2, s2, box, level⟩, rfl, storm, severe, priming,
    fun _ => within, fun off => absurd off guarded⟩

theorem stepRun_le (cond : Bool) (run : Nat) : stepRun cond run ≤ 32 := by
  unfold stepRun; split
  · exact min_le_right _ _
  · exact Nat.zero_le _

/-- A severe run goes up with the storm run, since SEVERE holds only where STORM does (R28, R29). -/
theorem stepRun_mono {severe storm : Bool} {a b : Nat} (implies : severe = true → storm = true) (h : a ≤ b) :
    stepRun severe a ≤ stepRun storm b := by
  unfold stepRun
  split
  · rw [if_pos (implies ‹_›)]; omega
  · exact Nat.zero_le _

theorem Meter.InRange.step {c : ClassSetup} {role : Role} {m : Meter} (h : m.InRange c role) (setup : c.InRange)
    (guarded : role ≠ .off) {n : Nat} (count : n ≤ 255) : (m.step c (c.thresholds role) n).InRange c role := by
  obtain ⟨rings, -, -, severe, priming, within, -⟩ := Meter.inRange_iff.1 h
  obtain ⟨-, -, limit_le_block, -⟩ := setup.thresholds role
  have severe_storm : (m.step c (c.thresholds role) n).severe = true → (m.step c (c.thresholds role) n).storm = true := by
    simp only [Meter.step, Bool.and_eq_true, decide_eq_true_eq]
    exact fun ⟨primed, above⟩ => ⟨primed, limit_le_block.trans above⟩
  refine Meter.inRange_iff.2 ⟨rings.step setup.window _ count, ?_, stepRun_le _ _, stepRun_mono severe_storm severe,
    (Nat.sub_le _ _).trans priming, fun g => ?_, fun off => absurd off guarded⟩
  · rw [step_base, step_excess]
  · rw [step_base]; exact within g

theorem Meter.InRange.baselineStep {c : ClassSetup} {role : Role} {m : Meter} (h : m.InRange c role) (setup : c.InRange)
    (guarded : role ≠ .off) : (m.baselineStep c (c.thresholds role)).InRange c role := by
  unfold Meter.baselineStep
  split
  · refine h.withBase guarded ?_
    rw [nextBase_eq c.shift m.level m.base (setup.ceil_nonneg role)]
    exact min_le_right _ _
  · exact h

/-! ### Meters restarted under a role or a setup (R34, R35, R44) -/

/-- The baseline that a meter restarts with when its port takes a role: 0 for OFF, else clamped to the ceiling (R34, R35). -/
def baseForRole (c : ClassSetup) (role : Role) (base : Nat) : Nat :=
  if role = .off then 0 else min base (c.thresholds role).ceil.toNat

theorem inRange_baseForRole {c : ClassSetup} (setup : c.InRange) (role : Role) (base : Nat) :
    (Meter.restartedWith c (baseForRole c role base)).InRange c role :=
  inRange_restartedWith (fun guarded => by rw [baseForRole, if_neg guarded]; exact min_toNat_le (setup.ceil_nonneg role) _)
    fun off => if_pos off

/-- METER SET restarts a meter with its baseline clamped to the ceiling of a guarded port's role (R44). -/
theorem meterAfterSet_eq (c : ClassSetup) (role : Role) (m : Meter) : meterAfterSet c role m =
    Meter.restartedWith c (if role = .off then m.base else min m.base (c.thresholds role).ceil.toNat) := by
  cases role with
  | off => rfl
  | desk => exact clampBase_restart c _ m
  | trunk => exact clampBase_restart c _ m

theorem meterAfterSet_inRange {old c : ClassSetup} {role : Role} {m : Meter} (h : m.InRange old role) (setup : c.InRange) :
    (meterAfterSet c role m).InRange c role := by
  rw [meterAfterSet_eq]
  refine inRange_restartedWith (fun guarded => ?_) fun off => ?_
  · rw [if_neg guarded]; exact min_toNat_le (setup.ceil_nonneg role) _
  · rw [if_pos off]; exact h.base_of_off off

theorem PerClass.get_set {α : Type} (v : PerClass α) (k j : TrafficClass) (a : α) :
    (v.set k a).get j = if j = k then a else v.get j := by
  cases k <;> cases j <;> rfl

theorem portMeters_restartForRole_self (s : State) (p : Port) (role : Role) (k : TrafficClass) :
    ((s.restartForRole p role).portMeters p).get k = Meter.restartedWith (s.profile.meters.get k)
      (baseForRole (s.profile.meters.get k) role ((s.portMeters p).get k).base) := by
  rw [State.restartForRole, State.portMeters_setPortMeters_self, PerClass.get_build]
  cases role with
  | off => rfl
  | desk => exact clampBase_restart _ _ _
  | trunk => exact clampBase_restart _ _ _

theorem portMeters_restartForRole_of_ne (s : State) {p q : Port} (role : Role) (h : q ≠ p) :
    (s.restartForRole p role).portMeters q = s.portMeters q := State.portMeters_setPortMeters_of_ne s p q _ h.symm

theorem portMeters_applyMeterSet (s : State) (k : TrafficClass) (c : ClassSetup) (p : Port) :
    (s.applyMeterSet k c).portMeters p =
      (s.portMeters p).set k (meterAfterSet c (s.port p).role ((s.portMeters p).get k)) := by
  simp [State.applyMeterSet, State.portMeters, State.setMeters]

/-! ### Seeded baselines (R39) -/

/-- A meter of a named class at a named port takes the value, clamped to its ceiling. -/
def State.seeded (s : State) (value : Nat) (p : Port) (k : TrafficClass) : Meter :=
  ((s.portMeters p).get k).withBase (min value (s.ceiling p k).toNat)

/-- The baseline of one class of one port seeded. -/
def State.seedOne (value : Nat) (p : Port) (s : State) (k : TrafficClass) : State :=
  s.setPortMeters p ((s.portMeters p).set k (s.seeded value p k))

theorem get_seedOne (s : State) (value : Nat) (p q : Port) (k j : TrafficClass) :
    ((s.seedOne value p k).portMeters q).get j =
      if q = p ∧ j = k then s.seeded value q j else (s.portMeters q).get j := by
  rw [State.seedOne, State.portMeters_setPortMeters]
  by_cases hq : p = q
  · subst hq
    rw [if_pos rfl, PerClass.get_set]
    by_cases hj : j = k
    · subst hj; simp
    · simp [hj]
  · rw [if_neg hq, if_neg fun h => hq h.1.symm]

/-- Seeding a meter again gives what seeding it once gave. -/
theorem seeded_seedOne (s : State) (value : Nat) (p q : Port) (k j : TrafficClass) :
    (s.seedOne value p k).seeded value q j = s.seeded value q j := by
  have ceil : (s.seedOne value p k).ceiling q j = s.ceiling q j := rfl
  rw [State.seeded, get_seedOne, ceil]
  split <;> rfl

/-- The classes of one port seeded, one after the other. -/
theorem get_foldl_seedOne (value : Nat) (p q : Port) (j : TrafficClass) : ∀ (classes : List TrafficClass) (s : State),
    ((classes.foldl (State.seedOne value p) s).portMeters q).get j =
      if q = p ∧ j ∈ classes then s.seeded value q j else (s.portMeters q).get j
  | [], s => by simp
  | k :: classes, s => by
    rw [List.foldl_cons, get_foldl_seedOne value p q j classes, seeded_seedOne, get_seedOne]
    by_cases hq : q = p
    · by_cases hk : j = k <;> by_cases hj : j ∈ classes <;> simp [hq, hk, hj]
    · simp [hq]

theorem seeded_foldl_seedOne (value : Nat) (p q : Port) (j : TrafficClass) (classes : List TrafficClass) (s : State) :
    (classes.foldl (State.seedOne value p) s).seeded value q j = s.seeded value q j := by
  induction classes generalizing s with
  | nil => rfl
  | cons k classes ih => rw [List.foldl_cons, ih, seeded_seedOne]

/-- Every named meter is seeded and every other stands (R39). -/
theorem get_seedBaselines (value : Nat) (classes : List TrafficClass) (q : Port) (j : TrafficClass) :
    ∀ (ports : List Port) (s : State), ((s.seedBaselines ports classes value).portMeters q).get j =
      if q ∈ ports ∧ j ∈ classes then s.seeded value q j else (s.portMeters q).get j
  | [], s => by simp [State.seedBaselines]
  | p :: ports, s => by
    have rest := get_seedBaselines value classes q j ports (classes.foldl (State.seedOne value p) s)
    rw [seeded_foldl_seedOne, get_foldl_seedOne] at rest
    refine rest.trans ?_
    by_cases hp : q ∈ ports <;> by_cases hq : q = p <;> by_cases hj : j ∈ classes <;> simp [hp, hq, hj]

theorem onlyIn_seedBaselines (s : State) (ports : List Port) (classes : List TrafficClass) (value : Nat) :
    OnlyIn [.meters] s (s.seedBaselines ports classes value) :=
  OnlyIn.foldl (fun t p => OnlyIn.foldl (fun u _ => onlyIn_setPortMeters u p _) classes t) ports s

/-! ### Tallies (R12 to R14) -/

theorem zero_countsInRange : countsInRange (PerClass.same 0) := ⟨Nat.zero_le _, Nat.zero_le _, Nat.zero_le _⟩

theorem countsInRange.get {v : PerClass Nat} (h : countsInRange v) (k : TrafficClass) : v.get k ≤ 255 := by
  obtain ⟨bcast, mcast, flood⟩ := h
  cases k <;> assumption

theorem PortTally.start_inRange : PortTally.start.InRange := ⟨nofun, zero_countsInRange, Nat.zero_le _⟩

theorem PortTally.InRange.hold {t : PortTally} (h : t.InRange) (late : Bool) :
    countsInRange (t.hold late).counts ∧ (t.hold late).tally.InRange := by
  obtain ⟨-, last, held⟩ := h
  unfold PortTally.hold
  split
  · exact ⟨last, nofun, last, Nat.succ_le_of_lt ‹_›⟩
  · exact ⟨zero_countsInRange, nofun, zero_countsInRange, held⟩

theorem PortTally.InRange.consume {t : PortTally} (h : t.InRange) (slot : Byte) :
    countsInRange (t.consume slot).counts ∧ (t.consume slot).tally.InRange := by
  have pending := h.1
  unfold PortTally.consume
  split
  · exact h.hold false
  · split
    · exact ⟨pending _ ‹_›, nofun, pending _ ‹_›, Nat.zero_le _⟩
    · exact h.hold true

/-- The counts of a TALLY record are one byte each (R12, R182). -/
theorem parseRecord_inRange {b : List Byte} {r : SightingRecord} (h : parseRecord b = .good r) : r.InRange := by
  have byte : ∀ i, (byteAt b i).toNat ≤ 255 := fun i => Nat.le_of_lt_succ (byteAt b i).isLt
  unfold parseRecord at h
  dsimp only at h
  repeat' split at h
  all_goals cases h
  · exact ⟨byte 3, byte 4, byte 5⟩
  all_goals trivial

end Sys2Proof.Machine
end

section
/-! Every step keeps the meters in range: most operations leave what the invariant reads as it stands, and the few that
change it are taken one by one (R12, R21, R22, R23, R33 to R39, R44). -/

namespace Sys2Proof.Machine

/-! ### What the invariant reads -/

/-- What `MetersInRange` reads of a state. -/
structure MeterView where
  setups  : PerClass ClassSetup
  meters  : Vector (PerClass Meter) 40
  tallies : Vector PortTally 40
  fifo    : List SightingRecord
  roles   : Vector Role 40

/-- What a state shows of its meters and of what feeds them. -/
def State.meterView (s : State) : MeterView := ⟨s.profile.meters, s.meters, s.tallies, s.receiver.fifo, s.roles⟩

/-- A change from `s` to `t` keeps the meters in range. -/
structure MetersKept (s t : State) : Prop where
  inRange : MetersInRange s → MetersInRange t

theorem MetersKept.refl (s : State) : MetersKept s s := ⟨id⟩

theorem MetersKept.trans {s t u : State} (h : MetersKept s t) (k : MetersKept t u) : MetersKept s u :=
  ⟨k.inRange ∘ h.inRange⟩

theorem MetersKept.foldl {α : Type} {f : State → α → State} (h : ∀ s a, MetersKept s (f s a)) :
    ∀ (l : List α) (s : State), MetersKept s (l.foldl f s)
  | [], s => .refl s
  | a :: l, s => (h s a).trans (MetersKept.foldl h l (f s a))

theorem MetersKept.ite {s t u : State} {c : Prop} [Decidable c] (h : MetersKept s t) (k : MetersKept s u) :
    MetersKept s (if c then t else u) := by
  split
  · exact h
  · exact k

theorem State.tally_congr {s t : State} (h : t.tallies = s.tallies) (p : Port) : t.tally p = s.tally p := by
  simp [State.tally, h]

theorem MetersKept.of_view {s t : State} (h : t.meterView = s.meterView) : MetersKept s t := by
  unfold State.meterView at h
  obtain ⟨setups, meters, tallies, fifo, roles⟩ := MeterView.mk.inj h
  have meters := State.portMeters_congr meters
  have tally := State.tally_congr tallies
  have role := role_of_roles roles
  refine ⟨fun ⟨setup, meter, counts, records⟩ => ⟨fun k => ?_, fun p k => ?_, fun p => ?_, ?_⟩⟩
  · rw [setups]; exact setup k
  · rw [setups, meters, role]; exact meter p k
  · rw [tally]; exact counts p
  · rw [fifo]; exact records

/-- A change within a frame that spares the meters and the tallies, and keeps the FIFO and the roles. -/
theorem OnlyIn.kept_of_fifo {parts : List Part} {s t : State} (frame : OnlyIn parts s t)
    (out : ∀ x ∈ [Part.profile, .meters, .tallies], x ∉ parts) (fifo : t.receiver.fifo = s.receiver.fifo)
    (roles : t.roles = s.roles) : MetersKept s t := by
  have profile : t.profile = s.profile := frame .profile (out _ (by simp))
  have meters : t.meters = s.meters := frame .meters (out _ (by simp))
  have tallies : t.tallies = s.tallies := frame .tallies (out _ (by simp))
  exact .of_view (by rw [State.meterView, profile, meters, tallies, fifo, roles]; rfl)

/-- A change within a frame that spares the meters, the tallies and the receiver, and keeps the roles. -/
theorem OnlyIn.kept {parts : List Part} {s t : State} (frame : OnlyIn parts s t)
    (out : ∀ x ∈ [Part.profile, .meters, .tallies, .receiver], x ∉ parts) (roles : t.roles = s.roles) : MetersKept s t :=
  frame.kept_of_fifo (fun x hx => out x (List.mem_append_left [Part.receiver] hx : x ∈ [Part.profile, .meters, .tallies] ++ _))
    (congrArg Receiver.fifo (frame .receiver (out _ (by simp)))) roles

theorem kept_setReceiver (s : State) {v : Receiver} (fifo : v.fifo = s.receiver.fifo) : MetersKept s (s.setReceiver v) :=
  (onlyIn_setReceiver s v).kept_of_fifo (by decide) fifo rfl

theorem kept_setControl (s : State) (v : Control) : MetersKept s (s.setControl v) :=
  (onlyIn_setControl s v).kept (by decide) rfl

theorem kept_setGrace (s : State) (v : Nat) : MetersKept s (s.setGrace v) := (onlyIn_setGrace s v).kept (by decide) rfl

theorem kept_setStations (s : State) (v : List StationEntry) : MetersKept s (s.setStations v) :=
  (onlyIn_setStations s v).kept (by decide) rfl

theorem kept_setSweep (s : State) (v : SweepScheduler) : MetersKept s (s.setSweep v) :=
  (onlyIn_setSweep s v).kept (by decide) rfl

theorem kept_setProbes (s : State) (v : ProbeEngine) : MetersKept s (s.setProbes v) :=
  (onlyIn_setProbes s v).kept (by decide) rfl

theorem kept_setEvidenceOf (s : State) (p : Port) (v : EvidenceRecord) : MetersKept s (s.setEvidenceOf p v) :=
  (onlyIn_setEvidenceOf s p v).kept (by decide) rfl

theorem kept_setPanel (s : State) (v : Panel) : MetersKept s (s.setPanel v) :=
  (onlyIn_setPanel s v).kept (by decide) rfl

theorem kept_setMgmt (s : State) (v : Mgmt) : MetersKept s (s.setMgmt v) := (onlyIn_setMgmt s v).kept (by decide) rfl

theorem kept_setDue (s : State) (v : List Event) : MetersKept s (s.setDue v) := (onlyIn_setDue s v).kept (by decide) rfl

theorem kept_raise (s : State) (n : Notice) : MetersKept s (s.raise n) := kept_setMgmt s _

theorem Settles.fifo {s t : State} (h : Settles s t) : t.receiver.fifo = s.receiver.fifo := congrArg FabricLane.fifo h.2

/-! ### Restarts (R33, R178, R179) -/

theorem start_metersInRange (straps : BitVec 2) (roles : Vector Role 40) (profile : Profile) (pending : List Instr)
    (setups : ∀ k, (profile.meters.get k).InRange) : MetersInRange (State.start straps roles profile pending) := by
  have meters : ∀ p k, ((State.start straps roles profile pending).portMeters p).get k =
      Meter.restartedWith (profile.meters.get k) 0 := fun p k => by
    cases k <;> simp [State.start, State.portMeters, startMeters, PerClass.get]
  refine ⟨setups, fun p k => ?_, fun p => ?_, nofun⟩
  · rw [meters]
    exact inRange_restartedWith (fun _ => (setups k).ceil_nonneg _) fun _ => rfl
  · have tally : (State.start straps roles profile pending).tally p = PortTally.start := by simp [State.start, State.tally]
    rw [tally]
    exact PortTally.start_inRange

theorem restartWith_metersInRange (s : State) (profile : Profile) (roles : Vector Role 40)
    (setups : ∀ k, (profile.meters.get k).InRange) : MetersInRange (s.restartWith profile roles) :=
  MetersKept.inRange (.trans (kept_setMgmt _ _) (kept_setControl _ _)) (start_metersInRange s.mgmt.straps roles profile s.pending setups)

/-! ### Links and roles (R33 to R35, R91, R110) -/

theorem kept_restartMeters (s : State) (p : Port) : MetersKept s (s.restartMeters p) := by
  refine ⟨fun ⟨setup, meter, rest⟩ => ⟨setup, fun q k => ?_, rest⟩⟩
  rw [State.restartMeters, State.portMeters_setPortMeters]
  split
  · subst_vars
    rw [PerClass.get_build]
    exact (meter _ k).restart
  · exact meter q k

theorem kept_takeLink (s : State) (p : Port) (up : Bool) : MetersKept s (s.takeLink p up) := by
  have link : MetersKept s (s.setLink p up) :=
    (onlyIn_setPort s p _).kept (by decide) (roles_setPort s p { s.port p with linkUp := up } rfl)
  have linked : MetersKept s (s.linkUp p) := by
    have primed : MetersKept s ((s.enter p .priming).setPort p
        { (s.enter p .priming).port p with linkUp := true, linkup := .unset }) :=
      ((onlyIn_setPort _ p _).step (by decide) (onlyIn_enter s p .priming)).kept (by decide) (by simp)
    exact (primed.trans (kept_restartMeters _ p)).trans ((onlyIn_setWant _ p .linkup).kept (by decide) (roles_setWant _ p _))
  have down : MetersKept s (if up then s else s.linkDown p) :=
    .ite (.refl s) ((onlyIn_linkDown s p).kept (by decide) (roles_linkDown s p))
  unfold State.takeLink
  split
  case h_1 => exact link
  case h_2 => exact link
  case h_3 => exact .ite linked (.refl s)
  all_goals exact down

/-- A port that takes a role has its meters restarted under it, and the others keep their roles and meters. -/
theorem metersInRange_restartForRole {s u : State} {p : Port} {role : Role} (h : MetersInRange s)
    (frame : OnlyIn [.ports, .probes, .control, .trips] s u) (self : (u.port p).role = role)
    (others : ∀ q, q ≠ p → (u.port q).role = (s.port q).role) : MetersInRange (u.restartForRole p role) := by
  have profile : u.profile = s.profile := frame .profile (by decide)
  have meters := State.portMeters_congr (frame .meters (by decide))
  have tally := State.tally_congr (frame .tallies (by decide))
  have receiver : u.receiver = s.receiver := frame .receiver (by decide)
  obtain ⟨setup, meter, counts, records⟩ := h
  refine ⟨fun k => ?_, fun q k => ?_, fun q => ?_, ?_⟩
  · rw [← profile] at setup; exact setup k
  · show Meter.InRange (u.profile.meters.get k) (u.port q).role _
    by_cases hq : q = p
    · subst hq
      rw [portMeters_restartForRole_self, self, profile]
      exact inRange_baseForRole (setup k) role _
    · rw [portMeters_restartForRole_of_ne u role hq, meters, others q hq, profile]
      exact meter q k
  · have same : (u.restartForRole p role).tally q = s.tally q := tally q
    rw [same]; exact counts q
  · have same : (u.restartForRole p role).receiver = s.receiver := receiver
    rw [same]; exact records

theorem kept_changeRole (s : State) (p : Port) (role : Role) : MetersKept s (s.changeRole p role) := by
  refine ⟨fun h => ?_⟩
  have concluded : OnlyIn [.ports, .probes, .mgmt, .sweep, .control] s
      (((s.setPort p { s.port p with strikes := 0, linkup := .unset }).voidWants p).removeQueued p) :=
    (onlyIn_removeQueued _ p).step (by decide)
      ((onlyIn_voidWants _ p).step (by decide) ((onlyIn_setPort s p _).mono (by decide)))
  have voided := (concluded.kept (by decide) (by simp)).inRange h
  unfold State.changeRole
  dsimp only
  generalize ((s.setPort p { s.port p with strikes := 0, linkup := .unset }).voidWants p).removeQueued p = u at voided ⊢
  generalize stateForRole role ((u.setPort p { u.port p with role := role }).port p).linkUp = new
  have frame : OnlyIn [.ports, .probes, .control, .trips] u ((u.setPort p { u.port p with role := role }).enter p new) :=
    (onlyIn_enter _ p new).step (by decide) ((onlyIn_setPort u p _).mono (by decide))
  have restarted := metersInRange_restartForRole (p := p) (role := role) voided frame
    (by rw [role_enter, State.port_setPort_self]) fun q hq => by rw [role_enter, State.port_setPort_of_ne _ _ _ _ hq.symm]
  have forgot := (onlyIn_forgetReport _ p (s.port p).role role).kept (by decide)
    ((onlyIn_forgetReport _ p (s.port p).role role).roles (by decide)) |>.inRange restarted
  split
  · exact (onlyIn_setWant _ p .linkup).kept (by decide) (roles_setWant _ p _) |>.inRange forgot
  · exact forgot

/-! ### The Array's work at a slot expiry (R13, R23, R36) -/

/-- The cells of a port after the Array's work are in range. -/
theorem workedCells_inRange {s : State} (h : MetersInRange s) (slot : Byte) (baseline : Bool) (p : Port) :
    (s.workedCells slot baseline p).tally.InRange ∧
    ∀ k, ((s.workedCells slot baseline p).meters.get k).InRange (s.profile.meters.get k) (s.port p).role := by
  obtain ⟨setup, meter, counts, -⟩ := h
  obtain ⟨used, left⟩ := (counts p).consume slot
  unfold State.workedCells
  split
  · have guarded : (s.port p).role ≠ .off := bne_iff_ne.1 ‹_›
    have stepped : ∀ k, ((s.steppedMeters p ((s.tally p).consume slot).counts).get k).InRange (s.profile.meters.get k)
        (s.port p).role := fun k => by
      rw [State.steppedMeters, PerClass.get_build]
      exact (meter p k).step (setup k) guarded (used.get k)
    refine ⟨left, fun k => ?_⟩
    dsimp only
    unfold State.baselinedMeters
    split
    · rw [PerClass.get_build]
      exact (stepped k).baselineStep (setup k) guarded
    · exact stepped k
  · exact ⟨PortTally.start_inRange, meter p⟩

theorem kept_stepPort (slot : Byte) (baseline : Bool) (s : State) (p : Port) :
    MetersKept s (State.stepPort slot baseline s p) := by
  refine ⟨fun h => ?_⟩
  have frame := onlyIn_stepPort slot baseline s p
  have profile : (State.stepPort slot baseline s p).profile = s.profile := frame .profile (by decide)
  have receiver : (State.stepPort slot baseline s p).receiver = s.receiver := frame .receiver (by decide)
  have port := State.port_congr (frame .ports (by decide))
  obtain ⟨tally_self, meters_self, -⟩ := cells_eq (cells_stepPort_self slot baseline s p)
  have others := fun q (hq : p ≠ q) => cells_eq (cells_stepPort_of_ne slot baseline s hq)
  obtain ⟨tally_worked, meters_worked⟩ := workedCells_inRange h slot baseline p
  obtain ⟨setup, meter, counts, records⟩ := h
  refine ⟨fun k => ?_, fun q k => ?_, fun q => ?_, ?_⟩
  · rw [profile]; exact setup k
  · rw [profile, port]
    by_cases hq : p = q
    · subst hq; rw [meters_self]; exact meters_worked k
    · rw [(others q hq).2.1]; exact meter q k
  · by_cases hq : p = q
    · subst hq; rw [tally_self]; exact tally_worked
    · rw [(others q hq).1]; exact counts q
  · rw [receiver]; exact records

theorem kept_stepPorts (s : State) : MetersKept s s.stepPorts := .foldl (kept_stepPort _ _) _ s

theorem kept_meterWork (s : State) (first : Bool) : MetersKept s (s.meterWork first) := by
  have reports : ∀ (l : List Port) (t : State), MetersKept t (l.foldl State.handReport t) := fun l t =>
    (onlyIn_handReports l t).kept (by decide) (roles_foldl roles_handReport l t)
  exact .ite (.refl s) ((kept_stepPorts s).trans (reports _ _))

/-! ### The slot expiry -/

theorem kept_takeDue (s : State) (e : Event) : MetersKept s (s.takeDue e) :=
  (onlyIn_takeDue s e).kept_of_fifo (by decide) (settles_takeDue s e).fifo (roles_takeDue s e)

theorem kept_takeAfterReports (s : State) (e : Event) : MetersKept s (s.takeAfterReports e) :=
  (onlyIn_takeAfterReports s e).kept_of_fifo (by decide) (settles_takeAfterReports s e).fifo (roles_takeAfterReports s e)

theorem kept_close (s : State) : MetersKept s s.close :=
  (onlyIn_close s).kept_of_fifo (by decide) (settles_close s).fifo (roles_close s)

theorem kept_takeReopening (s : State) (p : Port) : MetersKept s (s.takeReopening p) := by
  have resumed : MetersKept s s.resumeReports := by
    unfold State.resumeReports
    repeat' split
    · exact .refl s
    · exact (kept_setDue s _).trans
        ((onlyIn_handUntilCalm _ _).kept (by decide) (roles_handUntilCalm _ _))
    · exact .refl s
  exact .ite (kept_takeDue s _) (.ite (resumed.trans (kept_takeDue _ _)) (.refl s))

theorem kept_countSlot (s : State) (lines : SlotLines) : MetersKept s (s.countSlot lines) :=
  (onlyIn_countSlot s lines).kept_of_fifo (by decide) (congrArg FabricLane.fifo (lane_countSlot s lines))
    (roles_countSlot s lines)

theorem kept_admission (s : State) : MetersKept s s.admission :=
  (MetersKept.foldl kept_takeDue _ s).trans ((onlyIn_admit _).kept (by decide) (roles_admitWants _))

theorem kept_slotWorks (s : State) (first : Bool) (order : ExpiryOrder) : MetersKept s (s.slotWorks first order) := by
  have events : ∀ (t : State) place, MetersKept t (t.eventsAt order place) := fun t _ => .ite (kept_close t) (.refl t)
  have meters := fun t => kept_meterWork t first
  unfold State.slotWorks
  dsimp only
  split
  · exact ((events s _).trans (kept_admission _)).trans ((events _ _).trans (meters _))
  · exact ((events s _).trans (meters _)).trans ((events _ _).trans (kept_admission _))

theorem kept_leaveWorks (s : State) (first : Bool) : MetersKept s (s.leaveWorks first) := by
  have handed : MetersKept s (s.stepPorts.handUntilCalm allPorts) :=
    (kept_stepPorts s).trans ((onlyIn_handUntilCalm _ _).kept (by decide) (roles_handUntilCalm _ _))
  exact (MetersKept.ite (c := first = true) (.refl s) handed).trans (kept_setDue _ _)

theorem kept_slotExpiry (s : State) (lines : SlotLines) (order : ExpiryOrder) : MetersKept s (s.slotExpiry lines order) := by
  have counted := (kept_close s).trans (kept_countSlot s.close lines)
  exact .ite (counted.trans (kept_leaveWorks _ _)) (counted.trans ((kept_slotWorks _ _ order).trans (kept_close _)))

/-! ### The fabric link (R4 to R19) -/

theorem kept_offerRecord (s : State) {r : SightingRecord} (range : r.InRange) : MetersKept s (s.offerRecord r) := by
  unfold State.offerRecord
  split
  · refine ⟨fun ⟨setup, meter, counts, records⟩ => ⟨setup, meter, counts, fun x hx => ?_⟩⟩
    obtain old | new := List.mem_append.1 hx
    · exact records x old
    · exact (List.mem_singleton.1 new) ▸ range
  · exact kept_setMgmt s _

theorem kept_receiveRecord (s : State) (bytes : List Byte) (extra : Nat) :
    MetersKept s (s.receiveRecord bytes extra) := by
  have lost : MetersKept s s.loseRecord := kept_setMgmt s _
  have synced : MetersKept s (s.setReceiver { s.receiver with synced := true, huntSlots := 0, reported := false }) :=
    kept_setReceiver s rfl
  have unsynced : MetersKept s (s.setReceiver { s.receiver with synced := false }) := kept_setReceiver s rfl
  have resynced : MetersKept s s.resync := .ite (synced.trans (kept_raise _ _)) synced
  have hunts : MetersKept s s.enterHunt := unsynced.trans (kept_setMgmt _ _)
  have taken : MetersKept s (s.takeGoodRecord (parseRecord bytes)) := by
    unfold State.takeGoodRecord
    split
    · split
      · exact .refl s
      · exact kept_offerRecord s (parseRecord_inRange ‹_›)
      · exact lost
    · split
      · exact resynced
      · exact lost
      · exact lost
  exact .ite taken (.ite hunts lost)

theorem kept_popFifo {s : State} {r : SightingRecord} {rest : List SightingRecord} (head : s.receiver.fifo = r :: rest) :
    MetersKept s (s.popFifo rest) := ⟨fun ⟨setup, meter, counts, records⟩ =>
  ⟨setup, meter, counts, fun x hx => records x (head ▸ List.mem_cons_of_mem r hx)⟩⟩

theorem kept_dispatchTally (s : State) : MetersKept s s.dispatchTally := by
  unfold State.dispatchTally
  split
  · rename_i p slot new rest head
    refine ⟨fun h => ?_⟩
    have new_range : countsInRange new := h.2.2.2 (.tally p slot new) (head ▸ List.mem_cons_self)
    obtain ⟨setup, meter, counts, records⟩ := (kept_popFifo head).inRange h
    refine ⟨setup, meter, fun q => ?_, records⟩
    rw [State.tally_setTally]
    split
    · obtain ⟨-, last, held⟩ := counts p
      exact ⟨fun x hx => Option.some.inj hx ▸ new_range, last, held⟩
    · exact counts q
  · exact .refl s

theorem kept_dispatchSample (s : State) : MetersKept s s.dispatchSample := by
  unfold State.dispatchSample
  split
  · exact (kept_popFifo ‹_›).trans ((onlyIn_learn _ _ _).kept (by decide) (roles_learn _ _ _))
  · exact .refl s

theorem kept_dispatchProbe (s : State) : MetersKept s s.dispatchProbe := by
  unfold State.dispatchProbe
  split
  · exact (kept_popFifo ‹_›).trans ((onlyIn_takeReturn _ _ _ _ _).kept (by decide) (roles_takeReturn _ _ _ _ _))
  · exact .refl s

theorem kept_dispatchLink (s : State) : MetersKept s s.dispatchLink := by
  unfold State.dispatchLink
  split
  · exact (kept_popFifo ‹_›).trans (kept_takeLink _ _ _)
  · exact .refl s

theorem kept_grantGate (s : State) : MetersKept s s.grantGate := by
  unfold State.grantGate
  repeat' split
  · exact kept_setControl s _
  all_goals exact .refl s

theorem kept_grantEmit (s : State) : MetersKept s s.grantEmit := by
  unfold State.grantEmit
  repeat' split
  · exact ((kept_setControl s _).trans (kept_setControl _ _)).trans (kept_setProbes _ _)
  all_goals exact .refl s

/-! ### Requests -/

theorem kept_applyProfile (s : State) (new : Profile) (roles : Vector Role 40) (same : new.meters = s.profile.meters) :
    MetersKept s (s.applyProfile new roles) := by
  have set : MetersKept s (s.setProfile new) := .of_view (by
    simp only [State.meterView, State.setProfile_profile, same]
    rfl)
  have role : ∀ (t : State) p, MetersKept t (t.applyRole roles p) := fun t p => .ite (.refl t) (kept_changeRole t p _)
  have lowered : ∀ t : State, MetersKept t t.lowerStrikes := fun t =>
    (onlyIn_setPorts t _).kept (by decide) (roles_of_role fun q => by simp [State.port, State.setPorts])
  have moved : ∀ (t : State) old, MetersKept t (t.roomChanged old) := fun t old =>
    (onlyIn_roomChanged t old).kept (by decide) (roles_roomChanged t old)
  have timer : ∀ t : State, MetersKept t (t.setSweep { t.sweep with timer := new.sweepPeriod }) := fun t =>
    kept_setSweep t _
  have roled := set.trans (MetersKept.foldl role allPorts _)
  have strikes := roled.trans (.ite (c := new.strikeLimit < s.profile.strikeLimit) (lowered _) (.refl _))
  have room := strikes.trans (.ite (c := new.roomId = s.profile.roomId) (.refl _) (moved _ s.profile.roomId))
  have timed := room.trans (.ite (c := new.sweepPeriod = s.profile.sweepPeriod) (.refl _) (timer _))
  exact timed.trans (.ite (c := new.buzzTime = 0) (kept_setPanel _ _) (.refl _))

theorem kept_reqProfileSet (s : State) (b : ProfileBlock) : MetersKept s (s.reqProfileSet b).1 := by
  unfold State.reqProfileSet
  split
  · exact kept_applyProfile s _ _ rfl
  · exact .refl s

theorem kept_applyMeterSet (s : State) (k : TrafficClass) {c : ClassSetup} (range : c.InRange) :
    MetersKept s (s.applyMeterSet k c) := by
  have new : ∀ j, (s.applyMeterSet k c).profile.meters.get j = if j = k then c else s.profile.meters.get j := fun j =>
    PerClass.get_set s.profile.meters k j c
  have frame : OnlyIn [.profile, .meters] s (s.applyMeterSet k c) :=
    (onlyIn_setMeters _ _).step (by decide) ((onlyIn_setProfile s _).mono (by decide))
  have port := State.port_congr (frame .ports (by decide))
  have tally := State.tally_congr (frame .tallies (by decide))
  have receiver : (s.applyMeterSet k c).receiver = s.receiver := frame .receiver (by decide)
  refine ⟨fun ⟨setup, meter, counts, records⟩ => ⟨fun j => ?_, fun p j => ?_, fun p => ?_, ?_⟩⟩
  · rw [new]; split
    · exact range
    · exact setup j
  · rw [new, port, portMeters_applyMeterSet, PerClass.get_set]
    split
    · exact meterAfterSet_inRange (meter p k) range
    · exact meter p j
  · rw [tally]; exact counts p
  · rw [receiver]; exact records

/-- The setup that METER SET takes is in range (R43). -/
theorem takenSetup_inRange {b : MeterBlock} {w : Nat} (window : windowOf b.window = some w) (shape : Shape) :
    ({ window := w, shape := shape, shift := clampNat 1 8 b.shift.toNat,
       desk := takeThresholds b.desk, trunk := takeThresholds b.trunk } : ClassSetup).InRange := by
  refine ⟨?_, le_clampNat (by decide) _, clampNat_le (by decide), takeThresholds_inRange _, takeThresholds_inRange _⟩
  unfold windowOf at window
  split at window
  · exact Option.some.inj window ▸ ‹_›
  · cases window

theorem kept_reqMeterSet (s : State) (b : MeterBlock) : MetersKept s (s.reqMeterSet b).1 := by
  unfold State.reqMeterSet
  split
  · exact .refl s
  · split
    · exact kept_applyMeterSet s _ (takenSetup_inRange ‹_› _)
    · exact .refl s

theorem kept_seedBaselines (s : State) {ports : List Port} (guarded : ∀ p ∈ ports, (s.port p).role ≠ .off)
    (classes : List TrafficClass) (value : Nat) : MetersKept s (s.seedBaselines ports classes value) := by
  refine ⟨fun h => ?_⟩
  have frame := onlyIn_seedBaselines s ports classes value
  have profile : (s.seedBaselines ports classes value).profile = s.profile := frame .profile (by decide)
  have port := State.port_congr (frame .ports (by decide))
  have tally := State.tally_congr (frame .tallies (by decide))
  have receiver : (s.seedBaselines ports classes value).receiver = s.receiver := frame .receiver (by decide)
  obtain ⟨setup, meter, counts, records⟩ := h
  refine ⟨fun k => ?_, fun p k => ?_, fun p => ?_, ?_⟩
  · rw [profile]; exact setup k
  · rw [profile, port, get_seedBaselines]
    split
    · rename_i named
      exact (meter p k).withBase (guarded p named.1) (min_toNat_le ((setup k).ceil_nonneg _) _)
    · exact meter p k
  · rw [tally]; exact counts p
  · rw [receiver]; exact records

theorem kept_reqBaselineSet (s : State) (port cls : Byte) (value : Half) :
    MetersKept s (s.reqBaselineSet port cls value).1 := by
  unfold State.reqBaselineSet
  split
  · exact .refl s
  · exact .refl s
  · dsimp only
    split
    · exact .refl s
    · exact kept_seedBaselines s (fun p hp => bne_iff_ne.1 (List.mem_filter.1 hp).2) _ _

theorem kept_reqStatus (s : State) (option : Byte) : MetersKept s (s.reqStatus option).1 := by
  unfold State.reqStatus
  split
  · exact .refl s
  · split
    · exact kept_setMgmt s _
    · exact .refl s

theorem kept_reqMeterGet (s : State) (cls : Byte) : MetersKept s (s.reqMeterGet cls).1 := by
  unfold State.reqMeterGet; split <;> exact .refl s

theorem kept_reqGrace (s : State) (d : Half) : MetersKept s (s.reqGrace d).1 := by
  unfold State.reqGrace
  dsimp only
  repeat' split
  · exact (kept_setGrace s 0).trans (kept_raise _ _)
  · exact .refl s
  · exact kept_setGrace s _
  · exact kept_setGrace s _

theorem kept_reqPortGet (s : State) (port : Byte) : MetersKept s (s.reqPortGet port).1 := by
  unfold State.reqPortGet; split <;> exact .refl s

theorem kept_reqPortRole (s : State) (port role : Byte) : MetersKept s (s.reqPortRole port role).1 := by
  unfold State.reqPortRole
  split
  · exact .refl s
  · exact .refl s
  · exact .ite (.refl s) (kept_changeRole s _ _)

theorem kept_reqBlock (s : State) (port : Byte) : MetersKept s (s.reqBlock port).1 := by
  have held : ∀ p, MetersKept s (s.hold p) := fun p =>
    (onlyIn_trip s p .host .held none none).kept (by decide) (roles_trip s p _ _ _ _)
  unfold State.reqBlock
  split
  · exact .refl s
  · split
    · exact .refl s
    · exact .refl s
    · exact held _

theorem kept_reqRelease (s : State) (port : Byte) : MetersKept s (s.reqRelease port).1 := by
  unfold State.reqRelease
  split
  · exact .refl s
  · split
    · exact (onlyIn_release s _).kept (by decide) (roles_release s _)
    · exact .refl s

theorem kept_roomRelease (s : State) : MetersKept s s.roomRelease :=
  (onlyIn_roomRelease s).kept (by decide) (roles_roomRelease s)

theorem kept_reqCheck (s : State) (tag port : Byte) : MetersKept s (s.reqCheck tag port).1 := by
  have set : ∀ p, MetersKept s (s.setWant p (.host tag)) := fun p =>
    (onlyIn_setWant s p _).kept (by decide) (roles_setWant s p _)
  unfold State.reqCheck
  repeat' split
  · exact .refl s
  · exact .refl s
  · exact .refl s
  · exact set _
  · exact set _
  · exact .refl s

theorem kept_endSweep (s : State) (r : SweepRecord) (e : SweepEnd) : MetersKept s (s.endSweep r e) :=
  (onlyIn_endSweep s r e).kept (by decide) (by simp [State.endSweep])

theorem kept_reqSweep (s : State) (tag first last : Byte) : MetersKept s (s.reqSweep tag first last).1 := by
  unfold State.reqSweep
  repeat' split
  · exact .refl s
  · exact kept_setSweep s _
  · exact .refl s
  · exact (kept_endSweep s _ _).trans (kept_setSweep _ _)
  · exact .refl s

theorem kept_reqAbort (s : State) : MetersKept s s.reqAbort.1 := by
  unfold State.reqAbort
  split
  · exact .refl s
  · exact kept_endSweep s _ _

theorem kept_reqEvidenceGet (s : State) (port : Byte) : MetersKept s (s.reqEvidenceGet port).1 := by
  unfold State.reqEvidenceGet; split <;> exact .refl s

theorem kept_reqEvidenceClear (s : State) (port : Byte) : MetersKept s (s.reqEvidenceClear port).1 := by
  unfold State.reqEvidenceClear
  split
  · exact .refl s
  · exact .foldl (fun t p => kept_setEvidenceOf t p _) _ s

theorem kept_reqStationFind (s : State) (a : Address) : MetersKept s (s.reqStationFind a).1 := by
  unfold State.reqStationFind; split <;> exact .refl s

theorem kept_reqStationPin (s : State) (a : Address) (port : Byte) : MetersKept s (s.reqStationPin a port).1 := by
  unfold State.reqStationPin
  split
  · exact .refl s
  · split
    · exact kept_setStations s _
    · exact .refl s

theorem kept_reqStationUnpin (s : State) (a : Address) : MetersKept s (s.reqStationUnpin a).1 := by
  unfold State.reqStationUnpin
  split
  · exact .refl s
  · exact .ite (kept_setStations s _) (.refl s)

theorem kept_reqStationFlush (s : State) (port : Byte) : MetersKept s (s.reqStationFlush port).1 := by
  unfold State.reqStationFlush
  split
  · exact .refl s
  · exact kept_setStations s _

theorem kept_reqPanelSet (s : State) (mask : BitVec 80) (value : Byte) : MetersKept s (s.reqPanelSet mask value).1 := by
  unfold State.reqPanelSet
  split
  · exact .refl s
  · exact kept_setPanel s _

theorem kept_reqNoticeMask (s : State) (mask : Half) : MetersKept s (s.reqNoticeMask mask).1 := by
  unfold State.reqNoticeMask
  split
  · exact kept_setMgmt s _
  · exact .refl s

theorem kept_reqRestart (s : State) (mode : Byte) : MetersKept s (s.reqRestart mode).1 := by
  unfold State.reqRestart
  split
  · exact ⟨fun ⟨setups, _⟩ => restartWith_metersInRange s _ _ setups⟩
  · split
    · exact ⟨fun _ => restartWith_metersInRange s _ _ factoryMeters_inRange⟩
    · exact .refl s

theorem kept_serve (s : State) (f : Frame) : MetersKept s (s.serve f).1 := by
  unfold State.serve
  dsimp only
  split
  · exact kept_reqStatus s _
  · exact .refl s
  · exact kept_reqProfileSet s _
  · exact kept_reqMeterGet s _
  · exact kept_reqMeterSet s _
  · exact kept_reqBaselineSet s _ _ _
  · exact kept_reqGrace s _
  · exact kept_reqPortGet s _
  · exact kept_reqPortRole s _ _
  · exact kept_reqBlock s _
  · exact kept_reqRelease s _
  · exact kept_roomRelease s
  · exact .refl s
  · exact kept_reqCheck s _ _
  · exact kept_reqSweep s _ _ _
  · exact kept_reqAbort s
  · exact kept_reqEvidenceGet s _
  · exact kept_reqEvidenceClear s _
  · exact kept_reqStationFind s _
  · exact kept_reqStationPin s _ _
  · exact kept_reqStationUnpin s _
  · exact kept_reqStationFlush s _
  · exact kept_reqPanelSet s _ _
  · exact kept_setPanel s _
  · exact kept_reqNoticeMask s _
  · exact kept_reqRestart s _
  · exact .refl s

theorem kept_fill (a : Answer) (kind tag : Byte) (flush : Bool) : MetersKept a.1 (a.fill kind tag flush) :=
  kept_setMgmt a.1 _

theorem kept_takeRequest (s : State) : MetersKept s s.takeRequest := by
  have answered : ∀ (t : State) (f : Frame), MetersKept t (t.answerFrame f) := fun t f => by
    unfold State.answerFrame
    repeat' split
    · exact kept_fill (t.refuse stBadKind) _ _ _
    · exact (kept_serve t f).trans (kept_fill _ _ _ _)
    · exact kept_fill (t.refuse stBadLength) _ _ _
  unfold State.takeRequest
  split
  · exact (kept_setMgmt s _).trans (answered _ _)
  · exact .refl s

theorem kept_closed_request (s : State) (kind tag : Byte) (flush : Bool) {f : State → Answer}
    (h : ∀ t, MetersKept t (f t).1) : MetersKept s (s.close.request kind tag flush f) :=
  have heard : MetersKept s.close (s.close.setMgmt s.close.mgmt.heard) := kept_setMgmt _ _
  (kept_close s).trans (.ite ((heard.trans (h _)).trans (kept_fill _ _ _ _)) (.refl _))

/-! ### The step -/

theorem kept_probeExpiry (s : State) (o : Port) : MetersKept s (match s.endedEntry o with
    | some _ => s.takeAfterReports (.probeExpired o)
    | none => s) := by
  split
  · exact kept_takeAfterReports s _
  · exact .refl s

/-- Every command keeps the meters in range. -/
theorem kept_exec (c : Instr) (s t : State) (h : exec c s = .next t) : MetersKept s t := by
  have close : ∀ {u : State}, MetersKept s.close u → MetersKept s u := (kept_close s).trans
  have link : ∀ m, MetersKept s (s.close.setMgmt m) := fun m => close (kept_setMgmt _ m)
  cases c <;> obtain rfl := Host.Outcome.next.inj h
  case powerOn straps => exact ⟨fun _ => start_metersInRange straps _ _ _ factoryMeters_inRange⟩
  case slotExpiry lines order => exact kept_slotExpiry s lines order
  case secondExpiry => exact kept_takeAfterReports s _
  case sightingRecordReceive bytes extra => exact close (kept_receiveRecord _ bytes extra)
  case fabricLost => exact kept_takeDue s _
  case tallyDispatch => exact close (kept_dispatchTally _)
  case sampleDispatch => exact close (kept_dispatchSample _)
  case probeDispatch => exact close (kept_dispatchProbe _)
  case linkDispatch => exact close (kept_dispatchLink _)
  case slotMarkGrant => exact close (.ite (kept_setControl _ _) (.refl _))
  case gateChangeGrant => exact close (kept_grantGate _)
  case emitGrant => exact close (kept_grantEmit _)
  case refreshGateGrant => exact close (.ite (kept_setControl _ _) (.refl _))
  case calmHoldReached p => exact kept_takeReopening s p
  case probeExpiry o => exact kept_probeExpiry s o
  case retirePeriodEnd => exact kept_takeDue s _
  case holdOffExpiry p => exact kept_takeDue s _
  case strikeDecay p => exact kept_takeDue s _
  case graceExpiry => exact kept_takeDue s _
  case autoSweepTimerExpiry => exact kept_takeDue s _
  case sweepTakePort => exact kept_takeDue s _
  case silPress => exact kept_takeDue s _
  case relPress => exact kept_takeDue s _
  case relRelease => exact kept_takeDue s _
  case keyReleaseSil => exact kept_takeDue s _
  case twoKeyRoomRelease => exact kept_takeDue s _
  case buzzerExpiry => exact kept_takeDue s _
  case mlCharacterReceive b stop => exact link _
  case frameTimeout => exact kept_takeDue s _
  case linkBreak => exact kept_takeDue s _
  case breakWaitEnd => exact link _
  case requestTake => exact close (kept_takeRequest _)
  case replySent => exact link _
  case noticeSend => exact link _
  case status => exact kept_closed_request s _ _ _ fun t => kept_reqStatus t _
  case profileGet => exact kept_closed_request s _ _ _ .refl
  case profileSet => exact kept_closed_request s _ _ _ fun t => kept_reqProfileSet t _
  case meterGet => exact kept_closed_request s _ _ _ fun t => kept_reqMeterGet t _
  case meterSet => exact kept_closed_request s _ _ _ fun t => kept_reqMeterSet t _
  case baselineSet => exact kept_closed_request s _ _ _ fun t => kept_reqBaselineSet t _ _ _
  case grace => exact kept_closed_request s _ _ _ fun t => kept_reqGrace t _
  case portGet => exact kept_closed_request s _ _ _ fun t => kept_reqPortGet t _
  case portRole => exact kept_closed_request s _ _ _ fun t => kept_reqPortRole t _ _
  case block => exact kept_closed_request s _ _ _ fun t => kept_reqBlock t _
  case release => exact kept_closed_request s _ _ _ fun t => kept_reqRelease t _
  case roomRelease => exact kept_closed_request s _ _ _ kept_roomRelease
  case tripList => exact kept_closed_request s _ _ _ .refl
  case check => exact kept_closed_request s _ _ _ fun t => kept_reqCheck t _ _
  case sweep => exact kept_closed_request s _ _ _ fun t => kept_reqSweep t _ _ _
  case abort => exact kept_closed_request s _ _ _ kept_reqAbort
  case evidenceGet => exact kept_closed_request s _ _ _ fun t => kept_reqEvidenceGet t _
  case evidenceClear => exact kept_closed_request s _ _ _ fun t => kept_reqEvidenceClear t _
  case stationFind => exact kept_closed_request s _ _ _ fun t => kept_reqStationFind t _
  case stationPin => exact kept_closed_request s _ _ _ fun t => kept_reqStationPin t _ _
  case stationUnpin => exact kept_closed_request s _ _ _ fun t => kept_reqStationUnpin t _
  case stationFlush => exact kept_closed_request s _ _ _ fun t => kept_reqStationFlush t _
  case panelSet => exact kept_closed_request s _ _ _ fun t => kept_reqPanelSet t _ _
  case panelReturn => exact kept_closed_request s _ _ _ fun t => kept_setPanel t _
  case noticeMask => exact kept_closed_request s _ _ _ fun t => kept_reqNoticeMask t _
  case restart => exact kept_closed_request s _ _ _ fun t => kept_reqRestart t _
  case noticeFrameEnd => exact link _
  case scanNextCommon => exact close (kept_setPanel _ _)

/-- Settles O9: every command keeps the meters in range, most because they leave what the ranges speak of as it stands. -/
theorem metersStayInRange : Obligations.MetersStayInRange := by
  intro s t h run
  unfold step at run
  split at run
  · obtain rfl := Host.Outcome.next.inj run
    exact h
  · rename_i c rest _
    have taken : MetersKept { s with pending := rest } t := kept_exec c _ t run
    exact taken.inRange h

end Sys2Proof.Machine
end

section
/-! The requests of the Storm Meter Array and the plain reads: STATUS, PROFILE GET, METER GET, TRIP LIST, GRACE, METER SET and
BASELINE SET (R39, R40, R42 to R45, R113, R166, R175). -/

namespace Sys2Proof.Machine

/-! ### Operands (R160) -/

theorem portOf_portByte (p : Port) : portOf (portByte p) = some p := by
  have lt : (portByte p).toNat < 40 := portByte_toNat p ▸ p.isLt
  rw [portOf, dif_pos lt]
  exact congrArg some (Fin.ext (portByte_toNat p))

theorem portOf_of_ge {b : Byte} (h : 40 ≤ b.toNat) : portOf b = none := dif_neg (not_lt.2 h)

theorem portOf_of_lt {b : Byte} (h : b.toNat < 40) : (portOf b).isSome = true := by rw [portOf, dif_pos h]; rfl

theorem classOf_classCode (k : TrafficClass) : classOf (classCode k) = some k := by cases k <;> rfl

theorem classOf_of_ge {b : Byte} (h : 3 ≤ b.toNat) : classOf b = none := by
  unfold classOf
  split
  · omega
  · omega
  · omega
  · rfl

theorem roleOf_roleCode (r : Role) : roleOf (roleCode r) = some r := by cases r <;> rfl

theorem roleOf_of_ge {b : Byte} (h : 3 ≤ b.toNat) : roleOf b = none := by
  unfold roleOf
  split
  · omega
  · omega
  · omega
  · rfl

theorem classesOf_classCode (k : TrafficClass) : classesOf (classCode k) = some [k] := by cases k <;> rfl

theorem classesOf_of_lt {b : Byte} (h : b.toNat < 4) : (classesOf b).isSome = true := by
  obtain code | code | code | code : b.toNat = 0 ∨ b.toNat = 1 ∨ b.toNat = 2 ∨ b.toNat = 3 := by omega
  all_goals simp [classesOf, code]

theorem classesOf_of_ge {b : Byte} (h : 4 ≤ b.toNat) : classesOf b = none := by
  unfold classesOf
  split
  · omega
  · omega
  · omega
  · omega
  · rfl

theorem portByte_ne_all (p : Port) : portByte p ≠ 0xFF := fun same => by
  have lt := p.isLt
  have code : p.val = (0xFF : Byte).toNat := same ▸ (portByte_toNat p).symm
  have all : (0xFF : Byte).toNat = 255 := rfl
  omega

theorem portsOf_all : portsOf 0xFF = some allPorts := if_pos rfl

theorem portsOf_of_ne {b : Byte} (h : b ≠ 0xFF) : portsOf b = (portOf b).map fun p => [p] := if_neg h

theorem portsOf_portByte (p : Port) : portsOf (portByte p) = some [p] := by
  rw [portsOf_of_ne (portByte_ne_all p), portOf_portByte]
  rfl

theorem portsOf_named {b : Byte} (h : b.toNat < 40 ∨ b = 0xFF) : (portsOf b).isSome = true := by
  by_cases all : b = 0xFF
  · rw [all]; rfl
  · rw [portsOf_of_ne all, Option.isSome_map]
    exact portOf_of_lt (h.resolve_right all)

/-! ### The answer of a request taken at once (R158, R162, logs 3 and 5) -/

/-- A request taken at once answers in the state that has heard its frame. -/
theorem closed_request_of_takes {s : State} (h : TakesRequests s) (kind tag : Byte) (flush : Bool) (f : State → Answer) :
    s.close.request kind tag flush f = (f (s.setMgmt s.mgmt.heard)).fill (kind + 0x80) tag flush := by
  rw [close_of_due_nil s h.1, request_of_takes h]

/-- A request taken at once whose answer is a state that has heard its frame: the reply fills the slot of that state. -/
theorem closed_request_replied {s t : State} (h : TakesRequests s) (kind tag : Byte) {f : State → Answer} {body : List Byte}
    (answer : f (s.setMgmt s.mgmt.heard) = (t.setMgmt t.mgmt.heard, body)) :
    s.close.request kind tag false f = Replied t (kind + 0x80) tag body := by
  rw [closed_request_of_takes h, answer]
  rfl

@[simp] theorem fill_portMeters (a : Answer) (kind tag : Byte) (flush : Bool) (p : Port) :
    (a.fill kind tag flush).portMeters p = a.1.portMeters p := rfl

@[simp] theorem fill_port (a : Answer) (kind tag : Byte) (flush : Bool) (p : Port) :
    (a.fill kind tag flush).port p = a.1.port p := rfl

@[simp] theorem fill_mgmt (a : Answer) (kind tag : Byte) (flush : Bool) : (a.fill kind tag flush).mgmt =
    a.1.mgmt.fillReply { kind := kind, tag := tag, body := a.2, flush := flush } := rfl

theorem onlyIn_fill (a : Answer) (kind tag : Byte) (flush : Bool) : OnlyIn [.mgmt] a.1 (a.fill kind tag flush) :=
  onlyIn_setMgmt a.1 _

/-- What a request changes beside its reply is what its answer changes. -/
theorem onlyIn_answered {parts : List Part} {s : State} {a : Answer} (kind tag : Byte) (flush : Bool)
    (frame : OnlyIn parts (s.setMgmt s.mgmt.heard) a.1) (link : .mgmt ∈ parts) : OnlyIn parts s (a.fill kind tag flush) :=
  have only : [Part.mgmt] ⊆ parts := List.cons_subset.2 ⟨link, List.nil_subset _⟩
  (((onlyIn_setMgmt s _).mono only).trans frame).trans ((onlyIn_fill a kind tag flush).mono only)

/-! ### Reads (R45, R113, R166, R175) -/

theorem statusBody_heard (s : State) : stOk :: (s.setMgmt s.mgmt.heard).statusBody =
    [0, 0x4C, 0x30, 1] ++ halfBytes s.profile.roomId ++ wordBytes s.timer.slotCount ++ wordBytes s.timer.secondCount ++
      [1, boolByte s.receiver.synced, natByte s.grace, flagsByte s.mgmt.flags] ++
      natBytes s.mgmt.lost ++ natBytes s.mgmt.discarded ++ natBytes s.mgmt.dropped := rfl

theorem tripBytes_eq (s : State) (i : TripItem) : s.tripBytes i =
    natBytes (i.port.val * 1024 + (match i.partner with | some q => q.val | none => 63) * 16 + causeNumber i.cause) ++
    natBytes ((match (s.port i.port).state with | .blocked => 1 | .testing => 2 | .held => 3 | _ => 0) * 16384 +
      (s.port i.port).strikes * 1024 + (s.port i.port).holdOff) := rfl

/-- Settles O48: each read by the equation of its body, which reads nothing of the link but what its frame leaves. -/
theorem statusProfileMetersAndTripsAreRead : Obligations.StatusProfileMetersAndTripsAreRead := by
  intro s tag takes
  refine ⟨fun option known => ?_, fun option keep clear => ?_, ?_, fun k => ?_, fun cls unknown => ?_, ?_⟩
  · refine congrArg Host.Outcome.next (closed_request_replied takes 0x01 tag ?_)
    rw [← statusBody_heard]
    obtain rfl | rfl := known <;> rfl
  · refine congrArg Host.Outcome.next (closed_request_replied takes 0x01 tag (t := s) ?_)
    rw [State.reqStatus, if_neg keep, if_neg clear]
    rfl
  · refine congrArg Host.Outcome.next (closed_request_replied takes 0x02 tag (t := s) (Prod.ext rfl ?_))
    simp [State.reqProfileGet, State.profileBytes, stOk, State.port]
  · refine congrArg Host.Outcome.next (closed_request_replied takes 0x04 tag (t := s) ?_)
    rw [State.reqMeterGet, classOf_classCode]
    exact Prod.ext rfl (by simp [State.meterBytes, thresholdBytes, stOk])
  · refine congrArg Host.Outcome.next (closed_request_replied takes 0x04 tag (t := s) ?_)
    rw [State.reqMeterGet, classOf_of_ge unknown]
    rfl
  · refine congrArg Host.Outcome.next (closed_request_replied takes 0x0D tag (t := s) ?_)
    exact Prod.ext rfl (congrArg ([0, natByte s.trips.length] ++ s.trips.flatMap ·) (funext (tripBytes_eq s)))

/-! ### GRACE (R40) -/

/-- Settles O52: the branches of the duration, and GRACE_END raised by the link that has heard the frame. -/
theorem graceRequestSetsTimer : Obligations.GraceRequestSetsTimer := by
  intro s tag d takes
  refine ⟨fun low high => ?_, fun above => ?_, fun zero active => ?_, fun zero idle => ?_⟩
  · refine congrArg Host.Outcome.next (closed_request_replied takes 0x07 tag (t := s.setGrace d.toNat) ?_)
    rw [State.reqGrace, if_neg (show d.toNat ≠ 0 by omega), if_pos high]
    rfl
  · refine congrArg Host.Outcome.next (closed_request_replied takes 0x07 tag (t := s.setGrace 120) ?_)
    rw [State.reqGrace, if_neg (show d.toNat ≠ 0 by omega), if_neg (show ¬d.toNat ≤ 120 by omega)]
    rfl
  · refine congrArg Host.Outcome.next (closed_request_replied takes 0x07 tag
      (t := (s.setGrace 0).setMgmt (s.mgmt.raise (.graceEnd false s.timer.secondCount))) ?_)
    rw [State.reqGrace, if_pos (by simp [zero]), State.setMgmt_mgmt, raise_heard]
    exact if_pos active
  · refine congrArg Host.Outcome.next (closed_request_replied takes 0x07 tag (t := s) ?_)
    rw [State.reqGrace, if_pos (by simp [zero])]
    exact if_neg (show ¬0 < s.grace by omega)

/-! ### METER SET (R42 to R44) -/

theorem clampInt_eq_self_iff (lo hi x : Int) : clampInt lo hi x = x ↔ lo ≤ x ∧ x ≤ hi := by
  unfold clampInt
  split
  · omega
  · split <;> omega

theorem clampNat_eq_self_iff (lo hi x : Nat) : clampNat lo hi x = x ↔ lo ≤ x ∧ x ≤ hi := by
  unfold clampNat
  split
  · omega
  · split <;> omega

/-- A threshold set is clamped exactly when a value is out of the range that the values taken before it leave (R43). -/
theorem thresholdsClamped_eq (t : ThresholdBlock) : thresholdsClamped t =
    (decide (t.limit.toInt < 1) || decide (16320 < t.limit.toInt) ||
      decide (t.block.toInt < (takeThresholds t).limit) || decide (16320 < t.block.toInt) ||
      decide (t.calm.toInt < -16320) || decide ((takeThresholds t).limit - 1 < t.calm.toInt) ||
      decide (t.ceil.toInt < 0) || decide (16320 < t.ceil.toInt)) := by
  have limit := clampInt_eq_self_iff 1 16320 t.limit.toInt
  have block := clampInt_eq_self_iff (takeThresholds t).limit 16320 t.block.toInt
  have calm := clampInt_eq_self_iff (-16320) ((takeThresholds t).limit - 1) t.calm.toInt
  have ceil := clampInt_eq_self_iff 0 16320 t.ceil.toInt
  have taken : takeThresholds t = { limit := t.limit.toInt, block := t.block.toInt, calm := t.calm.toInt, ceil := t.ceil.toInt } ↔
      (1 ≤ t.limit.toInt ∧ t.limit.toInt ≤ 16320) ∧
      ((takeThresholds t).limit ≤ t.block.toInt ∧ t.block.toInt ≤ 16320) ∧
      (-16320 ≤ t.calm.toInt ∧ t.calm.toInt ≤ (takeThresholds t).limit - 1) ∧ 0 ≤ t.ceil.toInt ∧ t.ceil.toInt ≤ 16320 := by
    rw [← limit, ← block, ← calm, ← ceil]
    exact Thresholds.mk.injEq .. ▸ Iff.rfl
  rw [Bool.eq_iff_iff, thresholdsClamped, bne_iff_ne, Ne, taken]
  simp only [Bool.or_eq_true, decide_eq_true_eq]
  omega

theorem reqMeterSet_of_bad {b : MeterBlock} {k : TrafficClass} (s : State) (cls : classOf b.cls = some k)
    (bad : windowOf b.window = none ∨ shapeOf b.shape = none) : s.reqMeterSet b = (s, 10 :: s.meterBytes k) := by
  unfold State.reqMeterSet
  rw [cls]
  dsimp only
  split
  · rename_i window shape
    obtain none | none := bad
    · exact absurd (window.symm.trans none) nofun
    · exact absurd (shape.symm.trans none) nofun
  · rfl

/-- The setup that METER SET takes from a block, its window and shape being good (R42, R43). -/
def takenSetup (b : MeterBlock) (shape : Shape) : ClassSetup :=
  { window := b.window.toNat, shape := shape, shift := clampNat 1 8 b.shift.toNat, desk := takeThresholds b.desk,
    trunk := takeThresholds b.trunk }

theorem reqMeterSet_of_good {b : MeterBlock} {k : TrafficClass} {shape : Shape} (s : State) (cls : classOf b.cls = some k)
    (window : windowOf b.window = some b.window.toNat) (good : shapeOf b.shape = some shape) :
    s.reqMeterSet b = (s.applyMeterSet k (takenSetup b shape),
      clampStatus (clampNat 1 8 b.shift.toNat != b.shift.toNat || thresholdsClamped b.desk || thresholdsClamped b.trunk) ::
        (s.applyMeterSet k (takenSetup b shape)).meterBytes k) := by
  unfold State.reqMeterSet
  rw [cls, window, good]
  rfl

/-- A METER SET is CLAMPED exactly when the shift or a threshold was out of its range (R43, R160). -/
theorem meterSet_status (b : MeterBlock) :
    clampStatus (clampNat 1 8 b.shift.toNat != b.shift.toNat || thresholdsClamped b.desk || thresholdsClamped b.trunk) =
      if b.shift.toNat < 1 ∨ 8 < b.shift.toNat ∨
          [(b.desk, takeThresholds b.desk), (b.trunk, takeThresholds b.trunk)].any (fun x : ThresholdBlock × Thresholds =>
            decide (x.1.limit.toInt < 1) || decide (16320 < x.1.limit.toInt) ||
            decide (x.1.block.toInt < x.2.limit) || decide (16320 < x.1.block.toInt) ||
            decide (x.1.calm.toInt < -16320) || decide (x.2.limit - 1 < x.1.calm.toInt) ||
            decide (x.1.ceil.toInt < 0) || decide (16320 < x.1.ceil.toInt)) = true then 1 else 0 := by
  simp only [List.any_cons, List.any_nil, Bool.or_false, ← thresholdsClamped_eq]
  have shift : (clampNat 1 8 b.shift.toNat != b.shift.toNat) = true ↔ b.shift.toNat < 1 ∨ 8 < b.shift.toNat := by
    rw [bne_iff_ne, Ne, clampNat_eq_self_iff]
    omega
  refine if_congr ?_ rfl rfl
  rw [Bool.or_eq_true, Bool.or_eq_true, shift, Bool.or_eq_true, or_assoc, or_assoc]

theorem onlyIn_applyMeterSet (s : State) (k : TrafficClass) (c : ClassSetup) :
    OnlyIn [.profile, .meters] s (s.applyMeterSet k c) :=
  (onlyIn_setMeters _ _).step (by decide) ((onlyIn_setProfile s _).mono (by decide))

/-! ### BASELINE SET (R39) -/

theorem reqBaselineSet_of_named {port cls : Byte} {ports : List Port} {classes : List TrafficClass} (s : State) (value : Half)
    (named : portsOf port = some ports) (all : classesOf cls = some classes)
    (some_guarded : ports.filter s.guarded ≠ [] ∨ port = 0xFF) : s.reqBaselineSet port cls value =
      (s.seedBaselines (ports.filter s.guarded) classes value.toNat,
        [clampStatus (s.seedClamped (ports.filter s.guarded) classes value.toNat),
          natByte ((ports.filter s.guarded).length * classes.length)]) := by
  unfold State.reqBaselineSet
  rw [named, all]
  exact if_neg fun ⟨empty, single⟩ => some_guarded.elim (· empty) single

theorem seedClamped_iff (s : State) (ports : List Port) (classes : List TrafficClass) (value : Nat) :
    s.seedClamped ports classes value = true ↔ ∃ p ∈ ports, ∃ k ∈ classes, (s.ceiling p k).toNat < value := by
  simp [State.seedClamped]

theorem guarded_iff (s : State) (p : Port) : s.guarded p = true ↔ (s.port p).role ≠ .off := bne_iff_ne

/-- Settles O51: METER SET by its operands good or bad, BASELINE SET by the ports and classes it names. -/
theorem meterAndBaselineRequests : Obligations.MeterAndBaselineRequests := by
  intro s tag takes
  refine ⟨fun b unknown => ?_, fun b k cls bad => ?_, fun b k shape cls window good => ?_,
    fun ports classes port cls v namedPorts namedClasses => ?_, fun p cls v off known => ?_, fun port cls v high single => ?_,
    fun port cls v known high => ?_⟩
  · refine congrArg Host.Outcome.next (closed_request_replied takes 0x05 tag (t := s) ?_)
    rw [State.reqMeterSet, classOf_of_ge unknown]
    rfl
  · exact congrArg Host.Outcome.next
      (closed_request_replied takes 0x05 tag (t := s) (reqMeterSet_of_bad _ cls bad))
  · have taken : windowOf b.window = some b.window.toNat := if_pos window
    have run := (closed_request_of_takes takes 0x05 tag false fun t => t.reqMeterSet b).trans
      (congrArg (Answer.fill _ tag false) (reqMeterSet_of_good _ cls taken good))
    refine ⟨_, takenSetup b shape, _, congrArg Host.Outcome.next run, takenSetup_inRange taken shape, rfl, rfl, rfl, rfl, rfl,
      rfl, rfl, rfl, rfl, rfl, rfl, rfl, fun p j other => ?_, fun p => ?_, rfl, meterSet_status b,
      onlyIn_answered _ tag false ((onlyIn_applyMeterSet _ k _).mono (by decide)) (by decide)⟩
    · rw [fill_portMeters, portMeters_applyMeterSet, PerClass.get_set, if_neg other]
      rfl
    · rw [fill_portMeters, portMeters_applyMeterSet, PerClass.get_set, if_pos rfl, meterAfterSet_eq]
      rfl
  · have portsNamed : portsOf port = some ports := by
      obtain ⟨rfl, rfl⟩ | ⟨p, rfl, rfl, -⟩ := namedPorts
      · exact portsOf_all
      · exact portsOf_portByte p
    have classesNamed : classesOf cls = some classes := by
      obtain ⟨rfl, rfl⟩ | ⟨k, rfl, rfl⟩ := namedClasses
      · rfl
      · exact classesOf_classCode k
    have guarded : ports.filter (s.setMgmt s.mgmt.heard).guarded = ports.filter fun p => decide ((s.port p).role ≠ .off) :=
      List.filter_congr fun p _ => by
        rw [Bool.eq_iff_iff, decide_eq_true_iff]
        exact guarded_iff s p
    have someGuarded : ports.filter (s.setMgmt s.mgmt.heard).guarded ≠ [] ∨ port = 0xFF := by
      rw [guarded]
      obtain ⟨rfl, -⟩ | ⟨p, -, rfl, on⟩ := namedPorts
      · exact .inr rfl
      · exact .inl (by simp [on])
    have answer := reqBaselineSet_of_named _ v portsNamed classesNamed someGuarded
    rw [guarded] at answer
    have run := (closed_request_of_takes takes 0x06 tag false fun t => t.reqBaselineSet port cls v).trans
      (congrArg (Answer.fill _ tag false) answer)
    intro named ceil
    have frame := onlyIn_seedBaselines (s.setMgmt s.mgmt.heard) named classes v.toNat
    have link : ((s.setMgmt s.mgmt.heard).seedBaselines named classes v.toNat).mgmt = s.mgmt.heard := frame .mgmt (by decide)
    have status : clampStatus ((s.setMgmt s.mgmt.heard).seedClamped named classes v.toNat) =
        if ∃ p ∈ named, ∃ k ∈ classes, ceil p k < v.toNat then 1 else 0 :=
      if_congr (seedClamped_iff _ named classes v.toNat) rfl rfl
    refine ⟨_, congrArg Host.Outcome.next run, fun p k => ?_, ?_,
      onlyIn_answered _ tag false (frame.mono (by decide)) (by decide)⟩
    · rw [fill_portMeters]
      exact get_seedBaselines v.toNat classes p k named (s.setMgmt s.mgmt.heard)
    · rw [fill_mgmt, ← status]
      exact congrArg _ link
  · refine congrArg Host.Outcome.next (closed_request_replied takes 0x06 tag (t := s) ?_)
    obtain ⟨classes, named⟩ := Option.isSome_iff_exists.1 (classesOf_of_lt known)
    have shut : (s.setMgmt s.mgmt.heard).guarded p = false :=
      Bool.eq_false_iff.2 fun on => (guarded_iff s p).1 on off
    rw [State.reqBaselineSet, portsOf_portByte, named]
    exact if_pos ⟨by simp [shut], portByte_ne_all p⟩
  · refine congrArg Host.Outcome.next (closed_request_replied takes 0x06 tag (t := s) ?_)
    rw [State.reqBaselineSet, portsOf_of_ne single, portOf_of_ge high]
    rfl
  · refine congrArg Host.Outcome.next (closed_request_replied takes 0x06 tag (t := s) ?_)
    obtain ⟨ports, named⟩ := Option.isSome_iff_exists.1 (portsOf_named known)
    rw [State.reqBaselineSet, named, classesOf_of_ge high]
    rfl

end Sys2Proof.Machine
end

section
/-! PORT ROLE: the purposes of the port conclude VOID as they would in the state before, and the port restarts under its new
role (R34, R35, R77, R78, R82, R109, R110, R112). -/

namespace Sys2Proof.Machine

/-! ### States that agree away from a port -/

/-- Two states agree in the sweep, the management link and the time, in the records of the ports other than `p`, and in the
probe list entries of the other origins. -/
structure AgreesOff (p : Port) (a b : State) : Prop where
  timer : a.timer = b.timer
  sweep : a.sweep = b.sweep
  mgmt : a.mgmt = b.mgmt
  port : ∀ q, q ≠ p → a.port q = b.port q
  entry : ∀ y : ProbeEntry, y.origin ≠ p → (y ∈ a.probes.list ↔ y ∈ b.probes.list)

theorem AgreesOff.trans {p : Port} {a b c : State} (h : AgreesOff p a b) (k : AgreesOff p b c) : AgreesOff p a c :=
  ⟨h.timer.trans k.timer, h.sweep.trans k.sweep, h.mgmt.trans k.mgmt, fun q hq => (h.port q hq).trans (k.port q hq),
    fun y hy => (h.entry y hy).trans (k.entry y hy)⟩

/-- A change that spares the time, the sweep and the management link agrees when it keeps the other ports and entries. -/
theorem OnlyIn.agreesOff {parts : List Part} {p : Port} {a b : State} (frame : OnlyIn parts b a)
    (out : ∀ x ∈ [Part.timer, .sweep, .mgmt], x ∉ parts) (port : ∀ q, q ≠ p → a.port q = b.port q)
    (entry : ∀ y : ProbeEntry, y.origin ≠ p → (y ∈ a.probes.list ↔ y ∈ b.probes.list)) : AgreesOff p a b :=
  ⟨frame .timer (out _ (by simp)), frame .sweep (out _ (by simp)), frame .mgmt (out _ (by simp)), port, entry⟩

theorem AgreesOff.second {p : Port} {a b : State} (h : AgreesOff p a b) : a.second = b.second :=
  congrArg SlotTimer.secondCount h.timer

theorem AgreesOff.raise {p : Port} {a b : State} (h : AgreesOff p a b) (n : Notice) : AgreesOff p (a.raise n) (b.raise n) :=
  ⟨h.timer, h.sweep, congrArg (Mgmt.raise n) h.mgmt, h.port, h.entry⟩

theorem AgreesOff.setSweep {p : Port} {a b : State} (h : AgreesOff p a b) (v : SweepScheduler) :
    AgreesOff p (a.setSweep v) (b.setSweep v) := ⟨h.timer, rfl, h.mgmt, h.port, h.entry⟩

/-! ### The end of a sweep (R120) -/

/-- A probe list entry without SWEEP. -/
def ProbeEntry.dropSweep (e : ProbeEntry) : ProbeEntry := { e with purposes := e.purposes.dropSweep }

theorem dropSweeps_list (s : State) : s.dropSweeps.probes.list = s.probes.list.map ProbeEntry.dropSweep := rfl

theorem port_dropSweeps (s : State) (q : Port) :
    s.dropSweeps.port q = { s.port q with wants := (s.port q).wants.dropSweep } := by
  simp [State.dropSweeps, State.port, State.setPorts, State.setProbes]

theorem mem_dropSweeps_iff (s : State) (y : ProbeEntry) :
    y ∈ s.dropSweeps.probes.list ↔ ∃ x ∈ s.probes.list, x.dropSweep = y := by
  rw [dropSweeps_list, List.mem_map]

theorem AgreesOff.dropSweeps {p : Port} {a b : State} (h : AgreesOff p a b) : AgreesOff p a.dropSweeps b.dropSweeps := by
  have ended := onlyIn_dropSweeps a
  have ended' := onlyIn_dropSweeps b
  have timer : a.dropSweeps.timer = a.timer := ended .timer (by decide)
  have timer' : b.dropSweeps.timer = b.timer := ended' .timer (by decide)
  have sweep : a.dropSweeps.sweep = a.sweep := ended .sweep (by decide)
  have sweep' : b.dropSweeps.sweep = b.sweep := ended' .sweep (by decide)
  have mgmt : a.dropSweeps.mgmt = a.mgmt := ended .mgmt (by decide)
  have mgmt' : b.dropSweeps.mgmt = b.mgmt := ended' .mgmt (by decide)
  refine ⟨by rw [timer, timer', h.timer], by rw [sweep, sweep', h.sweep], by rw [mgmt, mgmt', h.mgmt], fun q hq => ?_,
    fun y hy => ?_⟩
  · rw [port_dropSweeps, port_dropSweeps, h.port q hq]
  · rw [mem_dropSweeps_iff, mem_dropSweeps_iff]
    refine exists_congr fun x => and_congr_left fun eq => h.entry x ?_
    subst eq
    exact hy

theorem AgreesOff.putSweep {p : Port} {a b : State} (h : AgreesOff p a b) (r : SweepRecord) :
    AgreesOff p (a.putSweep r) (b.putSweep r) := by
  have put : AgreesOff p (a.setSweep { a.sweep with record := some r }) (b.setSweep { b.sweep with record := some r }) :=
    h.sweep ▸ h.setSweep _
  unfold State.putSweep
  split
  · unfold State.endSweep
    dsimp only
    rw [put.second]
    have raised := put.dropSweeps.raise (.sweepDone r .done (b.setSweep { b.sweep with record := some r }).second)
    exact raised.sweep ▸ raised.setSweep _
  · exact put

/-! ### Purposes concluded VOID (R77, R78) -/

/-- The SWEEP of a purpose set concluded VOID (R118, R124). -/
def State.sweepVoided (s : State) (u : Purposes) : State :=
  match u.sweep with
  | some n => s.deliverSweep n .void
  | none => s

/-- The HOST of a purpose set concluded VOID (R78). -/
def State.hostVoided (s : State) (p : Port) (u : Purposes) (second : Word) : State :=
  match u.host with
  | some tag => s.raise (.checkDone p tag .void none second)
  | none => s

theorem voided_eq (p : Port) (u : Purposes) (s : State) :
    Voided p u s = (s.sweepVoided u).hostVoided p u s.second := by
  unfold Voided State.sweepVoided State.hostVoided
  cases u.host <;> rfl

theorem AgreesOff.sweepVoided {p : Port} {a b : State} (h : AgreesOff p a b) (u : Purposes) :
    AgreesOff p (a.sweepVoided u) (b.sweepVoided u) := by
  unfold State.sweepVoided State.deliverSweep
  rw [h.sweep]
  repeat' split
  · exact h.putSweep _
  all_goals exact h

theorem AgreesOff.hostVoided {p : Port} {a b : State} (h : AgreesOff p a b) (r : Port) (u : Purposes) (second : Word) :
    AgreesOff p (a.hostVoided r u second) (b.hostVoided r u second) := by
  unfold State.hostVoided
  split
  · exact h.raise _
  · exact h

theorem AgreesOff.voided {p : Port} {a b : State} (h : AgreesOff p a b) (r : Port) (u : Purposes) :
    AgreesOff p (Voided r u a) (Voided r u b) := by
  rw [voided_eq, voided_eq, h.second]
  exact (h.sweepVoided u).hostVoided r u _

theorem onlyIn_voided (p : Port) (u : Purposes) (s : State) : OnlyIn [.ports, .probes, .mgmt, .sweep] s (Voided p u s) :=
  conclude_void s p u ▸ onlyIn_conclude_void s p u none

theorem onlyIn_hostVoided (s : State) (p : Port) (u : Purposes) (second : Word) :
    OnlyIn [.mgmt] s (s.hostVoided p u second) := by
  unfold State.hostVoided
  split
  · exact onlyIn_raise s _
  · exact OnlyIn.refl _ s

theorem putSweep_cases (s : State) (r : SweepRecord) :
    ((s.putSweep r).ports = s.ports ∧ (s.putSweep r).probes = s.probes) ∨
    ((s.putSweep r).sweep.record = none ∧ (s.putSweep r).ports = s.dropSweeps.ports ∧
      (s.putSweep r).probes = s.dropSweeps.probes) := by
  unfold State.putSweep
  split
  · exact .inr ⟨rfl, rfl, rfl⟩
  · exact .inl ⟨rfl, rfl⟩

theorem sweepVoided_cases (s : State) (u : Purposes) :
    ((s.sweepVoided u).ports = s.ports ∧ (s.sweepVoided u).probes = s.probes) ∨
    ((s.sweepVoided u).sweep.record = none ∧ (s.sweepVoided u).ports = s.dropSweeps.ports ∧
      (s.sweepVoided u).probes = s.dropSweeps.probes) := by
  unfold State.sweepVoided State.deliverSweep
  repeat' split
  · exact putSweep_cases s _
  all_goals exact .inl ⟨rfl, rfl⟩

/-- What a conclusion with VOID does to the port table and the probe list: nothing, or it ends the sweep in progress and with
it every SWEEP purpose (R120, R125). -/
theorem voided_cases (p : Port) (u : Purposes) (s : State) :
    ((Voided p u s).ports = s.ports ∧ (Voided p u s).probes.list = s.probes.list) ∨
    ((Voided p u s).sweep.record = none ∧ (∀ q, (Voided p u s).port q = s.dropSweeps.port q) ∧
      (Voided p u s).probes.list = s.probes.list.map ProbeEntry.dropSweep) := by
  have frame := onlyIn_hostVoided (s.sweepVoided u) p u s.second
  have ports : (Voided p u s).ports = (s.sweepVoided u).ports := voided_eq p u s ▸ frame .ports (by decide)
  have probes : (Voided p u s).probes = (s.sweepVoided u).probes := voided_eq p u s ▸ frame .probes (by decide)
  have sweep : (Voided p u s).sweep = (s.sweepVoided u).sweep := voided_eq p u s ▸ frame .sweep (by decide)
  rw [ports, probes, sweep, ← dropSweeps_list]
  obtain ⟨keptPorts, keptProbes⟩ | ⟨idle, endedPorts, endedProbes⟩ := sweepVoided_cases s u
  · exact .inl ⟨keptPorts, by rw [keptProbes]⟩
  · exact .inr ⟨idle, fun q => State.port_congr (ports.trans endedPorts) q, by rw [endedProbes]⟩

/-- A port without purposes keeps its record when purposes conclude VOID. -/
theorem port_voided_of_empty (p : Port) (u : Purposes) {s : State} {q : Port} (none : (s.port q).wants = Purposes.empty) :
    (Voided p u s).port q = s.port q := by
  obtain ⟨ports, -⟩ | ⟨-, port, -⟩ := voided_cases p u s
  · exact State.port_congr ports q
  · have swept : ((s.port q).wants).dropSweep = (s.port q).wants := by rw [none]; rfl
    rw [port, port_dropSweeps, swept]

/-- Without a sweep in progress a SWEEP purpose concludes without effect (R118). -/
theorem voided_dropSweep (p : Port) (u : Purposes) {s : State} (idle : s.sweep.record = none) :
    Voided p u.dropSweep s = Voided p u s := by
  have nothing : ∀ v, s.sweepVoided v = s := fun v => by
    unfold State.sweepVoided State.deliverSweep
    rw [idle]
    split <;> rfl
  rw [voided_eq, voided_eq, nothing, nothing]
  rfl

/-- The entries after a conclusion with VOID are those before, of the same tags, origins and expiries, and conclude VOID from
then on as those before do. -/
theorem voided_entries (p : Port) (u : Purposes) (s : State) : ∃ f : ProbeEntry → ProbeEntry,
    (∀ e, (f e).tag = e.tag ∧ (f e).origin = e.origin ∧ (f e).expiry = e.expiry) ∧
    (Voided p u s).probes.list = s.probes.list.map f ∧
    ∀ e r (t : State), t.sweep = (Voided p u s).sweep → Voided r (f e).purposes t = Voided r e.purposes t := by
  obtain ⟨-, list⟩ | ⟨idle, -, list⟩ := voided_cases p u s
  · exact ⟨id, fun _ => ⟨rfl, rfl, rfl⟩, by rw [list, List.map_id], fun _ _ _ _ => rfl⟩
  · exact ⟨ProbeEntry.dropSweep, fun _ => ⟨rfl, rfl, rfl⟩, list, fun e r t sweep =>
      voided_dropSweep r e.purposes (by rw [sweep, idle])⟩

/-! ### The QUEUED entry of the port (R81, R82) -/

theorem find?_queued_map {f : ProbeEntry → ProbeEntry} (same : ∀ e, (f e).origin = e.origin ∧ (f e).expiry = e.expiry)
    (p : Port) (l : List ProbeEntry) : (l.map f).find? (fun e => e.origin == p && e.expiry.isNone) =
      (l.find? fun e => e.origin == p && e.expiry.isNone).map f := by
  rw [List.find?_map]
  congr 2
  funext e
  simp [same e]

/-- The entry and its EMIT order withdrawn (R18, R82). -/
def State.withdraw (s : State) (e : ProbeEntry) : State :=
  let s1 := s.setProbes { s.probes with list := s.probes.list.filter fun x => x.tag != e.tag }
  s1.setControl { s1.control with emitQueue := s1.control.emitQueue.filter fun x => x.tag != e.tag }

theorem removeQueued_of_some {s : State} {p : Port} {e : ProbeEntry} (h : s.queuedEntry p = some e) :
    s.removeQueued p = Voided p e.purposes (s.withdraw e) := by
  unfold State.removeQueued
  rw [h]
  exact conclude_void _ p _

theorem removeQueued_of_none {s : State} {p : Port} (h : s.queuedEntry p = none) : s.removeQueued p = s := by
  unfold State.removeQueued
  rw [h]

theorem queuedEntry_some {s : State} {p : Port} {e : ProbeEntry} (h : s.queuedEntry p = some e) :
    e ∈ s.probes.list ∧ e.origin = p := by
  have test := List.find?_some h
  simp only [Bool.and_eq_true, beq_iff_eq] at test
  exact ⟨List.mem_of_find?_eq_some h, test.1⟩

/-- An entry withdrawn alters no other origin, tags being distinct. -/
theorem withdraw_agrees {s : State} {p : Port} {e : ProbeEntry} (tags : (s.probes.list.map (·.tag)).Nodup)
    (held : e ∈ s.probes.list) (origin : e.origin = p) : AgreesOff p (s.withdraw e) s := by
  refine ⟨rfl, rfl, rfl, fun _ _ => rfl, fun y hy =>
    List.mem_filter.trans ⟨And.left, fun hm => ⟨hm, bne_iff_ne.2 fun same => ?_⟩⟩⟩
  exact hy (List.inj_on_of_nodup_map tags hm held same ▸ origin)

theorem withdraw_origins {s : State} {p : Port} {e : ProbeEntry} (origins : (s.probes.list.map (·.origin)).Nodup)
    (held : e ∈ s.probes.list) (origin : e.origin = p) : ∀ y ∈ (s.withdraw e).probes.list, y.origin ≠ p := by
  intro y hy same
  obtain ⟨mem, other⟩ := List.mem_filter.1 hy
  exact bne_iff_ne.1 other (congrArg ProbeEntry.tag (List.inj_on_of_nodup_map origins mem held (same.trans origin.symm)))

/-! ### The purposes of a port that changes its role (R82, R110) -/

/-- The port with strikes 0 and without a linkup result, its wants and its QUEUED entry concluded VOID (R110). -/
def State.roleVoided (s : State) (p : Port) : State :=
  ((s.setPort p { s.port p with strikes := 0, linkup := .unset }).voidWants p).removeQueued p

/-- The port's record as its purposes have concluded. -/
def PortRecord.cleared (r : PortRecord) : PortRecord := { r with strikes := 0, linkup := .unset, wants := Purposes.empty }

theorem setPort_setPort (s : State) (p : Port) (v w : PortRecord) : (s.setPort p v).setPort p w = s.setPort p w := by
  simp [State.setPort, State.setPorts]

/-- The want set goes first, in the state in which the record is cleared (R110, log 10). -/
theorem roleVoided_eq (s : State) (p : Port) :
    s.roleVoided p = (Voided p (s.port p).wants (s.setPort p (s.port p).cleared)).removeQueued p := by
  rw [State.roleVoided, voidWants_eq, setPort_setPort, State.port_setPort_self]
  rfl

theorem onlyIn_roleVoided (s : State) (p : Port) : OnlyIn [.ports, .probes, .mgmt, .sweep, .control] s (s.roleVoided p) :=
  (onlyIn_removeQueued _ p).step (by decide) ((onlyIn_voidWants _ p).step (by decide) ((onlyIn_setPort s p _).mono (by decide)))

theorem port_roleVoided_self (s : State) (p : Port) : (s.roleVoided p).port p = (s.port p).cleared := by
  have wanted : (Voided p (s.port p).wants (s.setPort p (s.port p).cleared)).port p = (s.port p).cleared := by
    rw [port_voided_of_empty, State.port_setPort_self]
    rw [State.port_setPort_self]; rfl
  rw [roleVoided_eq]
  generalize Voided p (s.port p).wants (s.setPort p (s.port p).cleared) = a at wanted
  cases queued : a.queuedEntry p with
  | none => rw [removeQueued_of_none queued, wanted]
  | some e =>
    have kept : (a.withdraw e).port p = a.port p := rfl
    rw [removeQueued_of_some queued, port_voided_of_empty, kept, wanted]
    rw [kept, wanted]; rfl

theorem pendingGate_roleVoided (s : State) (p : Port) : (s.roleVoided p).control.pendingGate = s.control.pendingGate := by
  have wanted : (Voided p (s.port p).wants (s.setPort p (s.port p).cleared)).control = s.control :=
    onlyIn_voided _ _ _ .control (by decide)
  rw [roleVoided_eq]
  generalize Voided p (s.port p).wants (s.setPort p (s.port p).cleared) = a at wanted
  cases queued : a.queuedEntry p with
  | none => rw [removeQueued_of_none queued, wanted]
  | some e =>
    have withdrawn : (Voided p e.purposes (a.withdraw e)).control = (a.withdraw e).control :=
      onlyIn_voided _ _ _ .control (by decide)
    rw [removeQueued_of_some queued, withdrawn, ← wanted]
    rfl

section Sound

variable {s : State} (origins : (s.probes.list.map (·.origin)).Nodup) (tags : (s.probes.list.map (·.tag)).Nodup) (p : Port)

include origins tags

/-- The purposes of the want set and of the QUEUED entry conclude VOID as they stood before, and no QUEUED entry is left. -/
theorem roleVoided_agrees : AgreesOff p (s.roleVoided p) (VoidedPort p s) ∧
    ∀ y ∈ (s.roleVoided p).probes.list, y.origin = p → y.expiry ≠ none := by
  have start : AgreesOff p (s.setPort p (s.port p).cleared) s :=
    (onlyIn_setPort s p _).agreesOff (by decide) (fun q hq => State.port_setPort_of_ne s p q _ hq.symm) fun _ _ => Iff.rfl
  have wanted := start.voided p (s.port p).wants
  obtain ⟨f, same, list, concludes⟩ := voided_entries p (s.port p).wants (s.setPort p (s.port p).cleared)
  rw [roleVoided_eq]
  generalize Voided p (s.port p).wants (s.setPort p (s.port p).cleared) = a at wanted list concludes
  have found : a.queuedEntry p = (s.queuedEntry p).map f := by
    rw [State.queuedEntry, list]
    exact find?_queued_map (fun e => (same e).2) p _
  have origins_a : (a.probes.list.map (·.origin)).Nodup := by simpa [list, Function.comp_def, same] using origins
  have tags_a : (a.probes.list.map (·.tag)).Nodup := by simpa [list, Function.comp_def, same] using tags
  unfold VoidedPort
  dsimp only
  cases queued : s.queuedEntry p with
  | none =>
    rw [queued, Option.map_none] at found
    rw [removeQueued_of_none found]
    exact ⟨wanted, (queuedEntry_isNone_iff a p).1 (by rw [found]; rfl)⟩
  | some e =>
    rw [queued, Option.map_some] at found
    obtain ⟨held, origin⟩ := queuedEntry_some found
    rw [removeQueued_of_some found, concludes e p (a.withdraw (f e)) rfl]
    have withdrawn := (withdraw_agrees tags_a held origin).trans wanted
    refine ⟨withdrawn.voided p e.purposes, fun y hy at_p => ?_⟩
    obtain ⟨g, kept, left, -⟩ := voided_entries p e.purposes (a.withdraw (f e))
    rw [left] at hy
    obtain ⟨x, hx, rfl⟩ := List.mem_map.1 hy
    exact absurd ((kept x).2.1 ▸ at_p) (withdraw_origins origins_a held origin x hx)

end Sound

/-! ### The port under its new role (R34, R110, R112) -/

theorem mem_mapPurposes_of_ne {s : State} {p : Port} {f : Purposes → Purposes} {y : ProbeEntry} (hy : y.origin ≠ p) :
    y ∈ (s.mapPurposes p f).probes.list ↔ y ∈ s.probes.list := by
  refine List.mem_map.trans ⟨fun ⟨x, hx, eq⟩ => ?_, fun hm => ⟨y, hm, if_neg hy⟩⟩
  split at eq
  · rename_i at_p
    exact absurd (eq ▸ at_p) hy
  · exact eq ▸ hx

theorem expiry_of_mem_mapPurposes {s : State} {p : Port} {f : Purposes → Purposes} {y : ProbeEntry}
    (hy : y ∈ (s.mapPurposes p f).probes.list) : ∃ x ∈ s.probes.list, x.origin = y.origin ∧ x.expiry = y.expiry := by
  obtain ⟨x, hx, rfl⟩ := List.mem_map.1 hy
  exact ⟨x, hx, by split <;> rfl, by split <;> rfl⟩

theorem mem_enter_of_ne {s : State} {p : Port} (x : PortState) {y : ProbeEntry} (hy : y.origin ≠ p) :
    y ∈ (s.enter p x).probes.list ↔ y ∈ s.probes.list := by
  rw [enter_probes]
  unfold State.leaveState
  split
  · exact mem_mapPurposes_of_ne hy
  · exact mem_mapPurposes_of_ne hy
  · exact Iff.rfl

theorem expiry_of_mem_enter {s : State} {p : Port} {x : PortState} {y : ProbeEntry} (hy : y ∈ (s.enter p x).probes.list) :
    ∃ z ∈ s.probes.list, z.origin = y.origin ∧ z.expiry = y.expiry := by
  rw [enter_probes] at hy
  unfold State.leaveState at hy
  split at hy
  · exact expiry_of_mem_mapPurposes hy
  · exact expiry_of_mem_mapPurposes hy
  · exact ⟨y, hy, rfl, rfl⟩

/-- A port without purposes has none to break when it leaves its state (R77, log 8). -/
theorem wants_leaveState_of_empty {s : State} {p : Port} (none : (s.port p).wants = Purposes.empty) :
    ((s.leaveState p).port p).wants = Purposes.empty := by
  unfold State.leaveState
  split
  · rw [port_mapPurposes, if_pos rfl, none]; rfl
  · rw [port_mapPurposes, if_pos rfl, none]; rfl
  · exact none

/-- The port in the state of its new role, its meters restarted, before a LINKUP want. -/
def State.roleEntered (u : State) (p : Port) (role : Role) : State :=
  ((((u.setPort p { u.port p with role := role }).enter p (stateForRole role (u.port p).linkUp)).restartForRole p role))

theorem changeRole_eq (s : State) (p : Port) (role : Role) : s.changeRole p role =
    let v := ((s.roleVoided p).roleEntered p role).forgetReport p (s.port p).role role
    if stateForRole role ((s.roleVoided p).port p).linkUp = .priming then v.setWant p .linkup else v := by
  have link : (((s.roleVoided p).setPort p { (s.roleVoided p).port p with role := role }).port p).linkUp =
      ((s.roleVoided p).port p).linkUp := by rw [State.port_setPort_self]
  unfold State.changeRole
  dsimp only
  rw [← State.roleVoided, link]
  rfl

theorem stateForRole_not_shut (role : Role) (link : Bool) : (stateForRole role link).shutForTrip = false := by
  cases role <;> cases link <;> rfl

theorem stateForRole_eq (role : Role) (link : Bool) :
    stateForRole role link = if role = .off then .unguarded else if link then .priming else .down := by
  cases role <;> rfl

theorem stateForRole_priming_iff (role : Role) (link : Bool) :
    stateForRole role link = .priming ↔ role ≠ .off ∧ link = true := by
  cases role <;> cases link <;> decide

section Entered

variable {u : State} {p : Port}

theorem onlyIn_entered (u : State) (p : Port) (role : Role) (x : PortState) :
    OnlyIn [.ports, .probes, .control, .trips] u ((u.setPort p { u.port p with role := role }).enter p x) :=
  (onlyIn_enter _ p x).step (by decide) ((onlyIn_setPort u p _).mono (by decide))

theorem onlyIn_roleEntered (u : State) (p : Port) (role : Role) :
    OnlyIn [.ports, .probes, .control, .trips, .meters] u (u.roleEntered p role) :=
  (onlyIn_restartForRole _ p role).step (by decide) ((onlyIn_entered u p role _).mono (by decide))

theorem port_roleEntered_of_ne (role : Role) {q : Port} (h : q ≠ p) : (u.roleEntered p role).port q = u.port q :=
  (port_enter_of_ne _ _ h).trans (State.port_setPort_of_ne u p q _ h.symm)

theorem port_roleEntered_self (role : Role) (none : (u.port p).wants = Purposes.empty) :
    (u.roleEntered p role).port p = { u.port p with
      role := role, state := stateForRole role (u.port p).linkUp, holdOff := 0, calm := 0, decay := 0 } := by
  have wants := wants_leaveState_of_empty (s := u.setPort p { u.port p with role := role }) (p := p)
    (by rw [State.port_setPort_self]; exact none)
  refine (port_enter_self _ p _).trans ?_
  rw [wants, State.port_setPort_self, ← none]

theorem roleEntered_agrees (u : State) (p : Port) (role : Role) : AgreesOff p (u.roleEntered p role) u :=
  (onlyIn_roleEntered u p role).agreesOff (by decide) (fun _ hq => port_roleEntered_of_ne role hq)
    fun _ hy => mem_enter_of_ne (s := u.setPort p { u.port p with role := role }) _ hy

theorem roleEntered_trips (u : State) (p : Port) (role : Role) : (u.roleEntered p role).trips = removeTrip p u.trips :=
  (enter_trips _ p _).trans (if_neg (by simp [stateForRole_not_shut]))

theorem roleEntered_pendingGate (u : State) (p : Port) (role : Role) : (u.roleEntered p role).control.pendingGate =
    if gateOf (u.port p).state = gateOf (stateForRole role (u.port p).linkUp) then u.control.pendingGate
    else u.control.pendingGate.set p (some (gateOf (stateForRole role (u.port p).linkUp))) := by
  have control := enter_control (u.setPort p { u.port p with role := role }) p (stateForRole role (u.port p).linkUp)
  rw [State.port_setPort_self] at control
  refine (congrArg Control.pendingGate control).trans ?_
  dsimp only
  split <;> rfl

theorem portMeters_roleEntered_self (u : State) (p : Port) (role : Role) (k : TrafficClass) :
    ((u.roleEntered p role).portMeters p).get k = Meter.restartedWith (u.profile.meters.get k)
      (baseForRole (u.profile.meters.get k) role ((u.portMeters p).get k).base) := by
  have frame := onlyIn_entered u p role (stateForRole role (u.port p).linkUp)
  have profile : ((u.setPort p { u.port p with role := role }).enter p (stateForRole role (u.port p).linkUp)).profile =
    u.profile := frame .profile (by decide)
  rw [State.roleEntered, portMeters_restartForRole_self, profile, State.portMeters_congr (frame .meters (by decide))]

theorem portMeters_roleEntered_of_ne (role : Role) {q : Port} (h : q ≠ p) :
    (u.roleEntered p role).portMeters q = u.portMeters q :=
  (portMeters_restartForRole_of_ne _ role h).trans (State.portMeters_congr (onlyIn_entered u p role _ .meters (by decide)) q)

end Entered

/-! ### The role change as a whole (R110) -/

theorem port_voided (p : Port) (u : Purposes) (s : State) (q : Port) :
    (Voided p u s).port q = { s.port q with wants := ((Voided p u s).port q).wants } := by
  obtain ⟨ports, -⟩ | ⟨-, port, -⟩ := voided_cases p u s
  · rw [State.port_congr ports q]
  · rw [port, port_dropSweeps]

theorem port_voidedPort (p : Port) (s : State) (q : Port) :
    (VoidedPort p s).port q = { s.port q with wants := ((VoidedPort p s).port q).wants } := by
  unfold VoidedPort
  dsimp only
  split
  · rw [port_voided, port_voided p (s.port p).wants s q]
  · exact port_voided p _ s q

theorem probes_setWant_of_unqueued {s : State} {p : Port} (w : Want) (unqueued : (s.queuedEntry p).isNone = true) :
    (s.setWant p w).probes = s.probes := by
  rw [setWant_probes, if_neg (by simpa using unqueued)]

/-- After its entry into the state of its role, a port has its report forgotten and LINKUP set, and nothing else moves. -/
theorem onlyIn_changeRole_of_entered (s : State) (p : Port) (role : Role) :
    OnlyIn [.ports, .probes, .reports] ((s.roleVoided p).roleEntered p role) (s.changeRole p role) := by
  have forgotten := onlyIn_forgetReport ((s.roleVoided p).roleEntered p role) p (s.port p).role role
  rw [changeRole_eq]
  dsimp only
  split
  · exact (onlyIn_wantLinkup _ p).step (by decide) (forgotten.mono (by decide))
  · exact forgotten.mono (by decide)

theorem linkUp_roleVoided (s : State) (p : Port) : ((s.roleVoided p).port p).linkUp = (s.port p).linkUp := by
  rw [port_roleVoided_self]
  rfl

theorem state_roleVoided (s : State) (p : Port) : ((s.roleVoided p).port p).state = (s.port p).state := by
  rw [port_roleVoided_self]
  rfl

/-- What a role change does to the probe list and the port table after the port has entered the state of its role. -/
theorem changeRole_of_entered {s : State} {p : Port} {role : Role}
    (unqueued : ∀ y ∈ ((s.roleVoided p).roleEntered p role).probes.list, y.origin = p → y.expiry ≠ none) :
    (s.changeRole p role).probes = ((s.roleVoided p).roleEntered p role).probes ∧
    ∀ q, (s.changeRole p role).port q = { ((s.roleVoided p).roleEntered p role).port q with
      wants := if p = q ∧ stateForRole role (s.port p).linkUp = .priming then
          (((s.roleVoided p).roleEntered p role).port p).wants.add .linkup
        else (((s.roleVoided p).roleEntered p role).port q).wants } := by
  rw [changeRole_eq, linkUp_roleVoided]
  have forgotten := onlyIn_forgetReport ((s.roleVoided p).roleEntered p role) p (s.port p).role role
  dsimp only
  generalize ((s.roleVoided p).roleEntered p role).forgetReport p (s.port p).role role = v at forgotten
  generalize (s.roleVoided p).roleEntered p role = u at forgotten unqueued
  have probes : v.probes = u.probes := forgotten .probes (by decide)
  have port : ∀ q, v.port q = u.port q := State.port_congr (forgotten .ports (by decide))
  have none : (v.queuedEntry p).isNone = true := (queuedEntry_isNone_iff v p).2 (probes ▸ unqueued)
  split
  · rename_i priming
    refine ⟨(probes_setWant_of_unqueued _ none).trans probes, fun q => ?_⟩
    simp [port_setWant, port, none, priming]
  · rename_i shut
    exact ⟨probes, fun q => by simp [port, shut]⟩

section Sound

variable {s : State} (origins : (s.probes.list.map (·.origin)).Nodup) (tags : (s.probes.list.map (·.tag)).Nodup) (p : Port)
  (role : Role)

include origins tags

theorem roleEntered_unqueued :
    ∀ y ∈ ((s.roleVoided p).roleEntered p role).probes.list, y.origin = p → y.expiry ≠ none := fun y hy at_p => by
  have entered : ((s.roleVoided p).roleEntered p role).probes =
      (((s.roleVoided p).setPort p { (s.roleVoided p).port p with role := role }).enter p
        (stateForRole role ((s.roleVoided p).port p).linkUp)).probes := onlyIn_restartForRole _ p role .probes (by decide)
  rw [entered] at hy
  obtain ⟨z, hz, origin, expiry⟩ := expiry_of_mem_enter hy
  exact expiry ▸ (roleVoided_agrees origins tags p).2 z hz (origin.trans at_p)

theorem changeRole_unqueued : ∀ y ∈ (s.changeRole p role).probes.list, y.origin = p → y.expiry ≠ none := by
  have unqueued := roleEntered_unqueued origins tags p role
  rw [(changeRole_of_entered unqueued).1]
  exact unqueued

theorem changeRole_agrees : AgreesOff p (s.changeRole p role) (VoidedPort p s) := by
  obtain ⟨probes, port⟩ := changeRole_of_entered (roleEntered_unqueued origins tags p role)
  have entered : AgreesOff p (s.changeRole p role) ((s.roleVoided p).roleEntered p role) :=
    (onlyIn_changeRole_of_entered s p role).agreesOff (by decide)
      (fun q hq => by rw [port, if_neg fun both => hq both.1.symm]) fun y _ => by rw [probes]
  exact entered.trans ((roleEntered_agrees _ p role).trans (roleVoided_agrees origins tags p).1)

theorem port_changeRole_self : (s.changeRole p role).port p =
    { role := role, state := stateForRole role (s.port p).linkUp, linkUp := (s.port p).linkUp, strikes := 0, holdOff := 0,
      calm := 0, decay := 0, linkup := .unset,
      wants := if stateForRole role (s.port p).linkUp = .priming then { Purposes.empty with linkup := true }
        else Purposes.empty } := by
  have bare : ((s.roleVoided p).port p).wants = Purposes.empty := by rw [port_roleVoided_self]; rfl
  have entered := port_roleEntered_self role bare
  rw [port_roleVoided_self] at entered
  rw [(changeRole_of_entered (roleEntered_unqueued origins tags p role)).2 p, entered]
  simp only [true_and]
  rfl

end Sound

theorem changeRole_trips (s : State) (p : Port) (role : Role) : (s.changeRole p role).trips = removeTrip p s.trips := by
  have after : (s.changeRole p role).trips = ((s.roleVoided p).roleEntered p role).trips :=
    onlyIn_changeRole_of_entered s p role .trips (by decide)
  have before : (s.roleVoided p).trips = s.trips := onlyIn_roleVoided s p .trips (by decide)
  rw [after, roleEntered_trips, before]

theorem changeRole_pendingGate (s : State) (p : Port) (role : Role) : (s.changeRole p role).control.pendingGate =
    if gateOf (s.port p).state = gateOf (stateForRole role (s.port p).linkUp) then s.control.pendingGate
    else s.control.pendingGate.set p (some (gateOf (stateForRole role (s.port p).linkUp))) := by
  have after : (s.changeRole p role).control = ((s.roleVoided p).roleEntered p role).control :=
    onlyIn_changeRole_of_entered s p role .control (by decide)
  rw [after, roleEntered_pendingGate, pendingGate_roleVoided, linkUp_roleVoided, state_roleVoided]

theorem portMeters_changeRole_self (s : State) (p : Port) (role : Role) (k : TrafficClass) :
    ((s.changeRole p role).portMeters p).get k = Meter.restartedWith (s.profile.meters.get k)
      (baseForRole (s.profile.meters.get k) role ((s.portMeters p).get k).base) := by
  have after : (s.changeRole p role).meters = ((s.roleVoided p).roleEntered p role).meters :=
    onlyIn_changeRole_of_entered s p role .meters (by decide)
  have meters : (s.roleVoided p).meters = s.meters := onlyIn_roleVoided s p .meters (by decide)
  have profile : (s.roleVoided p).profile = s.profile := onlyIn_roleVoided s p .profile (by decide)
  rw [State.portMeters_congr after, portMeters_roleEntered_self, profile, State.portMeters_congr meters]

theorem portMeters_changeRole_of_ne (s : State) {p q : Port} (role : Role) (h : q ≠ p) :
    (s.changeRole p role).portMeters q = s.portMeters q := by
  have after : (s.changeRole p role).meters = ((s.roleVoided p).roleEntered p role).meters :=
    onlyIn_changeRole_of_entered s p role .meters (by decide)
  have meters : (s.roleVoided p).meters = s.meters := onlyIn_roleVoided s p .meters (by decide)
  rw [State.portMeters_congr after, portMeters_roleEntered_of_ne role h, State.portMeters_congr meters]

/-! ### PORT ROLE (R109) -/

theorem reqPortRole_same (s : State) (p : Port) : s.reqPortRole (portByte p) (roleCode (s.port p).role) =
    (s, [stOk, portByte p, roleCode (s.port p).role, stateCode (s.port p).state]) := by
  unfold State.reqPortRole
  rw [portOf_portByte, roleOf_roleCode]
  dsimp only
  rw [if_pos rfl]

theorem reqPortRole_new (s : State) (p : Port) {role : Role} (new : role ≠ (s.port p).role) :
    s.reqPortRole (portByte p) (roleCode role) = (s.changeRole p role,
      [stOk, portByte p, roleCode ((s.changeRole p role).port p).role, stateCode ((s.changeRole p role).port p).state]) := by
  unfold State.reqPortRole
  rw [portOf_portByte, roleOf_roleCode]
  dsimp only
  rw [if_neg new.symm]

/-- Settles O53: the refusals, the role in force, and the new role by what `State.changeRole` does in the state that has heard
the frame. -/
theorem portRoleRestartsThePort : Obligations.PortRoleRestartsThePort := by
  intro s tag p takes
  refine ⟨fun port role high => ?_, fun role high => ?_, ?_, fun role sound new => ?_⟩
  · refine congrArg Host.Outcome.next (closed_request_replied takes 0x09 tag (t := s) ?_)
    rw [State.reqPortRole, portOf_of_ge high]
    rfl
  · refine congrArg Host.Outcome.next (closed_request_replied takes 0x09 tag (t := s) ?_)
    rw [State.reqPortRole, portOf_portByte, roleOf_of_ge high]
    rfl
  · exact congrArg Host.Outcome.next
      (closed_request_replied takes 0x09 tag (t := s) (reqPortRole_same (s.setMgmt s.mgmt.heard) p))
  · obtain ⟨-, origins, tags, -⟩ := sound
    have run := (closed_request_of_takes takes 0x09 tag false fun t => t.reqPortRole (portByte p) (roleCode role)).trans
      (congrArg (Answer.fill _ tag false) (reqPortRole_new (s.setMgmt s.mgmt.heard) p new))
    have self := port_changeRole_self (s := s.setMgmt s.mgmt.heard) origins tags p role
    have off := changeRole_agrees (s := s.setMgmt s.mgmt.heard) origins tags p role
    have unqueued := changeRole_unqueued (s := s.setMgmt s.mgmt.heard) origins tags p role
    have frame := onlyIn_changeRole (s.setMgmt s.mgmt.heard) p role
    have trips := changeRole_trips (s.setMgmt s.mgmt.heard) p role
    have gate := changeRole_pendingGate (s.setMgmt s.mgmt.heard) p role
    have meters := portMeters_changeRole_self (s.setMgmt s.mgmt.heard) p role
    have others := fun q => portMeters_changeRole_of_ne (s.setMgmt s.mgmt.heard) (p := p) (q := q) role
    have kept := port_voidedPort p (s.setMgmt s.mgmt.heard)
    generalize (s.setMgmt s.mgmt.heard).changeRole p role = c at *
    have state : (c.port p).state = stateForRole role (s.port p).linkUp := by rw [self]; rfl
    refine ⟨_, congrArg Host.Outcome.next run, ?_,
      fun y hy at_p => Option.isSome_iff_ne_none.2 (unqueued y hy at_p), trips, ?_, meters, ⟨off.sweep, ?_, off.port, off.entry⟩, fun q hq => ⟨?_, others q hq⟩,
      onlyIn_answered _ tag false (frame.mono (by decide)) (by decide)⟩
    · have wants := if_congr (stateForRole_priming_iff role (s.port p).linkUp)
        (Eq.refl { Purposes.empty with linkup := true }) (Eq.refl Purposes.empty)
      rw [fill_port, ← stateForRole_eq, ← wants]
      exact self
    · rw [fill_port, state]
      exact gate
    · rw [fill_mgmt, fill_port, off.mgmt, self]
      rfl
    · rw [fill_port, off.port q hq]
      exact kept q

end Sys2Proof.Machine
end

section
/-! SAMPLE_DISPATCH (R9): a sample is dropped, refreshes an entry, is learned, evicts, or is a move that may make a flap (R48 to
R54). -/

namespace Sys2Proof.Machine

/-! ### What a sample does (R49 to R52) -/

theorem forwarding_iff (x : PortState) : x.forwarding = true ↔ x = .opened ∨ x = .limited := by
  cases x <;> simp [PortState.forwarding]

theorem sampleTaken_iff (s : State) (p : Port) : s.sampleTaken p = true ↔
    (s.port p).role ≠ .off ∧ ((s.port p).state = .opened ∨ (s.port p).state = .limited) := by
  rw [State.sampleTaken, State.guarded, Bool.and_eq_true, forwarding_iff, bne_iff_ne]

@[simp] theorem sampleTaken_popFifo (s : State) (rest : List SightingRecord) (p : Port) :
    (s.popFifo rest).sampleTaken p = s.sampleTaken p := rfl

theorem onlyIn_popFifo (s : State) (rest : List SightingRecord) : OnlyIn [.receiver] s (s.popFifo rest) :=
  onlyIn_setReceiver s _

theorem exec_sampleDispatch {s : State} {p : Port} {a : Address} {rest : List SightingRecord} (due : s.due = [])
    (head : s.receiver.fifo = .sample p a :: rest) : exec .sampleDispatch s = .next ((s.popFifo rest).learn p a) := by
  refine congrArg Host.Outcome.next ?_
  rw [close_of_due_nil s due]
  unfold State.dispatchSample
  rw [head]

theorem learn_dropped {s : State} {p : Port} (a : Address) (shut : s.sampleTaken p = false) : s.learn p a = s := by
  rw [State.learn, shut]
  rfl

section Taken

variable {s : State} {p : Port} (taken : s.sampleTaken p = true) {a : Address}

include taken

theorem learn_unknown (unknown : findStation a s.stations = none) :
    s.learn p a = s.setStations (insertStation a p s.second false s.stations) := by
  rw [State.learn, if_pos taken, unknown]

theorem learn_at_home {e : StationEntry} (found : findStation a s.stations = some e) (home : e.home = p) :
    s.learn p a = s.setStations (updateStation a (fun x => { x with lastSeen := s.second }) s.stations) := by
  rw [State.learn, if_pos taken, found]
  exact if_pos home

theorem learn_away {e : StationEntry} (found : findStation a s.stations = some e) (away : e.home ≠ p) :
    s.learn p a = s.moveStation e p := by
  rw [State.learn, if_pos taken, found]
  exact if_neg away

end Taken

/-! ### Positions (R48) -/

theorem held_below_lowestFree : ∀ (t : List StationEntry) (n : Nat) {k : Nat}, n ≤ k → k < lowestFree t n →
    ∃ e ∈ t, e.position = k
  | [], _, _, from_n, below => absurd below (not_lt.2 from_n)
  | e :: rest, n, k, from_n, below => by
    unfold lowestFree at below
    split at below
    case isTrue here =>
      obtain rfl | above := from_n.eq_or_lt
      · exact ⟨e, List.mem_cons_self, here⟩
      · obtain ⟨x, hx, at_k⟩ := held_below_lowestFree rest (n + 1) above below
        exact ⟨x, List.mem_cons_of_mem _ hx, at_k⟩
    case isFalse => exact absurd below (not_lt.2 from_n)

theorem makeRoom_of_short {t : List StationEntry} (short : t.length < 512) : makeRoom t = t := if_pos short

theorem makeRoom_of_full {t : List StationEntry} {v : StationEntry} (full : t.length = 512)
    (victim : evictionVictim t = some v) : makeRoom t = removeAt v.position t := by
  rw [makeRoom, if_neg (by omega), victim]

section Rising

variable {t : List StationEntry} (rising : (t.map (·.position)).Pairwise (· < ·))

include rising

theorem positions_nodup : (t.map (·.position)).Nodup := rising.imp Nat.ne_of_lt

/-- A full table holds every position. -/
theorem held_of_full (full : t.length = 512) (below : ∀ e ∈ t, e.position < 512) {k : Nat} (hk : k < 512) :
    ∃ e ∈ t, e.position = k := by
  have range : t.map (·.position) ⊆ List.range 512 := fun n hn => by
    obtain ⟨e, he, rfl⟩ := List.mem_map.1 hn
    exact List.mem_range.2 (below e he)
  have perm := ((positions_nodup rising).subperm range).perm_of_length_le (by simp [full])
  exact List.mem_map.1 (perm.mem_iff.2 (List.mem_range.2 hk))

theorem mem_removeAt_iff {v : StationEntry} (held : v ∈ t) (e : StationEntry) :
    e ∈ removeAt v.position t ↔ e ∈ t ∧ e ≠ v := by
  rw [removeAt, List.mem_filter, bne_iff_ne]
  have only : e ∈ t → (e.position = v.position ↔ e = v) := fun he =>
    ⟨List.inj_on_of_nodup_map (positions_nodup rising) he held, congrArg _⟩
  exact and_congr_right fun he => not_congr (only he)

theorem removeAt_perm {v : StationEntry} (held : v ∈ t) : t.Perm (v :: removeAt v.position t) := by
  have distinct : t.Nodup := List.Nodup.of_map _ (positions_nodup rising)
  have gone : v ∉ removeAt v.position t := fun h => ((mem_removeAt_iff rising held v).1 h).2 rfl
  refine (List.perm_ext_iff_of_nodup distinct (List.nodup_cons.2 ⟨gone, distinct.filter _⟩)).2 fun e => ?_
  rw [List.mem_cons, mem_removeAt_iff rising held]
  by_cases same : e = v
  · simp [same, held]
  · simp [same]

/-- A full table without one entry has that entry's position free and no other. -/
theorem lowestFree_removeAt (full : t.length = 512) (below : ∀ e ∈ t, e.position < 512) {v : StationEntry} (held : v ∈ t) :
    lowestFree (removeAt v.position t) 0 = v.position := by
  have kept := mem_removeAt_iff rising held
  obtain ⟨-, free⟩ := lowestFree_spec (removeAt v.position t) 0 (rising.sublist (List.filter_sublist.map _))
    fun _ _ => Nat.zero_le _
  obtain lower | same | higher := Nat.lt_trichotomy (lowestFree (removeAt v.position t) 0) v.position
  · obtain ⟨e, he, at_free⟩ := held_of_full rising full below (lower.trans (below v held))
    exact absurd at_free (free e ((kept e).2 ⟨he, fun is_v => by subst is_v; omega⟩))
  · exact same
  · obtain ⟨e, he, at_v⟩ := held_below_lowestFree _ 0 (Nat.zero_le _) higher
    exact absurd at_v (by simpa using (List.mem_filter.1 he).2)

end Rising

/-! ### The victim of an eviction (R50) -/

/-- An eviction takes `v` no later than `e`: `v` has the older last-seen, or the same and the lower position. -/
def StationEntry.EvictedFirst (v e : StationEntry) : Prop :=
  v.lastSeen.toNat ≤ e.lastSeen.toNat ∧ (e.lastSeen = v.lastSeen → v.position ≤ e.position)

theorem StationEntry.EvictedFirst.refl (v : StationEntry) : v.EvictedFirst v := ⟨Nat.le_refl _, fun _ => Nat.le_refl _⟩

theorem StationEntry.EvictedFirst.trans {v e x : StationEntry} (h : v.EvictedFirst e) (k : e.EvictedFirst x) :
    v.EvictedFirst x := by
  refine ⟨h.1.trans k.1, fun same => ?_⟩
  have seen : e.lastSeen = v.lastSeen := BitVec.eq_of_toNat_eq (Nat.le_antisymm (same ▸ k.1) h.1)
  exact (h.2 seen).trans (k.2 (same.trans seen.symm))

/-- Of two entries, the one at the lower position first, `olderStation` keeps the one that an eviction takes. -/
theorem olderStation_evictedFirst {b e : StationEntry} (before : b.position < e.position) :
    (olderStation b e).EvictedFirst b ∧ (olderStation b e).EvictedFirst e := by
  unfold olderStation
  split
  case isTrue older =>
    exact ⟨⟨older.le, fun same => absurd older (same ▸ Nat.lt_irrefl _)⟩, .refl e⟩
  case isFalse notOlder => exact ⟨.refl b, not_lt.1 notOlder, fun _ => before.le⟩

theorem foldl_olderOf_evictedFirst {v : StationEntry} : ∀ (l : List StationEntry) (b : StationEntry),
    ((b :: l).map (·.position)).Pairwise (· < ·) → l.foldl olderOf (some b) = some v → ∀ e ∈ b :: l, v.EvictedFirst e
  | [], b, _, found, e, he => by
    obtain rfl := Option.some.inj found
    obtain rfl := List.mem_singleton.1 he
    exact .refl _
  | x :: rest, b, rising, found, e, he => by
    obtain ⟨first, later⟩ := List.pairwise_cons.1 rising
    obtain ⟨first_b, first_x⟩ := olderStation_evictedFirst (first x.position List.mem_cons_self)
    have risingOn : ((olderStation b x :: rest).map (·.position)).Pairwise (· < ·) := by
      unfold olderStation
      split
      · exact later
      · exact rising.sublist (((List.sublist_cons_self x rest).cons_cons b).map _)
    have all := foldl_olderOf_evictedFirst rest (olderStation b x) risingOn found
    have best := all _ List.mem_cons_self
    obtain rfl | rfl | he := by simpa using he
    · exact best.trans first_b
    · exact best.trans first_x
    · exact all e (List.mem_cons_of_mem _ he)

theorem evictionVictim_spec {t : List StationEntry} {v : StationEntry} (rising : (t.map (·.position)).Pairwise (· < ·))
    (victim : evictionVictim t = some v) : v.pinned = false ∧ ∀ e ∈ t, e.pinned = false → v.EvictedFirst e := by
  rw [evictionVictim_eq] at victim
  have unpinned : v ∈ t.filter fun e => !e.pinned := (foldl_olderOf_mem _ _ victim).resolve_right (by simp)
  refine ⟨by simpa using (List.mem_filter.1 unpinned).2, fun e he free => ?_⟩
  have candidate : e ∈ t.filter fun e => !e.pinned := List.mem_filter.2 ⟨he, by simp [free]⟩
  have sub := rising.sublist ((List.filter_sublist (p := fun e : StationEntry => !e.pinned)).map (·.position))
  generalize t.filter (fun e => !e.pinned) = l at *
  cases l with
  | nil => exact absurd candidate List.not_mem_nil
  | cons b rest => exact foldl_olderOf_evictedFirst rest b sub victim e candidate

/-! ### An insertion (R48, R50) -/

theorem insertStation_perm (a : Address) (home : Port) (now : Word) (pinned : Bool) (t : List StationEntry) :
    (insertStation a home now pinned t).Perm
      ({ position := lowestFree (makeRoom t) 0, address := a, home := home, lastSeen := now, pinned := pinned, moves := [] } ::
        makeRoom t) := placeStation_perm _ _

/-- A full table gives the new entry the place of its victim. -/
theorem insertStation_of_full {t : List StationEntry} (full : t.length = 512)
    (rising : (t.map (·.position)).Pairwise (· < ·)) (below : ∀ e ∈ t, e.position < 512)
    (unpinned : ∃ e ∈ t, e.pinned = false) : ∃ v ∈ t, v.pinned = false ∧ (∀ e ∈ t, e.pinned = false → v.EvictedFirst e) ∧
      ∀ (a : Address) (home : Port) (now : Word) (pinned : Bool), (insertStation a home now pinned t).Perm
        ({ position := v.position, address := a, home := home, lastSeen := now, pinned := pinned, moves := [] } ::
          removeAt v.position t) := by
  obtain ⟨v, victim⟩ := Option.isSome_iff_exists.1 (evictionVictim_isSome unpinned)
  have held := evictionVictim_mem victim
  obtain ⟨free, first⟩ := evictionVictim_spec rising victim
  refine ⟨v, held, free, first, fun a home now pinned => ?_⟩
  have perm := insertStation_perm a home now pinned t
  rwa [makeRoom_of_full full victim, lowestFree_removeAt rising full below held] at perm

/-- Settles O23: the sample is dropped by `learn_dropped`, refreshes by `learn_at_home`, and is inserted at the lowest free
position by `learn_unknown`. -/
theorem sampleLearnsRefreshesOrIsDropped : Obligations.SampleLearnsRefreshesOrIsDropped := by
  intro s p a rest due head
  have run := exec_sampleDispatch due head
  refine ⟨fun shut => ?_, fun role opened => ⟨fun e found home => ?_, fun unknown short rising => ?_⟩⟩
  · have dropped : (s.popFifo rest).sampleTaken p = false := by
      rw [sampleTaken_popFifo, Bool.eq_false_iff, ne_eq, sampleTaken_iff]
      tauto
    rw [run, learn_dropped a dropped]
    rfl
  · have taken : (s.popFifo rest).sampleTaken p = true := (sampleTaken_iff s p).2 ⟨role, opened⟩
    rw [run, learn_at_home taken found home]
    rfl
  · have taken : (s.popFifo rest).sampleTaken p = true := (sampleTaken_iff s p).2 ⟨role, opened⟩
    obtain ⟨-, free⟩ := lowestFree_spec s.stations 0 rising fun _ _ => Nat.zero_le _
    have perm := insertStation_perm a p s.second false s.stations
    have placed : insertStation a p s.second false s.stations = placeStation _ (makeRoom s.stations) := rfl
    rw [makeRoom_of_short short] at perm placed
    refine ⟨_, _, run.trans (congrArg _ (learn_unknown taken unknown)), rfl, rfl, rfl, rfl, rfl, rfl, free,
      fun n below => held_below_lowestFree _ 0 (Nat.zero_le n) below, perm, ?_, ?_⟩
    · exact (congrArg (fun l => (l.map (·.position)).Pairwise (· < ·)) placed).mpr
        (placeStation_rising _ s.stations rising free)
    · exact ((onlyIn_popFifo s rest).mono (by decide)).trans ((onlyIn_setStations _ _).mono (by decide))

/-- Settles O24: the place of the victim is the one free place of the full table without it. -/
theorem fullTableEvictsOldestUnpinned : Obligations.FullTableEvictsOldestUnpinned := by
  refine ⟨fun t a home now pinned full rising below unpinned => ?_,
    fun s p a rest due head role opened unknown full rising below unpinned => ?_⟩
  · obtain ⟨v, held, free, first, perm⟩ := insertStation_of_full full rising below unpinned
    refine ⟨v, held, free, fun e he h => (first e he h).1, fun e he h => (first e he h).2, fun e => ?_⟩
    rw [(perm a home now pinned).mem_iff, List.mem_cons, mem_removeAt_iff rising held]
    exact or_comm
  · have taken : (s.popFifo rest).sampleTaken p = true := (sampleTaken_iff s p).2 ⟨role, opened⟩
    obtain ⟨v, held, free, first, perm⟩ := insertStation_of_full full rising below unpinned
    have learned := perm a p s.second false
    refine ⟨_, (exec_sampleDispatch due head).trans (congrArg _ (learn_unknown taken unknown)), rfl,
      ((onlyIn_popFifo s rest).mono (by decide)).trans ((onlyIn_setStations _ _).mono (by decide)),
      learned.length_eq.trans ((removeAt_perm rising held).length_eq.symm.trans full),
      v, held, free, fun e he h => (first e he h).1, fun e he h => (first e he h).2, fun e => ?_⟩
    refine learned.mem_iff.trans ?_
    rw [List.mem_cons, mem_removeAt_iff rising held]
    exact or_comm

end Sys2Proof.Machine
end

section
/-! Moves and flaps (R52 to R54): the FLAP wants of the two ports, and what a move does with and without a flap. -/

namespace Sys2Proof.Machine

/-! ### Purposes joined on several ports (R62) -/

/-- Joining purposes changes no entry's origin or expiry, so a port without a QUEUED entry stays without one. -/
theorem PurposeJoined.unqueued_iff {on : Port → Bool} {f : Purposes → Purposes} {s t : State} (h : PurposeJoined on f s t)
    (q : Port) : (∀ e ∈ t.probes.list, e.origin = q → e.expiry ≠ none) ↔
      ∀ e ∈ s.probes.list, e.origin = q → e.expiry ≠ none := by
  have image : ∀ e : ProbeEntry, ∀ c : Prop, [Decidable c] →
      (((if c then { e with purposes := f e.purposes } else e).origin = q →
        (if c then { e with purposes := f e.purposes } else e).expiry ≠ none) ↔ (e.origin = q → e.expiry ≠ none)) := by
    intro e c _
    split <;> rfl
  rw [h.1, List.forall_mem_map]
  exact forall₂_congr fun e _ => image e _

/-- Purposes joined on some ports, and then on others, are joined on all of them. -/
theorem PurposeJoined.trans {on others : Port → Bool} {f : Purposes → Purposes} {s t u : State} (h : PurposeJoined on f s t)
    (k : PurposeJoined others f t u) (apart : ∀ q, on q = true → others q = false) :
    PurposeJoined (fun q => on q || others q) f s u := by
  obtain ⟨probes, wants⟩ := k
  constructor
  · rw [probes, h.1, List.map_map]
    refine congrArg (fun l => { s.probes with list := l }) (List.map_congr_left fun e _ => ?_)
    rw [Function.comp_apply]
    by_cases first : on e.origin = true
    · have second := apart e.origin first
      by_cases queued : e.expiry = none <;> simp [first, second, queued]
    · simp [first]
  · intro q
    simp only [wants, h.2, h.unqueued_iff q]
    by_cases first : on q = true
    · simp [first, apart q first]
    · simp [first]

theorem PurposeJoined.nowhere (f : Purposes → Purposes) (s : State) : PurposeJoined (fun _ => false) f s s := by
  refine ⟨?_, fun q => ?_⟩ <;> simp

theorem PurposeJoined.congr_on {on others : Port → Bool} {f : Purposes → Purposes} {s t : State} (h : PurposeJoined on f s t)
    (same : ∀ q, on q = others q) : PurposeJoined others f s t := funext same ▸ h

/-- What is joined depends on the ports' records and on the Probe Engine alone. -/
theorem PurposeJoined.congr_states {on : Port → Bool} {f : Purposes → Purposes} {s t s' t' : State}
    (h : PurposeJoined on f s t) (before : s'.probes = s.probes ∧ s'.ports = s.ports)
    (after : t'.probes = t.probes ∧ t'.ports = t.ports) : PurposeJoined on f s' t' := by
  obtain ⟨probes, wants⟩ := h
  refine ⟨by rw [after.1, before.1, probes], fun q => ?_⟩
  simp only [State.port_congr after.2, State.port_congr before.2, before.1, wants]

/-! ### The FLAP wants (R54) -/

theorem flapWant_taken {s : State} {p : Port} (taken : s.sampleTaken p = true) : s.flapWant p = s.setWant p .flap :=
  if_pos taken

theorem flapWant_shut {s : State} {p : Port} (shut : ¬ s.sampleTaken p = true) : s.flapWant p = s := if_neg shut

theorem port_flapWant (s : State) (p r : Port) :
    (s.flapWant p).port r = { s.port r with wants := ((s.flapWant p).port r).wants } := by
  by_cases taken : s.sampleTaken p = true
  · rw [flapWant_taken taken, port_setWant]
  · rw [flapWant_shut taken]

/-- A want changes no role and no state, so it leaves open which ports take a sample. -/
theorem sampleTaken_flapWant (s : State) (p r : Port) : (s.flapWant p).sampleTaken r = s.sampleTaken r := by
  rw [State.sampleTaken, State.guarded, port_flapWant]
  rfl

theorem flapWant_joined (s : State) (p : Port) :
    PurposeJoined (fun r => decide (r = p ∧ s.sampleTaken p = true)) (Purposes.add .flap) s (s.flapWant p) := by
  by_cases taken : s.sampleTaken p = true
  · rw [flapWant_taken taken]
    exact (setWant_joined s p .flap).congr_on fun r => by simp [taken]
  · rw [flapWant_shut taken]
    exact (PurposeJoined.nowhere _ s).congr_on fun r => by simp [taken]

/-! ### A flap (R54) -/

section Flap

variable (s : State) (a : Address) (p q : Port)

theorem port_flap (r : Port) : (s.flap a p q).port r = { s.port r with wants := ((s.flap a p q).port r).wants } := by
  have both : (s.flap a p q).port r = (((s.raise (.flap p q a s.second)).flapWant p).flapWant q).port r := rfl
  rw [both, port_flapWant, port_flapWant]
  rfl

theorem flap_stations :
    (s.flap a p q).stations = updateStation a (fun e => { e with moves := [] }) s.stations := by
  have wants : (((s.raise (.flap p q a s.second)).flapWant p).flapWant q).stations = s.stations :=
    ((onlyIn_flapWant _ p).trans (onlyIn_flapWant _ q)) .stations (by decide)
  exact congrArg (updateStation a _) wants

theorem flap_mgmt : (s.flap a p q).mgmt = s.mgmt.raise (.flap p q a s.second) :=
  ((onlyIn_flapWant (s.raise (.flap p q a s.second)) p).trans (onlyIn_flapWant _ q)) .mgmt (by decide)

variable {s p q}

theorem flap_joined (taken : s.sampleTaken p = true) (apart : q ≠ p) :
    PurposeJoined (fun r => decide (r = p ∨ r = q ∧ s.sampleTaken q = true)) (Purposes.add .flap) s (s.flap a p q) := by
  have first := flapWant_joined (s.raise (.flap p q a s.second)) p
  have second := flapWant_joined ((s.raise (.flap p q a s.second)).flapWant p) q
  rw [sampleTaken_flapWant] at second
  have joined := first.trans second fun r at_p => by
    obtain ⟨rfl, -⟩ := of_decide_eq_true at_p
    exact decide_eq_false fun at_q => apart at_q.1.symm
  have heard : (s.raise (.flap p q a s.second)).sampleTaken = s.sampleTaken := rfl
  exact (joined.congr_states (s' := s) (t' := s.flap a p q) ⟨rfl, rfl⟩ ⟨rfl, rfl⟩).congr_on fun r => by simp [heard, taken]

end Flap

/-! ### A move (R52, R53) -/

theorem flapFound_iff (limit window : Nat) (now : Half) (moves : List Move) : flapFound limit window now moves = true ↔
    limit ≤ moves.length ∧ ∀ m ∈ moves.take limit, (now - m.stamp).toNat < window := by
  rw [flapFound, Bool.and_eq_true, decide_eq_true_iff, List.all_eq_true]
  exact and_congr_right fun _ => forall₂_congr fun m _ => decide_eq_true_iff

/-- The partner of a flap is another port than the one moved to. -/
theorem flapPartner_ne {p home : Port} (away : home ≠ p) (newest : Move) (older : List Move) :
    flapPartner p home (newest :: older) ≠ p := by
  cases older with
  | nil => exact away
  | cons second rest =>
    rw [flapPartner]
    split
    · exact away
    · assumption

theorem moveStation_calm {s : State} {e : StationEntry} {p : Port}
    (calm : flapFound s.profile.flapLimit s.profile.flapWindow s.stamp (e.move p s.stamp s.second).moves = false) :
    s.moveStation e p = s.setStations (updateStation e.address (fun _ => e.move p s.stamp s.second) s.stations) := by
  rw [State.moveStation, calm]
  rfl

theorem moveStation_flap {s : State} {e : StationEntry} {p : Port}
    (flap : flapFound s.profile.flapLimit s.profile.flapWindow s.stamp (e.move p s.stamp s.second).moves = true) :
    s.moveStation e p = (s.setStations (updateStation e.address (fun _ => e.move p s.stamp s.second) s.stations)).flap
      e.address p (flapPartner p e.home (e.move p s.stamp s.second).moves) := by
  rw [State.moveStation, flap]
  rfl

/-- Of two updates of one address, the second takes the image that the first has put there. -/
theorem updateStation_updateStation {a : Address} {e : StationEntry} (at_a : e.address = a) (f : StationEntry → StationEntry)
    (t : List StationEntry) : updateStation a f (updateStation a (fun _ => e) t) =
      t.map fun x => if x.address = a then f e else x := by
  rw [updateStation, updateStation, List.map_map]
  refine List.map_congr_left fun x _ => ?_
  by_cases same : x.address = a
  · simp [same, at_a]
  · simp [same]

/-- Settles O25: without a flap the move alone by `moveStation_calm`, with one the flap's wants, notice and emptied list by
`flap_joined`, `flap_mgmt` and `flap_stations`. -/
theorem moveIsListedAndFlapsProbe : Obligations.MoveIsListedAndFlapsProbe := by
  refine ⟨fun s p a rest e due head role opened found away => ?_, flapFound_iff,
    fun p home newest second older => ⟨rfl, rfl⟩⟩
  have taken : (s.popFifo rest).sampleTaken p = true := (sampleTaken_iff s p).2 ⟨role, opened⟩
  obtain ⟨-, rfl⟩ := findStation_some found
  have run := (exec_sampleDispatch due head).trans (congrArg _ (learn_away taken found away))
  refine ⟨fun calm => run.trans (congrArg _ (moveStation_calm calm)), fun flap => ?_⟩
  have apart : flapPartner p e.home ((⟨p, s.stamp⟩ :: e.moves).take 4) ≠ p := flapPartner_ne away _ _
  refine ⟨_, _, run.trans (congrArg _ (moveStation_flap flap)), rfl, apart, ?_, ?_, flap_mgmt _ _ _ _,
    ⟨port_flap _ _ _ _, ?_⟩, ?_⟩
  · exact onlyIn_flap _ _ _ _ .receiver (by decide)
  · exact (flap_stations _ _ _ _).trans (updateStation_updateStation (e := e.move p s.stamp s.second) rfl _ _)
  · have joined := flap_joined e.address (s := (s.popFifo rest).setStations
      (updateStation e.address (fun _ => e.move p s.stamp s.second) s.stations)) taken apart
    exact (joined.congr_states (s' := s) ⟨rfl, rfl⟩ ⟨rfl, rfl⟩).congr_on fun r =>
      decide_eq_decide.2 (or_congr_right (and_congr_right' (sampleTaken_iff s _)))
  · exact ((onlyIn_popFifo s rest).mono (by decide)).trans
      (((onlyIn_setStations _ _).mono (by decide)).trans ((onlyIn_flap _ _ _ _).mono (by decide)))

end Sys2Proof.Machine
end

section
/-! PORT GET, EVIDENCE GET and STATION FIND (R57, R115, R136): the fields of their replies at the offsets of section 12.4. -/

namespace Sys2Proof.Machine

/-! ### Fields of a reply (R181) -/

theorem halfAt_of_bytes {b : List Byte} {i : Nat} {x : Half} (high : byteAt b i = x.extractLsb' 8 8)
    (low : byteAt b (i + 1) = x.extractLsb' 0 8) : halfAt b i = x := by
  rw [halfAt, high, low, ← halfBytes_append]

theorem addressAt_addressBytes (a : Address) : addressAt (addressBytes a) 0 = a := by
  show a.extractLsb' 40 8 ++ a.extractLsb' 32 8 ++ a.extractLsb' 24 8 ++ a.extractLsb' 16 8 ++ a.extractLsb' 8 8 ++
    a.extractLsb' 0 8 = a
  rw [BitVec.extractLsb'_append_extractLsb'_eq_extractLsb' (by rfl),
    BitVec.extractLsb'_append_extractLsb'_eq_extractLsb' (by rfl),
    BitVec.extractLsb'_append_extractLsb'_eq_extractLsb' (by rfl),
    BitVec.extractLsb'_append_extractLsb'_eq_extractLsb' (by rfl),
    BitVec.extractLsb'_append_extractLsb'_eq_extractLsb' (by rfl)]
  exact BitVec.extractLsb'_eq_self

/-! ### PORT GET (R46, R84, R115) -/

theorem tripPosition_of_split {p : Port} {before after : List TripItem} {i : TripItem} (at_p : i.port = p)
    (first : ∀ x ∈ before, x.port ≠ p) : tripPosition p (before ++ i :: after) = before.length + 1 := by
  have place : (before ++ i :: after).findIdx? (fun t => t.port == p) = some before.length := by
    have skipped : before.findIdx? (fun t => t.port == p) = none := by simpa [List.findIdx?_eq_none_iff] using first
    rw [List.findIdx?_append, skipped, List.findIdx?_cons]
    simp [at_p]
  rw [tripPosition, place]

theorem tripItemBytes_of_split {p : Port} {before after : List TripItem} {i : TripItem} (at_p : i.port = p)
    (first : ∀ x ∈ before, x.port ≠ p) :
    tripItemBytes p (before ++ i :: after) = [causeCode i.cause, partnerByte i.partner] := by
  have item : (before ++ i :: after).find? (fun t => t.port == p) = some i := by
    have skipped : before.find? (fun t => t.port == p) = none := by simpa [List.find?_eq_none] using first
    rw [List.find?_append, skipped, List.find?_cons]
    simp [at_p]
  rw [tripItemBytes, item]

theorem tripPosition_of_absent {p : Port} {l : List TripItem} (absent : ∀ x ∈ l, x.port ≠ p) : tripPosition p l = 0 := by
  have unlisted : l.findIdx? (fun t => t.port == p) = none := by simpa [List.findIdx?_eq_none_iff] using absent
  rw [tripPosition, unlisted]

theorem tripItemBytes_of_absent {p : Port} {l : List TripItem} (absent : ∀ x ∈ l, x.port ≠ p) :
    tripItemBytes p l = [0, 0xFF] := by
  have unlisted : l.find? (fun t => t.port == p) = none := by simpa [List.find?_eq_none] using absent
  rw [tripItemBytes, unlisted]

theorem tripItemBytes_read (p : Port) (l : List TripItem) :
    tripItemBytes p l = [byteAt (tripItemBytes p l) 0, byteAt (tripItemBytes p l) 1] := by
  unfold tripItemBytes
  split <;> rfl

theorem entryBytes_read (now : Half) (e : Option ProbeEntry) : entryBytes now e =
    [byteAt (entryBytes now e) 0, byteAt (entryBytes now e) 1, byteAt (entryBytes now e) 2, byteAt (entryBytes now e) 3,
     byteAt (entryBytes now e) 4, byteAt (entryBytes now e) 5, byteAt (entryBytes now e) 6] := by
  cases e <;> rfl

/-- The state of a probe list entry in a reply: 1 QUEUED, 2 EMITTED. -/
theorem entryBytes_state (now : Half) (e : ProbeEntry) :
    byteAt (entryBytes now (some e)) 0 = if e.expiry = none then 1 else 2 := by
  cases h : e.expiry <;> simp [entryBytes, byteAt, h]

theorem entryBytes_toExpiry {e : ProbeEntry} {x : Half} (sent : e.expiry = some x) (now : Half) :
    byteAt (entryBytes now (some e)) 6 = natByte (x - now).toNat := by
  simp [entryBytes, byteAt, halfBytes, sent]

/-- The body of a PORT GET reply, its trip item and its probe list entry byte by byte. -/
def State.portGetBody (s : State) (p : Port) : List Byte :=
  let r := s.port p
  let m := s.portMeters p
  let item := tripItemBytes p s.trips
  let entry := entryBytes s.stamp (s.entryOf p)
  List.flatten [
    [0, portByte p, roleCode r.role, stateCode r.state, boolByte r.linkUp, gateCode (gateOf r.state), natByte r.strikes],
    natBytes r.holdOff, natBytes r.calm, natBytes r.decay,
    [linkupCode r.linkup, natByte (tripPosition p s.trips), byteAt item 0, byteAt item 1],
    meterReadBytes m.bcast, meterReadBytes m.mcast, meterReadBytes m.flood,
    [purposeCode r.wants, optByte r.wants.host, optByte r.wants.sweep, byteAt entry 0, byteAt entry 1, byteAt entry 2,
     byteAt entry 3, byteAt entry 4, byteAt entry 5, byteAt entry 6],
    natBytes s.probes.stale, natBytes s.probes.unknown, natBytes s.probes.foreign, [natByte s.probes.list.length]]

theorem reqPortGet_portByte (s : State) (p : Port) : s.reqPortGet (portByte p) = (s, s.portGetBody p) := by
  rw [State.reqPortGet, portOf_portByte]
  refine Prod.ext rfl ?_
  dsimp only
  rw [State.portSection, State.probeSection, tripItemBytes_read, entryBytes_read]
  rfl

/-! ### EVIDENCE GET (R136) -/

/-- The body of an EVIDENCE GET reply. -/
def State.evidenceGetBody (s : State) (p : Port) : List Byte :=
  [0, portByte p, boolByte (s.evidenceOf p).capture.isSome, natByte (s.evidenceOf p).repeats] ++ wordBytes s.second ++
    halfBytes s.stamp ++ ((s.evidenceOf p).capture.map captureBytes).getD []

theorem reqEvidenceGet_portByte (s : State) (p : Port) : s.reqEvidenceGet (portByte p) = (s, s.evidenceGetBody p) := by
  rw [State.reqEvidenceGet, portOf_portByte]
  refine Prod.ext rfl ?_
  dsimp only
  rw [State.evidenceGetBody]
  cases (s.evidenceOf p).capture <;> rfl

/-- What EVIDENCE GET shows of a latched record stands behind its first ten bytes. -/
theorem drop_evidenceGetBody (s : State) (p : Port) :
    (s.evidenceGetBody p).drop 10 = ((s.evidenceOf p).capture.map captureBytes).getD [] := rfl

/-! ### STATION FIND (R57) -/

theorem moveBytes_read (m : Option Move) :
    moveBytes m = [byteAt (moveBytes m) 0, byteAt (moveBytes m) 1, byteAt (moveBytes m) 2] := by
  cases m <;> rfl

theorem length_moveBytes (m : Option Move) : (moveBytes m).length = 3 := by rw [moveBytes_read]; rfl

theorem length_stationBytes (stamp : Half) (e : StationEntry) : (stationBytes stamp e).length = 29 := by
  simp [stationBytes, length_moveBytes, natBytes, halfBytes, addressBytes, wordBytes]

/-- The body of a STATION FIND reply, its four moves byte by byte. -/
def stationFindBody (stamp : Half) (e : StationEntry) : List Byte :=
  let move (i : Nat) := moveBytes e.moves[i]?
  List.flatten [
    [0], natBytes e.position, addressBytes e.address, [portByte e.home], wordBytes e.lastSeen,
    [boolByte e.pinned, natByte e.moves.length, byteAt (move 0) 0, byteAt (move 0) 1, byteAt (move 0) 2,
     byteAt (move 1) 0, byteAt (move 1) 1, byteAt (move 1) 2, byteAt (move 2) 0, byteAt (move 2) 1, byteAt (move 2) 2,
     byteAt (move 3) 0, byteAt (move 3) 1, byteAt (move 3) 2],
    halfBytes stamp]

theorem stationFindBody_eq (stamp : Half) (e : StationEntry) : stOk :: stationBytes stamp e = stationFindBody stamp e := by
  rw [stationBytes, moveBytes_read e.moves[0]?, moveBytes_read e.moves[1]?, moveBytes_read e.moves[2]?,
    moveBytes_read e.moves[3]?]
  rfl

theorem reqStationFind_found {s : State} {a : Address} {e : StationEntry} (found : findStation a s.stations = some e) :
    s.reqStationFind a = (s, stOk :: stationBytes s.stamp e) := by
  rw [State.reqStationFind, found]

theorem reqStationFind_unknown {s : State} {a : Address} (unknown : findStation a s.stations = none) :
    s.reqStationFind a = (s, [stNotFound]) := by
  rw [State.reqStationFind, unknown]
  rfl

/-- The bytes that carry a move stand behind those of the newer moves. -/
theorem byteAt_stationFindBody_move (stamp : Half) (e : StationEntry) {i : Nat} (four : i < 4) {j : Nat} (three : j < 3) :
    byteAt (stationFindBody stamp e) (16 + 3 * i + j) = byteAt (moveBytes e.moves[i]?) j := by
  interval_cases i <;> interval_cases j <;> rfl

theorem stationFindBody_move (stamp : Half) (e : StationEntry) {i : Nat} (held : i < e.moves.length) (four : i < 4) :
    byteAt (stationFindBody stamp e) (16 + 3 * i) = portByte e.moves[i].port ∧
      halfAt (stationFindBody stamp e) (17 + 3 * i) = e.moves[i].stamp := by
  have bytes : ∀ j < 3, byteAt (stationFindBody stamp e) (16 + 3 * i + j) =
      byteAt (portByte e.moves[i].port :: halfBytes e.moves[i].stamp) j := fun j three => by
    rw [byteAt_stationFindBody_move stamp e four three, List.getElem?_eq_getElem held]
    rfl
  refine ⟨bytes 0 (by decide), halfAt_of_bytes ?_ ?_⟩
  · rw [show 17 + 3 * i = 16 + 3 * i + 1 by omega]
    exact bytes 1 (by decide)
  · rw [show 17 + 3 * i + 1 = 16 + 3 * i + 2 by omega]
    exact bytes 2 (by decide)

/-! ### PORT GET's trip item, meters and probe list entry at their offsets (section 12.4) -/

section PortGet

variable (s : State) (p : Port)

theorem portGetBody_trip_held {before after : List TripItem} {i : TripItem} (split : s.trips = before ++ i :: after)
    (at_p : i.port = p) (first : ∀ x ∈ before, x.port ≠ p) : byteAt (s.portGetBody p) 14 = natByte (before.length + 1) ∧
      byteAt (s.portGetBody p) 15 = causeCode i.cause ∧ byteAt (s.portGetBody p) 16 = partnerByte i.partner := by
  have item := tripItemBytes_of_split (after := after) at_p first
  rw [← split] at item
  refine ⟨congrArg natByte (split ▸ tripPosition_of_split at_p first), ?_, ?_⟩
  · exact congrArg (byteAt · 0) item
  · exact congrArg (byteAt · 1) item

theorem portGetBody_trip_absent (absent : ∀ x ∈ s.trips, x.port ≠ p) : byteAt (s.portGetBody p) 14 = 0 ∧
    byteAt (s.portGetBody p) 15 = 0 ∧ byteAt (s.portGetBody p) 16 = 0xFF := by
  have item := tripItemBytes_of_absent absent
  refine ⟨congrArg natByte (tripPosition_of_absent absent), ?_, ?_⟩
  · exact congrArg (byteAt · 0) item
  · exact congrArg (byteAt · 1) item

theorem portGetBody_meter (k : TrafficClass) :
    let i := 17 + 9 * (classCode k).toNat
    let m := (s.portMeters p).get k
    let b := s.portGetBody p
    halfAt b i = BitVec.ofNat 16 m.level ∧ halfAt b (i + 2) = BitVec.ofNat 16 m.base ∧
      halfAt b (i + 4) = BitVec.ofInt 16 m.excess ∧ byteAt b (i + 6) = natByte m.stormRun ∧
      byteAt b (i + 7) = natByte m.severeRun ∧ byteAt b (i + 8) = natByte m.priming := by
  cases k <;>
    exact ⟨halfAt_of_bytes rfl rfl, halfAt_of_bytes rfl rfl, halfAt_of_bytes rfl rfl, rfl, rfl, rfl⟩

theorem byteAt_portGetBody_entry {j : Nat} (seven : j < 7) :
    byteAt (s.portGetBody p) (47 + j) = byteAt (entryBytes s.stamp (s.entryOf p)) j := by
  interval_cases j <;> rfl

theorem portGetBody_entry_held {e : ProbeEntry} (held : s.entryOf p = some e) :
    let b := s.portGetBody p
    byteAt b 47 = (if e.expiry = none then 1 else 2) ∧ halfAt b 48 = e.tag ∧ byteAt b 50 = purposeCode e.purposes ∧
      byteAt b 51 = e.purposes.host.getD 0 ∧ byteAt b 52 = e.purposes.sweep.getD 0 ∧
      ∀ x, e.expiry = some x → byteAt b 53 = natByte (x - s.timer.slotCount.setWidth 16).toNat := by
  have bytes : ∀ j < 7, byteAt (s.portGetBody p) (47 + j) = byteAt (entryBytes s.stamp (some e)) j := fun j seven => by
    rw [byteAt_portGetBody_entry s p seven, held]
  exact ⟨(bytes 0 (by decide)).trans (entryBytes_state s.stamp e),
    halfAt_of_bytes (bytes 1 (by decide)) (bytes 2 (by decide)), bytes 3 (by decide), bytes 4 (by decide),
    bytes 5 (by decide), fun x sent => (bytes 6 (by decide)).trans (entryBytes_toExpiry sent s.stamp)⟩

end PortGet

/-- Settles O49: each read answers with its body, and each field of the body stands at its offset. -/
theorem portEvidenceAndStationAreRead : Obligations.PortEvidenceAndStationAreRead := by
  intro s tag takes
  refine ⟨fun port high => ⟨?_, ?_⟩, fun p => ?_, fun p => ?_, fun a unknown => ?_, fun a e found => ?_⟩
  · refine congrArg Host.Outcome.next (closed_request_replied takes 0x08 tag (t := s) ?_)
    rw [State.reqPortGet, portOf_of_ge high]
    rfl
  · refine congrArg Host.Outcome.next (closed_request_replied takes 0x11 tag (t := s) ?_)
    rw [State.reqEvidenceGet, portOf_of_ge high]
    rfl
  · have run := closed_request_replied takes 0x08 tag (t := s) (f := (·.reqPortGet (portByte p))) (reqPortGet_portByte _ p)
    have entry := byteAt_portGetBody_entry s p (j := 0) (by decide)
    exact ⟨s.portGetBody p, congrArg _ run, rfl, rfl, halfAt_of_bytes rfl rfl, halfAt_of_bytes rfl rfl,
      halfAt_of_bytes rfl rfl, rfl, fun _ _ _ => portGetBody_trip_held s p, portGetBody_trip_absent s p,
      portGetBody_meter s p, rfl, rfl, rfl, fun absent => entry.trans (absent ▸ rfl),
      fun _ => portGetBody_entry_held s p, halfAt_of_bytes rfl rfl, halfAt_of_bytes rfl rfl, halfAt_of_bytes rfl rfl, rfl⟩
  · have run := closed_request_replied takes 0x11 tag (t := s) (f := (·.reqEvidenceGet (portByte p)))
      (reqEvidenceGet_portByte _ p)
    refine ⟨s.evidenceGetBody p, congrArg _ run, rfl, fun unlatched => ?_, fun x latched => ?_⟩
    · rw [State.evidenceGetBody, unlatched]
      rfl
    · rw [drop_evidenceGetBody, latched]
      simp [captureBytes, classValueBytes]
  · exact congrArg Host.Outcome.next (closed_request_replied takes 0x13 tag (t := s) (reqStationFind_unknown unknown))
  · have run := closed_request_replied takes 0x13 tag (t := s) (f := (·.reqStationFind a)) (reqStationFind_found found)
    exact ⟨stationFindBody s.stamp e, stationFindBody_eq s.stamp e ▸ congrArg _ run, rfl, rfl, halfAt_of_bytes rfl rfl,
      addressAt_addressBytes e.address, rfl, rfl, rfl, rfl, fun _ => stationFindBody_move s.stamp e, halfAt_of_bytes rfl rfl⟩

end Sys2Proof.Machine
end

section
/-! EVIDENCE CLEAR, STATION PIN, STATION UNPIN and STATION FLUSH (R58 to R60, R137). -/

namespace Sys2Proof.Machine

/-! ### EVIDENCE CLEAR (R137) -/

theorem evidenceOf_clearEvidence (q : Port) : ∀ (ports : List Port) (s : State),
    (s.clearEvidence ports).evidenceOf q = if q ∈ ports then EvidenceRecord.empty else s.evidenceOf q
  | [], s => rfl
  | p :: rest, s => by
    have next := evidenceOf_clearEvidence q rest (s.setEvidenceOf p EvidenceRecord.empty)
    rw [State.clearEvidence, List.foldl_cons, ← State.clearEvidence, next, State.evidenceOf_setEvidenceOf]
    by_cases later : q ∈ rest
    · simp [later]
    · simp [later, eq_comm]

theorem clearEvidence_eq : ∀ (ports : List Port) (s : State),
    s.clearEvidence ports = s.setEvidence (s.clearEvidence ports).evidence
  | [], _ => rfl
  | p :: rest, s => clearEvidence_eq rest (s.setEvidenceOf p EvidenceRecord.empty)

theorem clearEvidence_all (s : State) :
    s.clearEvidence allPorts = s.setEvidence (Vector.replicate 40 EvidenceRecord.empty) := by
  rw [clearEvidence_eq]
  refine congrArg s.setEvidence ?_
  ext i hi : 1
  have record := evidenceOf_clearEvidence ⟨i, hi⟩ allPorts s
  rw [if_pos (port_mem_allPorts _)] at record
  simpa [State.evidenceOf] using record

theorem latched_of_one (s : State) (p : Port) : natByte ([p].filter fun q => (s.evidenceOf q).capture.isSome).length =
    if (s.evidenceOf p).capture.isSome then 1 else 0 := by
  by_cases latched : (s.evidenceOf p).capture.isSome = true <;> simp [latched, natByte]

theorem reqEvidenceClear_named {s : State} {port : Byte} {ports : List Port} (named : portsOf port = some ports) :
    s.reqEvidenceClear port = (s.clearEvidence ports,
      [stOk, natByte (ports.filter fun p => (s.evidenceOf p).capture.isSome).length]) := by
  rw [State.reqEvidenceClear, named]

/-! ### Edits of the Station Table (R58 to R60) -/

/-- A request that answers with another table changes that table and the reply alone. -/
theorem closed_request_edits_stations {s : State} (takes : TakesRequests s) (kind tag : Byte) {f : State → Answer}
    {table : List StationEntry} {body : List Byte}
    (answer : f (s.setMgmt s.mgmt.heard) = ((s.setMgmt s.mgmt.heard).setStations table, body)) :
    ∃ t, s.close.request kind tag false f = t ∧ t.stations = table ∧
      t.mgmt = s.mgmt.heard.fillReply { kind := kind + 0x80, tag := tag, body := body, flush := false } ∧
      OnlyIn [.stations, .mgmt] s t := by
  refine ⟨_, (closed_request_of_takes takes kind tag false f).trans (congrArg (Answer.fill _ tag false) answer), rfl, rfl,
    onlyIn_answered _ tag false ((onlyIn_setStations _ table).mono (by decide)) (by decide)⟩

theorem findStation_updateStation {f : StationEntry → StationEntry} (kept : ∀ e, (f e).address = e.address) (a : Address)
    (t : List StationEntry) : findStation a (updateStation a f t) = (findStation a t).map f := by
  induction t with
  | nil => rfl
  | cons e rest ih =>
    rw [findStation, updateStation] at ih ⊢
    by_cases at_a : e.address = a
    · simp [findStation, at_a, kept]
    · simpa [findStation, at_a] using ih

theorem stationReply_found {s : State} {a : Address} {e : StationEntry} (found : findStation a s.stations = some e) :
    s.stationReply a = stationBytes s.stamp e := by
  rw [State.stationReply, found]

theorem stationReply_unknown {s : State} {a : Address} (unknown : findStation a s.stations = none) :
    s.stationReply a = [] := by
  rw [State.stationReply, unknown]

/-- The reply of an edited entry carries that entry. -/
theorem length_stationReply_updated {s : State} {a : Address} {e : StationEntry} {f : StationEntry → StationEntry}
    (found : findStation a s.stations = some e) (kept : ∀ e, (f e).address = e.address) :
    ((s.setStations (updateStation a f s.stations)).stationReply a).length = 29 := by
  have edited : findStation a (updateStation a f s.stations) = some (f e) := by
    rw [findStation_updateStation kept, found]
    rfl
  rw [stationReply_found (s := s.setStations (updateStation a f s.stations)) edited, length_stationBytes]

/-! ### STATION PIN (R58) -/

theorem pinned_held {s : State} {a : Address} {e : StationEntry} (found : findStation a s.stations = some e) (p : Port)
    (room : e.pinned = true ∨ pinnedCount s.stations < 32) :
    s.pinned a p = some (updateStation a (StationEntry.pin p) s.stations) := by
  rw [State.pinned, found]
  exact if_pos room

theorem pinned_held_full {s : State} {a : Address} {e : StationEntry} (found : findStation a s.stations = some e) (p : Port)
    (unpinned : e.pinned = false) (full : 32 ≤ pinnedCount s.stations) : s.pinned a p = none := by
  rw [State.pinned, found]
  exact if_neg (by simp [unpinned, full])

theorem pinned_new {s : State} {a : Address} (unknown : findStation a s.stations = none) (p : Port)
    (room : pinnedCount s.stations < 32) : s.pinned a p = some (insertStation a p s.second true s.stations) := by
  rw [State.pinned, unknown]
  exact if_pos room

theorem pinned_new_full {s : State} {a : Address} (unknown : findStation a s.stations = none) (p : Port)
    (full : 32 ≤ pinnedCount s.stations) : s.pinned a p = none := by
  rw [State.pinned, unknown]
  exact if_neg (not_lt.2 full)

theorem reqStationPin_taken {s : State} {a : Address} {p : Port} {t : List StationEntry} (taken : s.pinned a p = some t) :
    s.reqStationPin a (portByte p) = (s.setStations t, stOk :: (s.setStations t).stationReply a) := by
  rw [State.reqStationPin, portOf_portByte]
  dsimp only
  rw [taken]

theorem reqStationPin_full {s : State} {a : Address} {p : Port} (full : s.pinned a p = none) :
    s.reqStationPin a (portByte p) = (s, stFull :: s.stationReply a) := by
  rw [State.reqStationPin, portOf_portByte]
  dsimp only
  rw [full]

/-! ### STATION UNPIN (R59) -/

theorem reqStationUnpin_unknown {s : State} {a : Address} (unknown : findStation a s.stations = none) :
    s.reqStationUnpin a = (s, [stNotFound]) := by
  rw [State.reqStationUnpin, unknown]
  rfl

theorem reqStationUnpin_unpinned {s : State} {a : Address} {e : StationEntry} (found : findStation a s.stations = some e)
    (unpinned : e.pinned = false) : s.reqStationUnpin a = (s, stOk :: stationBytes s.stamp e) := by
  rw [State.reqStationUnpin, found]
  dsimp only
  rw [if_neg (by simp [unpinned]), stationReply_found found]

theorem reqStationUnpin_pinned {s : State} {a : Address} {e : StationEntry} (found : findStation a s.stations = some e)
    (pinned : e.pinned = true) : ∃ b, s.reqStationUnpin a = (s.setStations
      (updateStation a (fun x => { x with pinned := false, lastSeen := s.second }) s.stations), stOk :: b) := by
  rw [State.reqStationUnpin, found]
  dsimp only
  rw [if_pos pinned]
  exact ⟨_, rfl⟩

/-! ### STATION FLUSH (R60) -/

theorem reqStationFlush_named {s : State} {port : Byte} {ports : List Port} (named : portsOf port = some ports) :
    s.reqStationFlush port = (s.setStations (s.stations.filter fun e => !flushed ports e),
      stOk :: natBytes (s.stations.filter (flushed ports)).length) := by
  rw [State.reqStationFlush, named]

theorem flushed_one (p : Port) : flushed [p] = fun e => !e.pinned && decide (e.home = p) := by
  funext e
  simp [flushed]

theorem flushed_all : flushed allPorts = fun e => !e.pinned := by
  funext e
  simp [flushed]

theorem reqStationFlush_one (s : State) (p : Port) : s.reqStationFlush (portByte p) =
    (s.setStations (s.stations.filter fun e => e.pinned || decide (e.home ≠ p)),
      stOk :: natBytes (s.stations.filter fun e => !e.pinned && decide (e.home = p)).length) := by
  rw [reqStationFlush_named (portsOf_portByte p), flushed_one]
  simp

theorem reqStationFlush_all (s : State) : s.reqStationFlush 0xFF =
    (s.setStations (s.stations.filter fun e => e.pinned), stOk :: natBytes (s.stations.filter fun e => !e.pinned).length) := by
  rw [reqStationFlush_named portsOf_all, flushed_all]
  simp

/-- Settles O58: each edit by the equation of its answer, and the frame by `closed_request_edits_stations`. -/
theorem evidenceAndStationTablesAreEdited : Obligations.EvidenceAndStationTablesAreEdited := by
  intro s tag takes
  refine ⟨fun port high one => ⟨?_, ?_⟩, fun p => ?_, ?_, fun a port high => ?_,
    fun a p e found => ⟨fun room => ?_, fun unpinned full => ?_⟩,
    fun a p unknown => ⟨fun room => ?_, fun full => ?_, ?_⟩, fun a e found => ⟨fun unpinned => ?_, fun pinned => ?_⟩,
    fun p => ?_, ?_⟩
  · refine congrArg Host.Outcome.next (closed_request_replied takes 0x12 tag (t := s) ?_)
    rw [State.reqEvidenceClear, portsOf_of_ne one, portOf_of_ge high]
    rfl
  · refine congrArg Host.Outcome.next (closed_request_replied takes 0x16 tag (t := s) ?_)
    rw [State.reqStationFlush, portsOf_of_ne one, portOf_of_ge high]
    rfl
  · refine congrArg Host.Outcome.next (closed_request_replied takes 0x12 tag
      ((reqEvidenceClear_named (portsOf_portByte p)).trans (Prod.ext rfl ?_)))
    exact congrArg (fun n => [stOk, n]) (latched_of_one s p)
  · refine congrArg Host.Outcome.next (closed_request_replied takes 0x12 tag
      ((reqEvidenceClear_named portsOf_all).trans (Prod.ext ?_ rfl)))
    exact clearEvidence_all _
  · refine congrArg Host.Outcome.next (closed_request_replied takes 0x14 tag (t := s) ?_)
    rw [State.reqStationPin, portOf_of_ge high]
    rfl
  · obtain ⟨t, run, stations, mgmt, frame⟩ := closed_request_edits_stations takes 0x14 tag
      (f := (·.reqStationPin a (portByte p)))
      (reqStationPin_taken (pinned_held (s := s.setMgmt s.mgmt.heard) found p room))
    exact ⟨t, congrArg _ run, stations, ⟨_, mgmt, length_stationReply_updated found fun _ => rfl⟩, frame⟩
  · rw [← stationReply_found found]
    exact congrArg Host.Outcome.next (closed_request_replied takes 0x14 tag (t := s)
      (reqStationPin_full (pinned_held_full found p unpinned full)))
  · obtain ⟨t, run, stations, -, frame⟩ := closed_request_edits_stations takes 0x14 tag
      (f := (·.reqStationPin a (portByte p)))
      (reqStationPin_taken (pinned_new (s := s.setMgmt s.mgmt.heard) unknown p room))
    exact ⟨t, congrArg _ run, stations, frame⟩
  · refine congrArg Host.Outcome.next (closed_request_replied takes 0x14 tag (t := s)
      ((reqStationPin_full (pinned_new_full (s := s.setMgmt s.mgmt.heard) unknown p full)).trans (Prod.ext rfl ?_)))
    exact congrArg (stFull :: ·) (stationReply_unknown unknown)
  · exact congrArg Host.Outcome.next (closed_request_replied takes 0x15 tag (t := s) (reqStationUnpin_unknown unknown))
  · exact congrArg Host.Outcome.next
      (closed_request_replied takes 0x15 tag (t := s) (reqStationUnpin_unpinned found unpinned))
  · obtain ⟨b, answer⟩ := reqStationUnpin_pinned (s := s.setMgmt s.mgmt.heard) found pinned
    obtain ⟨t, run, stations, mgmt, frame⟩ := closed_request_edits_stations takes 0x15 tag
      (f := (·.reqStationUnpin a)) answer
    exact ⟨t, b, congrArg _ run, stations, mgmt, frame⟩
  · exact congrArg Host.Outcome.next (closed_request_replied takes 0x16 tag (reqStationFlush_one _ p))
  · exact congrArg Host.Outcome.next (closed_request_replied takes 0x16 tag (reqStationFlush_all _))

end Sys2Proof.Machine
end

section
/-! The resolution of a proof (R73, R75): what a blocking trip and a limiting trip for TRUNK_LOOP leave of a port's record, and the
step of R75 that a proof comes to. -/

namespace Sys2Proof.Machine

/-! ### Leaving a state (R77, log 8) -/

/-- A port that leaves a state other than PRIMING and TESTING breaks no purpose. -/
theorem leaveState_of_settled {s : State} {p : Port} (priming : (s.port p).state ≠ .priming)
    (testing : (s.port p).state ≠ .testing) : s.leaveState p = s := by
  unfold State.leaveState
  split
  · exact absurd ‹_› priming
  · exact absurd ‹_› testing
  · rfl

theorem leaveState_of_priming {s : State} {p : Port} (priming : (s.port p).state = .priming) :
    s.leaveState p = s.mapPurposes p Purposes.breakLinkup := by
  unfold State.leaveState
  rw [priming]

theorem leaveState_of_testing {s : State} {p : Port} (testing : (s.port p).state = .testing) :
    s.leaveState p = s.mapPurposes p Purposes.breakRecover := by
  unfold State.leaveState
  rw [testing]

/-! ### Blocking trips (R99, R100) -/

/-- The strikes of a port once a blocking trip has added one (R99). -/
def State.nextStrikes (s : State) (p : Port) : Nat := min ((s.port p).strikes + 1) s.profile.strikeLimit

/-- The state that a blocking trip of a port enters (R99). -/
def State.shutState (s : State) (p : Port) : PortState :=
  if s.nextStrikes p = s.profile.strikeLimit then .held else .blocked

/-- A port with its strikes counted for a blocking trip. -/
def State.struck (s : State) (p : Port) : State := s.setPort p { s.port p with strikes := s.nextStrikes p }

theorem shutState_shut (s : State) (p : Port) : (s.shutState p).shutForTrip = true := by
  unfold State.shutState
  split <;> rfl

section BlockingTrip

variable (s : State) (p : Port) (c : Cause) (q : Option Port) (r : Option Half)

/-- A blocking trip is the trip of the struck port into HELD or BLOCKED, with a hold-off in BLOCKED. -/
theorem blockingTrip_eq : s.blockingTrip p c q r =
    ((s.struck p).trip p c (s.shutState p) q r).setPort p
      { ((s.struck p).trip p c (s.shutState p) q r).port p with
        holdOff := if s.nextStrikes p = s.profile.strikeLimit then 0
          else holdOffFor s.profile.holdOffBase (s.nextStrikes p) } := by
  by_cases limit : s.nextStrikes p = s.profile.strikeLimit
  · have zero : (((s.struck p).trip p c .held q r).port p).holdOff = 0 := by
      rw [State.port_congr (trip_ports _ p c .held q r), port_enter_self]
    have same : { ((s.struck p).trip p c .held q r).port p with holdOff := 0 } = ((s.struck p).trip p c .held q r).port p := by
      rw [← zero]
    rw [State.shutState, if_pos limit, if_pos limit, same, State.setPort_port_self]
    exact if_pos limit
  · rw [State.shutState, if_neg limit, if_neg limit]
    exact if_neg limit

theorem port_blockingTrip_self : (s.blockingTrip p c q r).port p = { s.port p with
    state := s.shutState p, strikes := s.nextStrikes p, calm := 0, decay := 0,
    holdOff := if s.nextStrikes p = s.profile.strikeLimit then 0 else holdOffFor s.profile.holdOffBase (s.nextStrikes p),
    wants := ((s.blockingTrip p c q r).port p).wants } := by
  rw [blockingTrip_eq, State.port_setPort_self, State.port_congr (trip_ports _ p c _ q r), port_enter_self, State.struck,
    State.port_setPort_self]

theorem port_blockingTrip_of_ne : OtherPortsKept p s (s.blockingTrip p c q r) := fun x other => by
  rw [blockingTrip_eq, State.port_setPort_of_ne _ _ _ _ other.symm, State.port_congr (trip_ports _ p c _ q r),
    port_enter_of_ne _ _ other, State.struck, State.port_setPort_of_ne _ _ _ _ other.symm]

theorem blockingTrip_trips :
    (s.blockingTrip p c q r).trips = { port := p, cause := c, partner := q } :: removeTrip p s.trips := by
  rw [blockingTrip_eq, State.setPort_trips, trip_trips, if_pos (shutState_shut s p)]
  rfl

/-- An unlatched record captures the port as it stands with the strike counted (R131, R133). -/
theorem blockingTrip_captures (unlatched : (s.evidenceOf p).capture = none) : (s.blockingTrip p c q r).evidenceOf p =
    { capture := some ((s.struck p).captureOf p c (s.shutState p) q r), repeats := 0 } := by
  have struck : ((s.struck p).evidenceOf p).capture = none := unlatched
  rw [blockingTrip_eq, State.evidenceOf_congr (State.setPort_evidence _ _ _), trip_evidence, struck]

theorem blockingTrip_mgmt : (s.blockingTrip p c q r).mgmt = match (s.evidenceOf p).capture with
    | none => s.mgmt.flagTripped.raise (.trip p c (s.shutState p) q (s.nextStrikes p) s.second)
    | some _ => s.mgmt.flagTripped := by
  have trip := trip_mgmt (s.struck p) p c (s.shutState p) q r
  have strikes : ((s.struck p).port p).strikes = s.nextStrikes p := by rw [State.struck, State.port_setPort_self]
  rw [strikes] at trip
  rw [blockingTrip_eq]
  exact trip

theorem blockingTrip_tripped : (s.blockingTrip p c q r).mgmt.flags.tripped = true := by
  rw [blockingTrip_mgmt]
  split
  · exact raise_flags_tripped _ _
  · rfl

end BlockingTrip

/-! ### TRUNK_LOOP (R73, R103) -/

/-- The record of a port once a TRUNK_LOOP that names it has limited it, if it is guarded and OPEN (R73). -/
def PortRecord.trunkLimited (r : PortRecord) : PortRecord :=
  if r.role ≠ .off ∧ r.state = .opened then { r with state := .limited, holdOff := 0, calm := 0, decay := 0 } else r

/-- The limiting trip of an OPEN port keeps its purposes: leaving OPEN breaks none, and TRUNK_LOOP sets none. -/
theorem port_limitTrunk (s : State) (p : Port) (partner : Option Port) (q : Port) :
    (s.limitTrunk p partner).port q = if q = p then (s.port p).trunkLimited else s.port q := by
  unfold State.limitTrunk PortRecord.trunkLimited
  by_cases opened : (s.port p).role ≠ .off ∧ (s.port p).state = .opened
  · have settled : s.leaveState p = s := leaveState_of_settled (by simp [opened.2]) (by simp [opened.2])
    have ports : (s.limitingTrip p .trunkLoop partner).ports = (s.enter p .limited).ports := trip_ports s p _ _ _ _
    rw [if_pos opened, if_pos opened, State.port_congr ports]
    by_cases at_p : q = p
    · rw [if_pos at_p, at_p, port_enter_self, settled]
    · rw [if_neg at_p, port_enter_of_ne s _ at_p]
  · rw [if_neg opened, if_neg opened]
    split
    · rw [‹q = p›]
    · rfl

theorem port_limitTrunk_limitTrunk (s : State) {a b : Port} (apart : b ≠ a) (partner other : Option Port) (q : Port) :
    ((s.limitTrunk a partner).limitTrunk b other).port q =
      if q = a ∨ q = b then (s.port q).trunkLimited else s.port q := by
  rw [port_limitTrunk, port_limitTrunk, port_limitTrunk, if_neg apart]
  by_cases at_b : q = b
  · rw [if_pos at_b, if_pos (.inr at_b), at_b]
  · by_cases at_a : q = a
    · rw [if_neg at_b, if_pos at_a, if_pos (.inl at_a), at_a]
    · rw [if_neg at_b, if_neg at_a, if_neg (not_or.2 ⟨at_a, at_b⟩)]

theorem port_trunkLoop (s : State) (o x q : Port) :
    (s.trunkLoop o x).port q = if q = o ∨ q = x then (s.port q).trunkLimited else s.port q := by
  unfold State.trunkLoop
  by_cases one : o = x
  · subst one
    simp only [if_pos, or_self, port_limitTrunk, port_raise]
    split
    · rw [‹q = o›]
    · rfl
  · dsimp only
    rw [if_neg one]
    split
    · exact port_limitTrunk_limitTrunk _ (Ne.symm one) _ _ q
    · simp only [or_comm (a := q = o)]
      exact port_limitTrunk_limitTrunk _ one _ _ q

/-- Whether a port is limited may be read in any state that keeps its record. -/
theorem limitTrunk_eq {s v : State} {p : Port} (same : v.port p = s.port p) (partner : Option Port) :
    v.limitTrunk p partner =
      if (s.port p).role ≠ .off ∧ (s.port p).state = .opened then v.limitingTrip p .trunkLoop partner else v := by
  rw [State.limitTrunk, same]

/-! ### The six steps of R75 -/

theorem blockable_iff (x : PortState) : x.blockable = true ↔ x = .priming ∨ x = .opened ∨ x = .limited := by
  cases x <;> simp [PortState.blockable]

theorem blockable_active {x : PortState} (h : x.blockable = true) :
    x.downOrUnguarded = false ∧ x ≠ .testing ∧ x.shutForTrip = false := by
  obtain rfl | rfl | rfl := (blockable_iff x).1 h <;> exact ⟨rfl, by decide, rfl⟩

/-- Step 1: a proof from a DOWN or UNGUARDED origin is contained. -/
theorem resolve_of_inactive {s : State} {o : Port} (x : Port) (recover : Bool)
    (inactive : (s.port o).state.downOrUnguarded = true) : s.resolve o x recover = (s, .contained) := if_pos inactive

/-- Step 2: a TESTING origin that probes to recover trips again. -/
theorem resolve_of_retest {s : State} {o : Port} (x : Port) (testing : (s.port o).state = .testing) :
    s.resolve o x true = (s.blockingTrip o .retestLoop (otherPort o x) none, .looped) := by
  have active : (s.port o).state.downOrUnguarded = false := by rw [testing]; rfl
  unfold State.resolve
  dsimp only
  rw [active, if_neg Bool.false_ne_true, if_pos ⟨rfl, testing⟩]

/-- Step 3: a proof with a port shut for a trip is contained. -/
theorem resolve_of_shut {s : State} {o x : Port}
    (shut : (s.port o).state.shutForTrip = true ∨ (s.port x).state.shutForTrip = true) :
    s.resolve o x false = (s, .contained) := by
  unfold State.resolve
  simp [shut]

section Resolve

variable {s : State} {o x : Port} (live : (s.port o).state.blockable = true) (free : (s.port x).state.shutForTrip = false)

include live free

/-- A live origin and an arrival that is not shut leave the roles to decide: steps 4 to 6. -/
theorem resolve_of_live (recover : Bool) : s.resolve o x recover =
    if (s.port x).role = .desk then
      if (s.port x).state.blockable then
        if x = o then (s.blockingTrip x .selfLoop none none, .looped)
        else (s.blockingTrip x .loop (some o) none, .contained)
      else (s, .contained)
    else if (s.port o).role = .desk then (s.blockingTrip o .loop (some x) none, .looped)
    else (s.trunkLoop o x, .looped) := by
  obtain ⟨active, testing, open_⟩ := blockable_active live
  unfold State.resolve
  dsimp only
  rw [active, open_, free, if_neg Bool.false_ne_true, if_neg fun h => testing h.2, if_neg (by simp)]

theorem resolve_of_desk (desk : (s.port x).role = .desk) (target : (s.port x).state.blockable = true) :
    s.resolve o x false = (s.blockingTrip x (if x = o then .selfLoop else .loop) (if x = o then none else some o) none,
      if x = o then .looped else .contained) := by
  rw [resolve_of_live live free, if_pos desk, if_pos target]
  split <;> rfl

theorem resolve_of_down_desk (desk : (s.port x).role = .desk) (down : (s.port x).state = .down) :
    s.resolve o x false = (s, .contained) := by
  rw [resolve_of_live live free, if_pos desk, down]
  rfl

theorem resolve_of_origin_desk (other : (s.port x).role ≠ .desk) (desk : (s.port o).role = .desk) :
    s.resolve o x false = (s.blockingTrip o .loop (some x) none, .looped) := by
  rw [resolve_of_live live free, if_neg other, if_pos desk]

theorem resolve_of_trunks (recover : Bool) (origin : (s.port o).role ≠ .desk) (arrival : (s.port x).role ≠ .desk) :
    s.resolve o x recover = (s.trunkLoop o x, .looped) := by
  rw [resolve_of_live live free, if_neg arrival, if_neg origin]

end Resolve

/-- TRUNK_LOOP and the limits that follow it, each judged by the records before the proof (R73, R169). -/
theorem trunkLoop_eq (s : State) (o x : Port) :
    let named := s.raise (.trunkLoop o x s.timer.secondCount)
    let limited := fun (v : State) (p q : Port) => if (s.port p).role ≠ .off ∧ (s.port p).state = .opened then
      v.limitingTrip p .trunkLoop (if q = p then none else some q) else v
    s.trunkLoop o x = if x = o then limited named o o
      else if o < x then limited (limited named o x) x o else limited (limited named x o) o x := by
  have first (p : Port) (partner : Option Port) := limitTrunk_eq (s := s)
    (v := s.raise (.trunkLoop o x s.timer.secondCount)) (p := p) (port_raise s _ p) partner
  have second {p q : Port} (apart : q ≠ p) (partner other : Option Port) := limitTrunk_eq (s := s)
    (v := (s.raise (.trunkLoop o x s.timer.secondCount)).limitTrunk p partner) (p := q)
    (by rw [port_limitTrunk, if_neg apart]; rfl) other
  unfold State.trunkLoop
  by_cases one : x = o
  · subst one
    simp only [if_pos]
    exact first x none
  · simp only [if_neg one, if_neg (Ne.symm one)]
    split
    · exact (second one _ _).trans (by rw [first])
    · exact (second (Ne.symm one) _ _).trans (by rw [first])

/-- Settles O30: the step of R75 that each case comes to, with the rules of the blocking trip and of TRUNK_LOOP. -/
theorem proofShutsOneDesk : Obligations.ProofShutsOneDesk := by
  refine ⟨fun s o x live free => ⟨resolve_of_down_desk live free, fun desk target => ?_, fun other desk => ?_⟩,
    fun s o x => resolve_of_retest x, fun s o x recover live free origin arrival => ?_⟩
  · rw [resolve_of_desk live free desk target]
    exact ⟨rfl, by rw [port_blockingTrip_self]; rfl, by rw [port_blockingTrip_self]; rfl, blockingTrip_trips _ _ _ _ _,
      port_blockingTrip_of_ne _ _ _ _ _⟩
  · rw [resolve_of_origin_desk live free other desk]
    exact ⟨rfl, by rw [port_blockingTrip_self]; rfl, by rw [port_blockingTrip_self]; rfl, blockingTrip_trips _ _ _ _ _,
      port_blockingTrip_of_ne _ _ _ _ _⟩
  · rw [resolve_of_trunks live free recover origin arrival]
    refine ⟨Prod.ext (trunkLoop_eq s o x) rfl, fun p named guarded opened => ?_, fun p spared => ?_,
      onlyIn_trunkLoop s o x .panel (by decide)⟩
    · rw [port_trunkLoop, if_pos named, PortRecord.trunkLimited, if_pos ⟨guarded, opened⟩]
    · rw [port_trunkLoop]
      split
      · refine if_neg fun ⟨guarded, opened⟩ => ?_
        obtain ⟨apart, away⟩ | off | shut := spared
        · exact ‹p = o ∨ p = x›.elim apart away
        · exact guarded off
        · exact shut opened
      · rfl

end Sys2Proof.Machine
end

section
/-! Releases (R107, R108, R112): the release of one port, the release of the room as a run of single releases, and the keys and
requests that act as them (R149 to R151). -/

namespace Sys2Proof.Machine

/-! ### Where a released port goes (R107) -/

theorem releasable_iff (x : PortState) : x.releasable = true ↔ x = .blocked ∨ x = .held := by
  cases x <;> simp [PortState.releasable]

theorem releaseTarget_spec (r : PortRecord) : (r.state = .blocked → releaseTarget r = .testing) ∧
    (r.state = .held → r.linkUp = false → releaseTarget r = .down) ∧
    (r.state = .held → r.linkUp = true → r.role = .desk → releaseTarget r = .testing) ∧
    (r.state = .held → r.linkUp = true → r.role = .trunk → releaseTarget r = .opened) := by
  unfold releaseTarget
  refine ⟨fun blocked => ?_, fun held down => ?_, fun held up desk => ?_, fun held up trunk => ?_⟩
  · rw [blocked]
  · simp [held, down]
  · simp [held, up, desk]
  · simp [held, up, trunk]

theorem releaseTarget_eq {r : PortRecord} (shut : r.state = .blocked ∨ r.state = .held) : releaseTarget r =
    if r.state = .blocked then .testing else if r.linkUp = false then .down
      else if r.role = .trunk then .opened else .testing := by
  unfold releaseTarget
  obtain blocked | held := shut
  · rw [blocked, if_pos rfl]
  · cases link : r.linkUp <;> simp [held]

theorem releaseTarget_cases (r : PortRecord) :
    releaseTarget r = .testing ∨ releaseTarget r = .down ∨ releaseTarget r = .opened := by
  unfold releaseTarget
  split
  · split
    · split
      · exact .inr (.inr rfl)
      · exact .inl rfl
    · exact .inr (.inl rfl)
  · exact .inl rfl

/-- A port that a release opens was HELD. -/
theorem held_of_opened {r : PortRecord} (shut : r.state = .blocked ∨ r.state = .held) (opened : releaseTarget r = .opened) :
    r.state = .held :=
  shut.resolve_left fun blocked => by rw [(releaseTarget_spec r).1 blocked] at opened; cases opened

/-! ### One port (R107) -/

/-- The port sent on to its target with strikes 0, before a RECOVER want. -/
def State.sentOn (s : State) (p : Port) : State :=
  (s.setPort p { s.port p with strikes := 0 }).enter p (releaseTarget (s.port p))

section Release

variable {s : State} {p : Port} (shut : (s.port p).state = .blocked ∨ (s.port p).state = .held)

include shut

theorem release_eq : s.release p =
    if releaseTarget (s.port p) = .testing then (s.sentOn p).setWant p .recover else s.sentOn p :=
  if_pos ((releasable_iff _).2 shut)

/-- A shut port waits for no LINKUP and no RECOVER, so its release breaks none. -/
theorem leaveState_of_shut (n : Nat) : (s.setPort p { s.port p with strikes := n }).leaveState p =
    s.setPort p { s.port p with strikes := n } := by
  refine leaveState_of_settled ?_ ?_ <;> rw [State.port_setPort_self] <;> obtain shut | shut := shut <;> simp [shut]

theorem port_sentOn_self : (s.sentOn p).port p = { s.port p with
    state := releaseTarget (s.port p), strikes := 0, holdOff := 0, calm := 0, decay := 0 } := by
  rw [State.sentOn, port_enter_self, leaveState_of_shut shut, State.port_setPort_self]

theorem sentOn_probes : (s.sentOn p).probes = s.probes := by
  rw [State.sentOn, enter_probes, leaveState_of_shut shut]
  rfl

theorem sentOn_control : (s.sentOn p).control = if releaseTarget (s.port p) = .opened then
    { s.control with pendingGate := s.control.pendingGate.set p (some .pass) } else s.control := by
  have gate : gateOf (s.port p).state = .shut := by obtain shut | shut := shut <;> rw [shut] <;> rfl
  rw [State.sentOn, enter_control, State.port_setPort_self, gate]
  obtain target | target | target := releaseTarget_cases (s.port p) <;> rw [target] <;> rfl

omit shut in
theorem sentOn_trips (s : State) (p : Port) : (s.sentOn p).trips =
    if releaseTarget (s.port p) = .testing then s.trips else removeTrip p s.trips := by
  rw [State.sentOn, enter_trips]
  obtain target | target | target := releaseTarget_cases (s.port p) <;> rw [target] <;> rfl

theorem port_release_self : (s.release p).port p = { s.port p with
    state := releaseTarget (s.port p), strikes := 0, holdOff := 0, calm := 0, decay := 0,
    wants := ((s.release p).port p).wants } := by
  rw [release_eq shut]
  split
  · rw [port_setWant, port_sentOn_self shut]
  · rw [port_sentOn_self shut]

omit shut in
theorem port_release_of_ne (s : State) (p : Port) : OtherPortsKept p s (s.release p) := fun q other => by
  have sent : (s.sentOn p).port q = s.port q := by
    rw [State.sentOn, port_enter_of_ne _ _ other, State.port_setPort_of_ne _ _ _ _ other.symm]
  unfold State.release
  dsimp only
  split
  · split
    · rw [port_setWant, if_neg fun h => other h.1.symm]
      exact sent
    · exact sent
  · rfl

theorem release_trips : (s.release p).trips =
    if releaseTarget (s.port p) = .testing then s.trips else removeTrip p s.trips := by
  rw [release_eq shut, ← sentOn_trips]
  split
  · exact onlyIn_wantRecover _ p .trips (by decide)
  · rfl

theorem release_control : (s.release p).control = if releaseTarget (s.port p) = .opened then
    { s.control with pendingGate := s.control.pendingGate.set p (some .pass) } else s.control := by
  rw [release_eq shut, ← sentOn_control shut]
  split
  · exact onlyIn_wantRecover _ p .control (by decide)
  · rfl

theorem release_joined : PurposeJoined (fun q => decide (q = p ∧ releaseTarget (s.port p) = .testing))
    (Purposes.add .recover) s (s.release p) := by
  have wants : ∀ q, ((s.sentOn p).port q).wants = (s.port q).wants := fun q => by
    by_cases at_p : q = p
    · rw [at_p, port_sentOn_self shut]
    · rw [State.sentOn, port_enter_of_ne _ _ at_p, State.port_setPort_of_ne _ _ _ _ (Ne.symm at_p)]
  obtain ⟨probes, joined⟩ := setWant_joined (s.sentOn p) p .recover
  rw [sentOn_probes shut] at probes joined
  rw [release_eq shut]
  split
  case isTrue testing =>
    simp only [testing, and_true]
    exact ⟨probes, fun q => by rw [joined q, wants]⟩
  case isFalse other =>
    simp only [other, and_false, decide_false]
    exact ⟨by simp [sentOn_probes shut], fun q => by simp [wants]⟩

end Release

/-! ### Several ports (R108) -/

/-- From `s` to `t` the ports `on` are released and nothing else of the port table, the Probe Engine, the trip list and the
pending GATE changes is touched. -/
structure Released (on : Port → Prop) [DecidablePred on] (s t : State) : Prop where
  kept : ∀ q, ¬on q → t.port q = s.port q
  records : ∀ q, on q → t.port q = { s.port q with
    state := releaseTarget (s.port q), strikes := 0, holdOff := 0, calm := 0, decay := 0, wants := (t.port q).wants }
  joined : PurposeJoined (fun q => decide (on q ∧ releaseTarget (s.port q) = .testing)) (Purposes.add .recover) s t
  trips : t.trips = s.trips.filter fun i => !decide (on i.port ∧ releaseTarget (s.port i.port) ≠ .testing)
  control : t.control = { s.control with pendingGate := t.control.pendingGate }
  gates : ∀ q : Port, t.control.pendingGate[q] =
    if on q ∧ releaseTarget (s.port q) = .opened then some .pass else s.control.pendingGate[q]

section Released

variable {on others : Port → Prop} [DecidablePred on] [DecidablePred others] {s t u : State}

/-- A port that a release does not send to TESTING gets no want. -/
theorem Released.wants (h : Released on s t) {q : Port} (target : releaseTarget (s.port q) ≠ .testing) :
    (t.port q).wants = (s.port q).wants := by
  rw [h.joined.2 q]
  exact if_neg fun ⟨joins, _⟩ => target (of_decide_eq_true joins).2

theorem Released.congr_on (h : Released on s t) (same : ∀ q, on q ↔ others q) : Released others s t := by
  refine ⟨fun q hq => h.kept q fun k => hq ((same q).1 k), fun q hq => h.records q ((same q).2 hq),
    h.joined.congr_on fun q => ?_, ?_, h.control, fun q => ?_⟩
  · simp only [same]
  · simpa only [same] using h.trips
  · simpa only [same] using h.gates q

/-- Ports released after others: a release reads of the port table the record of its own port alone. -/
theorem Released.trans (h : Released on s t) (k : Released others t u) (apart : ∀ q, on q → ¬others q) :
    Released (fun q => on q ∨ others q) s u := by
  have unread : ∀ q, others q → t.port q = s.port q := fun q hq => h.kept q fun first => apart q first hq
  have second : ∀ (q : Port) (P : PortRecord → Prop), others q ∧ P (t.port q) ↔ others q ∧ P (s.port q) := fun q P =>
    and_congr_right fun hq => by rw [unread q hq]
  refine ⟨fun q hq => ?_, fun q hq => ?_, ?_, ?_, ?_, fun q => ?_⟩
  · obtain ⟨first, last⟩ := not_or.1 hq
    rw [k.kept q last, h.kept q first]
  · obtain first | last := hq
    · rw [k.kept q (apart q first)]
      exact h.records q first
    · rw [← unread q last]
      exact k.records q last
  · have joined := h.joined.trans k.joined fun q first =>
      decide_eq_false fun last => apart q (of_decide_eq_true first).1 last.1
    refine joined.congr_on fun q => ?_
    rw [← Bool.decide_or, decide_eq_decide, second q fun r => releaseTarget r = .testing, ← or_and_right]
  · rw [k.trips, h.trips, List.filter_filter]
    refine List.filter_congr fun i _ => ?_
    rw [← Bool.not_or, ← Bool.decide_or, Bool.not_inj_iff, decide_eq_decide, second i.port fun r => releaseTarget r ≠ .testing,
      ← or_and_right, or_comm]
  · rw [k.control, h.control]
  · rw [k.gates, h.gates]
    simp only [second q fun r => releaseTarget r = .opened]
    by_cases opened : releaseTarget (s.port q) = .opened <;> by_cases last : others q <;> simp [opened, last]

end Released

theorem release_released {s : State} {p : Port} (shut : (s.port p).state = .blocked ∨ (s.port p).state = .held) :
    Released (· = p) s (s.release p) := by
  refine ⟨port_release_of_ne s p, ?_, (release_joined shut).congr_on fun q => decide_eq_decide.2 ?_, ?_, ?_, fun q => ?_⟩
  · rintro q rfl
    exact port_release_self shut
  · exact and_congr_right fun at_p => by rw [at_p]
  · rw [release_trips shut]
    split
    · refine (List.filter_eq_self.2 fun i _ => ?_).symm
      by_cases at_p : i.port = p <;> simp_all
    · refine List.filter_congr fun i _ => ?_
      by_cases at_p : i.port = p <;> simp_all
  · rw [release_control shut]
    split <;> rfl
  · rw [release_control shut]
    by_cases at_p : q = p
    · subst at_p
      split <;> simp_all
    · have away : p.val ≠ q.val := fun same => at_p (Fin.ext same.symm)
      split <;> simp [at_p, away]

theorem released_foldl : ∀ (l : List Port) (s : State), l.Nodup →
    (∀ p ∈ l, (s.port p).state = .blocked ∨ (s.port p).state = .held) → Released (· ∈ l) s (l.foldl State.release s)
  | [], s, _, _ => ⟨fun _ _ => rfl, fun _ h => absurd h List.not_mem_nil,
      (PurposeJoined.nowhere _ s).congr_on fun q => by simp, by simp, rfl, fun q => by simp⟩
  | p :: l, s, distinct, shut => by
    obtain ⟨fresh, distinct⟩ := List.nodup_cons.1 distinct
    have apart : ∀ q ∈ l, q ≠ p := fun q hq same => fresh (same ▸ hq)
    have rest := released_foldl l (s.release p) distinct fun q hq => by
      rw [port_release_of_ne s p q (apart q hq)]
      exact shut q (List.mem_cons_of_mem p hq)
    exact ((release_released (shut p List.mem_cons_self)).trans rest fun q same hq => apart q hq same).congr_on fun q =>
      List.mem_cons.symm

theorem releasablePorts_eq (s : State) : s.releasablePorts =
    allPorts.filter fun p => decide ((s.port p).state = .blocked ∨ (s.port p).state = .held) := by
  refine List.filter_congr fun p _ => ?_
  rw [Bool.eq_iff_iff, releasable_iff, decide_eq_true_iff]

theorem roomRelease_released (s : State) :
    Released (fun q => (s.port q).state = .blocked ∨ (s.port q).state = .held) s s.roomRelease := by
  have mem : ∀ q, q ∈ s.releasablePorts ↔ (s.port q).state = .blocked ∨ (s.port q).state = .held := fun q => by
    rw [releasablePorts_eq]; simp
  exact (released_foldl _ s (nodup_allPorts.filter _) fun p hp => (mem p).1 hp).congr_on mem

/-- The GATE changes that a room release leaves pending are those of the HELD ports that it opens. -/
theorem roomRelease_gates (s : State) (q : Port) : s.roomRelease.control.pendingGate[q] =
    if (s.port q).state = .held ∧ releaseTarget (s.port q) = .opened then some .pass else s.control.pendingGate[q] := by
  rw [(roomRelease_released s).gates q]
  simp only [show ((s.port q).state = .blocked ∨ (s.port q).state = .held) ∧ releaseTarget (s.port q) = .opened ↔
    (s.port q).state = .held ∧ releaseTarget (s.port q) = .opened from
    ⟨fun ⟨shut, opened⟩ => ⟨held_of_opened shut opened, opened⟩, fun ⟨held, opened⟩ => ⟨.inr held, opened⟩⟩]

/-! ### RELEASE and ROOM RELEASE (R107, R108) -/

theorem reqRelease_shut {s : State} {p : Port} (shut : (s.port p).state = .blocked ∨ (s.port p).state = .held) :
    s.reqRelease (portByte p) = (s.release p, [0, portByte p, stateCode (releaseTarget (s.port p))]) := by
  have target : ((s.release p).port p).state = releaseTarget (s.port p) := by rw [port_release_self shut]
  rw [State.reqRelease, portOf_portByte, ← target]
  exact if_pos ((releasable_iff _).2 shut)

theorem reqRelease_open {s : State} {p : Port} (blocked : (s.port p).state ≠ .blocked) (held : (s.port p).state ≠ .held) :
    s.reqRelease (portByte p) = (s, [5]) := by
  rw [State.reqRelease, portOf_portByte]
  exact if_neg fun h => ((releasable_iff _).1 h).elim blocked held

theorem reqRelease_badPort {port : Byte} (s : State) (bad : 40 ≤ port.toNat) : s.reqRelease port = (s, [4]) := by
  rw [State.reqRelease, portOf_of_ge bad]
  rfl

/-- Settles O55: a refusal replies alone, RELEASE by the rules of one release, ROOM RELEASE by `roomRelease_released`. -/
theorem releaseSendsShutPortsOn : Obligations.ReleaseSendsShutPortsOn := by
  intro s tag p takes
  refine ⟨fun port bad => ?_, fun blocked held => ?_, fun target goes => ?_, ?_, releaseTarget_spec⟩
  · exact congrArg Host.Outcome.next (closed_request_replied takes 0x0B tag (t := s) (reqRelease_badPort _ bad))
  · exact congrArg Host.Outcome.next
      (closed_request_replied takes 0x0B tag (t := s) (reqRelease_open (s := s.setMgmt s.mgmt.heard) blocked held))
  · have shut : (s.port p).state = .blocked ∨ (s.port p).state = .held := by
      obtain ⟨blocked, -⟩ | ⟨held, -⟩ | ⟨held, -⟩ | ⟨held, -⟩ := goes
      exacts [.inl blocked, .inr held, .inr held, .inr held]
    obtain ⟨toTesting, toDown, deskToTesting, toOpened⟩ := releaseTarget_spec (s.port p)
    obtain rfl : releaseTarget (s.port p) = target := by
      obtain ⟨blocked, rfl⟩ | ⟨held, down, rfl⟩ | ⟨held, up, desk, rfl⟩ | ⟨held, up, trunk, rfl⟩ := goes
      exacts [toTesting blocked, toDown held down, deskToTesting held up desk, toOpened held up trunk]
    have heard : ((s.setMgmt s.mgmt.heard).port p).state = .blocked ∨ ((s.setMgmt s.mgmt.heard).port p).state = .held := shut
    have frame := onlyIn_release (s.setMgmt s.mgmt.heard) p
    have mgmt : ((s.setMgmt s.mgmt.heard).release p).mgmt = s.mgmt.heard := frame .mgmt (by decide)
    refine ⟨_, congrArg Host.Outcome.next ((closed_request_of_takes takes 0x0B tag false _).trans
      (congrArg (Answer.fill _ tag false) (reqRelease_shut heard))), port_release_self heard, release_joined heard,
      release_trips heard, release_control heard, ?_, port_release_of_ne _ p,
      onlyIn_answered _ tag false (frame.mono (by decide)) (by decide)⟩
    rw [fill_mgmt, mgmt]
    rfl
  · have room := roomRelease_released (s.setMgmt s.mgmt.heard)
    have frame := onlyIn_roomRelease (s.setMgmt s.mgmt.heard)
    have mgmt : (s.setMgmt s.mgmt.heard).roomRelease.mgmt = s.mgmt.heard := frame .mgmt (by decide)
    refine ⟨_, congrArg Host.Outcome.next (closed_request_of_takes takes 0x0C tag false _),
      fun q blocked held => room.kept q (not_or.2 ⟨blocked, held⟩), fun q shut => ⟨room.records q shut, room.wants⟩,
      room.joined, room.trips, room.control, roomRelease_gates _, ?_,
      onlyIn_answered _ tag false (frame.mono (by decide)) (by decide)⟩
    rw [fill_mgmt, State.reqRoomRelease, mgmt, releasablePorts_eq]
    rfl

/-! ### The keys (R149 to R151) -/

theorem exec_relPress (s : State) : exec .relPress s = .next (s.takeDue .relPress) := rfl
theorem exec_relRelease (s : State) : exec .relRelease s = .next (s.takeDue .relRelease) := rfl
theorem exec_twoKeyRoomRelease (s : State) : exec .twoKeyRoomRelease s = .next (s.takeDue .twoKey) := rfl

theorem takeRelRelease_of_void {s : State} (void : s.profile.keyMode = .silenceOnly ∨ s.panel.comboMark = true ∨
    s.profile.authoriseTime * 1000 ≤ s.panel.pressCounter) : s.takeRelRelease = s := if_pos void

theorem takeRelRelease_of_short {s : State} (full : s.profile.keyMode = .full) (alone : s.panel.comboMark = false)
    (short : s.panel.pressCounter < s.profile.authoriseTime * 1000) : s.takeRelRelease = s.releaseHead := by
  refine if_neg ?_
  rintro (silence | combo | long)
  · rw [full] at silence; cases silence
  · rw [alone] at combo; cases combo
  · exact absurd short (Nat.not_lt.2 long)

theorem releaseHead_of_none {s : State} (nothing : s.trips = [] ∨
    ∃ i rest, s.trips = i :: rest ∧ (s.port i.port).state = .testing) : s.releaseHead = s.raisePanel (.release none) := by
  unfold State.releaseHead
  obtain empty | ⟨i, rest, head, testing⟩ := nothing
  · rw [empty]
  · rw [head]
    dsimp only
    rw [testing]
    rfl

theorem releaseHead_of_shut {s : State} {i : TripItem} {rest : List TripItem} (head : s.trips = i :: rest)
    (shut : (s.port i.port).state = .blocked ∨ (s.port i.port).state = .held) :
    s.releaseHead = (s.release i.port).raisePanel (.release (some i.port)) := by
  unfold State.releaseHead
  rw [head]
  exact if_pos ((releasable_iff _).2 shut)

/-- Settles O41: a press by computation, a release by what `releaseHead` does with the head of the trip list. -/
theorem releaseKeyShortPress : Obligations.ReleaseKeyShortPress := by
  intro s
  refine ⟨fun due => ?_, fun due => ⟨fun void => ?_, fun full alone short => ⟨fun nothing => ?_, fun i rest head shut => ?_⟩⟩⟩
  · rw [exec_relPress, takeDue_of_mem due]; rfl
  · rw [exec_relRelease, takeDue_of_mem due]
    exact congrArg _ (takeRelRelease_of_void (s := s.setDue (s.due.erase .relRelease)) void)
  · rw [exec_relRelease, takeDue_of_mem due]
    exact congrArg _ ((takeRelRelease_of_short (s := s.setDue (s.due.erase .relRelease)) full alone short).trans
      (releaseHead_of_none nothing))
  · let u := s.setDue (s.due.erase .relRelease)
    have freed : (u.port i.port).state = .blocked ∨ (u.port i.port).state = .held := shut
    have frame := onlyIn_release u i.port
    have second : (u.release i.port).second = s.timer.secondCount :=
      congrArg SlotTimer.secondCount (frame .timer (by decide))
    have mgmt : (u.release i.port).mgmt = s.mgmt := frame .mgmt (by decide)
    have run : exec .relRelease s = .next ((u.release i.port).raisePanel (.release (some i.port))) := by
      rw [exec_relRelease, takeDue_of_mem due]
      exact congrArg _ ((takeRelRelease_of_short (s := u) full alone short).trans (releaseHead_of_shut head freed))
    dsimp only
    rw [← releaseTarget_eq shut]
    refine ⟨_, run, port_release_self freed, release_joined freed, release_trips freed, release_control freed, ?_,
      frame .due (by decide), port_release_of_ne u i.port, ?_⟩
    · rw [State.raisePanel, raise_mgmt, second, mgmt]
    · exact ((onlyIn_setDue s _).mono (by decide)).trans
        ((frame.mono (by decide)).trans ((onlyIn_raise _ _).mono (by decide)))

theorem takeTwoKey_of_done {s : State} (done : s.panel.doneMark = true) : s.takeTwoKey = s :=
  if_neg fun h => by rw [done] at h; cases h.1

theorem takeTwoKey_of_silence {s : State} (clear : s.panel.doneMark = false)
    (long : s.profile.authoriseTime * 1000 ≤ s.panel.comboCounter) (silence : s.profile.keyMode = .silenceOnly) :
    s.takeTwoKey = s.setPanel { s.panel with doneMark := true } := by
  rw [State.takeTwoKey, if_pos ⟨clear, long⟩, silence]

theorem takeTwoKey_of_full {s : State} (clear : s.panel.doneMark = false)
    (long : s.profile.authoriseTime * 1000 ≤ s.panel.comboCounter) (full : s.profile.keyMode = .full) :
    s.takeTwoKey = (s.setPanel { s.panel with doneMark := true }).roomRelease.raisePanel
      (.roomRelease (s.setPanel { s.panel with doneMark := true }).releasablePorts.length) := by
  rw [State.takeTwoKey, if_pos ⟨clear, long⟩, full]

/-- Settles O42: the branches of the done mark and the key mode, and in FULL mode the room by `roomRelease_released`. -/
theorem twoKeysReleaseTheRoom : Obligations.TwoKeysReleaseTheRoom := by
  refine ⟨fun s due => ⟨fun done => ?_, fun clear long => ⟨fun silence => ?_, fun full => ?_⟩⟩, releaseTarget_spec⟩
  · rw [exec_twoKeyRoomRelease, takeDue_of_mem due]
    exact congrArg _ (takeTwoKey_of_done (s := s.setDue (s.due.erase .twoKey)) done)
  · rw [exec_twoKeyRoomRelease, takeDue_of_mem due]
    exact congrArg _ (takeTwoKey_of_silence (s := s.setDue (s.due.erase .twoKey)) clear long silence)
  · let u := (s.setDue (s.due.erase .twoKey)).setPanel { s.panel with doneMark := true }
    have room := roomRelease_released u
    have frame := onlyIn_roomRelease u
    have second : u.roomRelease.second = s.timer.secondCount := congrArg SlotTimer.secondCount (frame .timer (by decide))
    have mgmt : u.roomRelease.mgmt = s.mgmt := frame .mgmt (by decide)
    have run : exec .twoKeyRoomRelease s = .next (u.roomRelease.raisePanel (.roomRelease u.releasablePorts.length)) := by
      rw [exec_twoKeyRoomRelease, takeDue_of_mem due]
      exact congrArg _ (takeTwoKey_of_full (s := s.setDue (s.due.erase .twoKey)) clear long full)
    refine ⟨_, run, frame .panel (by decide), fun q blocked held => room.kept q (not_or.2 ⟨blocked, held⟩),
      fun q shut => ⟨room.records q shut, room.wants⟩, room.joined, room.trips, room.control, roomRelease_gates u, ?_, ?_,
      frame .due (by decide)⟩
    · rw [State.raisePanel, raise_mgmt, second, mgmt, releasablePorts_eq]
      rfl
    · exact ((onlyIn_setDue s _).mono (by decide)).trans (((onlyIn_setPanel _ _).mono (by decide)).trans
        ((frame.mono (by decide)).trans ((onlyIn_raise _ _).mono (by decide))))

end Sys2Proof.Machine
end

section
/-! Conclusions (R77, R78, R93, R102): what each purpose does with an outcome, and the end of a probe entry that was not answered
(R69). -/

namespace Sys2Proof.Machine

/-! ### The purposes of a set, one after the other (log 27) -/

theorem concludeRecover_of_unset (s : State) (p : Port) {u : Purposes} (outcome : ProbeOutcome) (unset : u.recover = false) :
    s.concludeRecover p u outcome = s := if_neg fun h => by rw [unset] at h; cases h.1

section Single

variable (s : State) (p : Port) (outcome : ProbeOutcome) (arrival : Option Port)

theorem conclude_linkup (set broken : Bool) :
    s.conclude p { Purposes.empty with linkup := set, linkupBroken := broken } outcome arrival =
      s.concludeLinkup p { Purposes.empty with linkup := set, linkupBroken := broken } outcome := by
  have recover := concludeRecover_of_unset
    (s.concludeLinkup p { Purposes.empty with linkup := set, linkupBroken := broken } outcome) p
    (u := { Purposes.empty with linkup := set, linkupBroken := broken }) outcome rfl
  exact recover

/-- A set without LINKUP concludes its other purposes alone. -/
theorem conclude_of_no_linkup {u : Purposes} (unset : u.linkup = false) : s.conclude p u outcome arrival =
    ((s.concludeSweep u outcome).concludeRecover p u outcome).concludeHost p u outcome arrival := by
  rw [State.conclude, State.concludeLinkup, if_neg (by simp [unset])]

theorem conclude_sweep (number : Option Byte) : s.conclude p { Purposes.empty with sweep := number } outcome arrival =
    s.concludeSweep { Purposes.empty with sweep := number } outcome :=
  (conclude_of_no_linkup s p outcome arrival rfl).trans (concludeRecover_of_unset _ p outcome rfl)

theorem conclude_recover (set broken : Bool) :
    s.conclude p { Purposes.empty with recover := set, recoverBroken := broken } outcome arrival =
      s.concludeRecover p { Purposes.empty with recover := set, recoverBroken := broken } outcome :=
  conclude_of_no_linkup s p outcome arrival rfl

theorem conclude_host (tag : Option Byte) : s.conclude p { Purposes.empty with host := tag } outcome arrival =
    s.concludeHost p { Purposes.empty with host := tag } outcome arrival := by
  have recover : s.concludeRecover p { Purposes.empty with host := tag } outcome = s :=
    concludeRecover_of_unset s p outcome rfl
  exact (conclude_of_no_linkup s p outcome arrival rfl).trans
    (congrArg (fun t => State.concludeHost t p { Purposes.empty with host := tag } outcome arrival) recover)

theorem conclude_split (u : Purposes) : s.conclude p u outcome arrival =
    (((s.conclude p { Purposes.empty with linkup := u.linkup, linkupBroken := u.linkupBroken } outcome arrival).conclude
      p { Purposes.empty with sweep := u.sweep } outcome arrival).conclude
      p { Purposes.empty with recover := u.recover, recoverBroken := u.recoverBroken } outcome arrival).conclude
      p { Purposes.empty with host := u.host } outcome arrival := by
  rw [conclude_host, conclude_recover, conclude_sweep, conclude_linkup]
  rfl

end Single

/-! ### A port that leaves PRIMING or TESTING (R77, log 8) -/

/-- A port that breaks purposes as it leaves its state breaks them in its want set and in its entry. -/
theorem enter_broken {s : State} {p : Port} {f : Purposes → Purposes} (leaves : s.leaveState p = s.mapPurposes p f)
    (new : PortState) :
    (s.enter p new).port p = { s.port p with
      state := new, holdOff := 0, calm := 0, decay := 0, wants := f (s.port p).wants } ∧
    (s.enter p new).probes = { s.probes with list := s.probes.list.map fun e =>
      if e.origin = p then { e with purposes := f e.purposes } else e } := by
  refine ⟨?_, ?_⟩
  · rw [port_enter_self, leaves, port_mapPurposes, if_pos rfl]
  · rw [enter_probes, leaves]
    rfl

theorem reopen_mgmt (s : State) (p : Port) :
    (s.reopen p).mgmt = s.mgmt.raise (.recovered p (s.port p).state (s.port p).strikes s.timer.secondCount) :=
  congrArg (Mgmt.raise _) (onlyIn_enter s p .opened .mgmt (by decide))

theorem enter_opened_control {s : State} {p : Port} (shut : gateOf (s.port p).state = .shut) :
    (s.enter p .opened).control = { s.control with pendingGate := s.control.pendingGate.set p (some .pass) } := by
  rw [enter_control, shut]
  rfl

/-! ### LINKUP (R93) -/

theorem concludeLinkup_of_void {s : State} {p : Port} {u : Purposes} {outcome : ProbeOutcome}
    (void : (s.port p).state ≠ .priming ∨ u.linkupBroken = true ∨ outcome = .void) : s.concludeLinkup p u outcome = s := by
  refine if_neg fun ⟨_, unbroken, proved, priming⟩ => ?_
  obtain left | broken | void := void
  · exact left priming
  · rw [unbroken] at broken; cases broken
  · exact proved void

theorem concludeLinkup_of_priming {s : State} {p : Port} {outcome : ProbeOutcome} (priming : (s.port p).state = .priming)
    (proved : outcome ≠ .void) : s.concludeLinkup p { Purposes.empty with linkup := true } outcome =
      (s.setPort p { s.port p with linkup := linkupOf outcome }).primingExit p := if_pos ⟨rfl, rfl, proved, priming⟩

theorem primingExit_of_unprimed {s : State} {p : Port} (unprimed : s.primed p = false) : s.primingExit p = s :=
  if_neg fun h => by rw [unprimed] at h; cases h.2

/-- The state that a primed port enters by its linkup result (R93). -/
def LinkupResult.exit (r : LinkupResult) : PortState := if r = .looped then .limited else .opened

section Exit

variable {s : State} {p : Port} (priming : (s.port p).state = .priming) (primed : s.primed p = true)

include priming primed

theorem primingExit_of_looped (looped : (s.port p).linkup = .looped) :
    s.primingExit p = s.trip p .trunkLoop .limited none none := by
  rw [State.primingExit, if_pos ⟨priming, primed⟩, looped]
  rfl

theorem primingExit_of_proved (proved : (s.port p).linkup = .clear ∨ (s.port p).linkup = .contained) :
    s.primingExit p = s.enter p .opened := by
  rw [State.primingExit, if_pos ⟨priming, primed⟩]
  obtain result | result := proved <;> rw [result]

/-- Whatever its result, a port leaves PRIMING as it enters a state; a limiting trip adds the evidence and the notice alone. -/
theorem primingExit_enters (set : (s.port p).linkup ≠ .unset) :
    (s.primingExit p).ports = (s.enter p (s.port p).linkup.exit).ports ∧
    (s.primingExit p).probes = (s.enter p (s.port p).linkup.exit).probes ∧
    (s.primingExit p).control = (s.enter p (s.port p).linkup.exit).control ∧
    (s.primingExit p).trips = removeTrip p s.trips := by
  cases result : (s.port p).linkup with
  | unset => exact absurd result set
  | clear =>
    rw [primingExit_of_proved priming primed (.inl result)]
    exact ⟨rfl, rfl, rfl, enter_trips s p .opened⟩
  | contained =>
    rw [primingExit_of_proved priming primed (.inr result)]
    exact ⟨rfl, rfl, rfl, enter_trips s p .opened⟩
  | looped =>
    rw [primingExit_of_looped priming primed result]
    exact ⟨trip_ports _ _ _ _ _ _, trip_probes _ _ _ _ _ _, trip_control _ _ _ _ _ _, trip_trips _ _ _ _ _ _⟩

end Exit

/-! ### RECOVER (R102) -/

theorem concludeRecover_of_void {s : State} {p : Port} {u : Purposes} {outcome : ProbeOutcome}
    (void : (s.port p).state ≠ .testing ∨ u.recoverBroken = true ∨ outcome ≠ .clear) :
    s.concludeRecover p u outcome = s := by
  refine if_neg fun ⟨_, unbroken, clear, testing⟩ => ?_
  obtain left | broken | looped := void
  · exact left testing
  · rw [unbroken] at broken; cases broken
  · exact looped clear

theorem conclude_recover_clear {s : State} {p : Port} (testing : (s.port p).state = .testing) (arrival : Option Port) :
    s.conclude p { Purposes.empty with recover := true, recoverBroken := false } .clear arrival = s.reopen p :=
  (conclude_recover s p .clear arrival true false).trans (if_pos ⟨rfl, rfl, rfl, testing⟩)

section Reopen

variable {s : State} {p : Port} (testing : (s.port p).state = .testing)

include testing

theorem port_reopen_self : (s.reopen p).port p = { s.port p with
    state := .opened, holdOff := 0, calm := 0, decay := 0, wants := (s.port p).wants.breakRecover } :=
  (enter_broken (leaveState_of_testing testing) .opened).1

theorem reopen_probes : (s.reopen p).probes = { s.probes with list := s.probes.list.map fun e =>
    if e.origin = p then { e with purposes := e.purposes.breakRecover } else e } :=
  (enter_broken (leaveState_of_testing testing) .opened).2

theorem reopen_control :
    (s.reopen p).control = { s.control with pendingGate := s.control.pendingGate.set p (some .pass) } :=
  enter_opened_control (by rw [testing]; rfl)

theorem reopen_recovered :
    (s.reopen p).mgmt = s.mgmt.raise (.recovered p .testing (s.port p).strikes s.timer.secondCount) :=
  testing ▸ reopen_mgmt s p

end Reopen

theorem reopen_trips (s : State) (p : Port) : (s.reopen p).trips = removeTrip p s.trips := enter_trips s p .opened

theorem port_reopen_of_ne (s : State) (p : Port) : OtherPortsKept p s (s.reopen p) := fun _ other =>
  port_enter_of_ne s .opened other

/-! ### HOST (R78) -/

theorem hostOutcome_eq (x : PortState) (outcome : ProbeOutcome) :
    hostOutcome x outcome = if x = .down ∨ x = .unguarded then .void else outcome := by
  cases x <;> rfl

theorem conclude_host_some (s : State) (p : Port) (tag : Byte) (outcome : ProbeOutcome) (arrival : Option Port) :
    s.conclude p { Purposes.empty with host := some tag } outcome arrival =
      if (s.port p).state = .down ∨ (s.port p).state = .unguarded ∨ outcome = .void then
        { s with mgmt := s.mgmt.raise (.checkDone p tag .void none s.timer.secondCount) }
      else { s with mgmt := s.mgmt.raise (.checkDone p tag outcome arrival s.timer.secondCount) } := by
  rw [conclude_host, State.concludeHost]
  dsimp only
  rw [hostOutcome_eq]
  by_cases idle : (s.port p).state = .down ∨ (s.port p).state = .unguarded
  · rw [if_pos idle, if_pos (or_assoc.1 (.inl idle))]
    rfl
  · by_cases void : outcome = .void
    · subst void
      rw [if_neg idle, if_pos (Or.inr (Or.inr rfl))]
      rfl
    · rw [if_neg idle, if_neg void, if_neg fun h => (or_assoc.2 h).elim idle void]
      rfl

/-! ### The end of a probe entry that is due next (R69, log 25) -/

/-- The end of an entry taken from the events due, and the entry from the list. -/
def State.probeEnded (s : State) (o : Port) (e : ProbeEntry) : State :=
  (s.setDue (s.due.erase (.probeExpired o))).setProbes
    { s.probes with list := s.probes.list.filter fun y => y.tag != e.tag }

theorem exec_probeExpiry (s : State) (o : Port) : exec (.probeExpiry o) s =
    .next (if (s.endedEntry o).isSome then s.takeAfterReports (.probeExpired o) else s) := by
  refine congrArg Host.Outcome.next ?_
  cases s.endedEntry o <;> rfl

theorem endedEntry_some {s : State} {o : Port} {e : ProbeEntry} (ended : s.endedEntry o = some e) :
    s.due.find? Event.endsProbe = some (.probeExpired o) ∧ s.reachedEntry o = some e := by
  rw [State.endedEntry] at ended
  split at ended
  · exact ⟨‹_›, ended⟩
  · cases ended

theorem endedOrigins_of_next {due : List Event} {o : Port} (next : due.find? Event.endsProbe = some (.probeExpired o)) :
    ∃ rest, endedOrigins due = o :: rest := by
  obtain ⟨-, before, after, rfl, others⟩ := List.find?_eq_some_iff_append.1 next
  refine ⟨endedOrigins after, ?_⟩
  have none : endedOrigins before = [] := List.filterMap_eq_nil_iff.2 fun x hx => by
    cases x with
    | probeExpired q => exact absurd (others _ hx) Bool.false_ne_true
    | _ => rfl
  rw [endedOrigins, List.filterMap_append, ← endedOrigins, none]
  rfl

theorem ledger_takeDue_of_reports (s : State) {e : Event} (h : e.ofReports = true) : (s.takeDue e).ledger = s.ledger := by
  unfold State.takeDue
  split
  · match e, h with
    | .calmHold p, _ => exact ledger_takeCalmHold _ p
    | .reports p, _ => exact ledger_foldl ledger_handReport _ _
  · rfl

theorem ledger_finishReports (s : State) : s.finishReports.ledger = s.ledger := by
  have fold : ∀ (l : List Event) (u : State), (∀ e ∈ l, e.ofReports = true) →
      (l.foldl State.takeDue u).ledger = u.ledger := by
    intro l
    induction l with
    | nil => exact fun u _ => rfl
    | cons e rest ih =>
      intro u h
      rw [List.foldl_cons, ih _ fun x hx => h x (List.mem_cons_of_mem _ hx),
        ledger_takeDue_of_reports u (h e List.mem_cons_self)]
  exact fold _ s fun e he => (List.mem_filter.1 he).2

/-- Whether an entry of an origin has been reached, the ledger and the time tell. -/
theorem reachedEntry_isSome_congr {s t : State} (ledger : t.ledger = s.ledger) (timer : t.timer = s.timer) {o : Port}
    (reached : (s.reachedEntry o).isSome = true) : (t.reachedEntry o).isSome = true := by
  have keys : t.probes.list.map ProbeEntry.key = s.probes.list.map ProbeEntry.key :=
    congrArg (fun l : Ledger => l.book.entries) ledger
  have stamp : t.stamp = s.stamp := congrArg (fun x : SlotTimer => x.slotCount.setWidth 16) timer
  obtain ⟨e, held, test⟩ := List.find?_isSome.1 reached
  obtain ⟨x, listed, key⟩ := List.mem_map.1 (keys ▸ List.mem_map_of_mem held : e.key ∈ t.probes.list.map ProbeEntry.key)
  have origin : x.origin = e.origin := congrArg ProbeKey.origin key
  have expiry : x.expiry = e.expiry := congrArg ProbeKey.expiry key
  refine List.find?_isSome.2 ⟨x, listed, ?_⟩
  rw [origin, stamp, ProbeEntry.reached, expiry]
  exact test

/-- The step reports, once acted on, leave the end that is due next in its place. -/
theorem endedEntry_finishReports {s : State} {o : Port} (ended : (s.endedEntry o).isSome = true) :
    (s.finishReports.endedEntry o).isSome = true := by
  obtain ⟨e, ended⟩ := Option.isSome_iff_exists.1 ended
  obtain ⟨next, reached⟩ := endedEntry_some ended
  have others : (fun x : Event => decide ((!x.ofReports) = true ∧ x.endsProbe = true)) = Event.endsProbe := by
    funext x; cases x <;> rfl
  have due : s.finishReports.due.find? Event.endsProbe = some (.probeExpired o) := by
    rw [due_finishReports, List.find?_filter, others, next]
  rw [State.endedEntry, if_pos due]
  exact reachedEntry_isSome_congr (ledger_finishReports s) (onlyIn_finishReports s .timer (by decide)) (by rw [reached]; rfl)

theorem exec_probeExpiry_finishReports {s : State} {o : Port} {e : ProbeEntry} (ended : s.endedEntry o = some e) :
    exec (.probeExpiry o) s = exec (.probeExpiry o) s.finishReports := by
  have some : (s.endedEntry o).isSome = true := by rw [ended]; rfl
  rw [exec_probeExpiry, exec_probeExpiry, if_pos some, if_pos (endedEntry_finishReports some),
    takeAfterReports_of_mem (List.mem_of_find?_eq_some (endedEntry_some ended).1),
    takeAfterReports_of_done _ _ (reportsDone_finishReports s)]

theorem exec_probeExpiry_ended {s : State} {o : Port} {e : ProbeEntry} (ended : s.endedEntry o = some e)
    (done : ReportsDone s) :
    exec (.probeExpiry o) s = .next ((s.probeEnded o e).conclude o e.purposes .clear none) := by
  obtain ⟨next, reached⟩ := endedEntry_some ended
  have found : (s.setDue (s.due.erase (.probeExpired o))).reachedEntry o = some e := reached
  rw [exec_probeExpiry, if_pos (by rw [ended]; rfl), takeAfterReports_of_done _ _ done,
    takeDue_of_mem (List.mem_of_find?_eq_some next), State.takeEvent, State.takeProbeExpiry, found]
  rfl

/-! ### Tags in the list -/

theorem tags_of_ledger {s t : State} (ledger : t.ledger = s.ledger) :
    t.probes.list.map (·.tag) = s.probes.list.map (·.tag) := by
  have keys : t.probes.list.map ProbeEntry.key = s.probes.list.map ProbeEntry.key :=
    congrArg (fun l : Ledger => l.book.entries) ledger
  simpa [ProbeEntry.key, Function.comp_def] using congrArg (List.map ProbeKey.tag) keys

theorem tag_absent_of_tags {l m : List ProbeEntry} (tags : m.map (·.tag) = l.map (·.tag)) {tag : Half}
    (absent : ∀ y ∈ l, y.tag ≠ tag) : ∀ y ∈ m, y.tag ≠ tag := by
  rw [← List.forall_mem_map (f := ProbeEntry.tag) (P := (· ≠ tag))] at absent ⊢
  rwa [tags]

theorem tag_absent_of_filter (l : List ProbeEntry) (tag : Half) : ∀ y ∈ l.filter (fun y => y.tag != tag), y.tag ≠ tag :=
  fun _ hy => bne_iff_ne.1 (List.mem_filter.1 hy).2

/-! ### What each purpose does with each outcome -/

/-- A LINKUP that concludes with a result sets it, and a primed port leaves PRIMING by it (R93, R103). -/
theorem conclude_linkup_result {s : State} {p : Port} {outcome : ProbeOutcome} (arrival : Option Port)
    {result : LinkupResult} (priming : (s.port p).state = .priming) (gives : (outcome = .clear ∧ result = .clear) ∨
      (outcome = .contained ∧ result = .contained) ∨ (outcome = .looped ∧ result = .looped)) :
    s.conclude p { Purposes.empty with linkup := true } outcome arrival =
      (s.setPort p { s.port p with linkup := result }).primingExit p := by
  have linkup := conclude_linkup s p outcome arrival true false
  obtain ⟨rfl, rfl⟩ | ⟨rfl, rfl⟩ | ⟨rfl, rfl⟩ := gives <;>
    exact linkup.trans (concludeLinkup_of_priming priming (by decide))

/-- The row of the exit test in which a primed port leaves PRIMING by a linkup result just set. -/
theorem primingExit_result {s : State} {p : Port} (result : LinkupResult) (set : result ≠ .unset)
    (priming : (s.port p).state = .priming) (primed : s.primed p = true) :
    let t := (s.setPort p { s.port p with linkup := result }).primingExit p
    t.port p = { s.port p with
      state := result.exit, linkup := result, holdOff := 0, calm := 0, decay := 0, wants := (s.port p).wants.breakLinkup } ∧
    t.probes = { s.probes with list := s.probes.list.map fun e =>
      if e.origin = p then { e with purposes := e.purposes.breakLinkup } else e } ∧
    t.control = { s.control with pendingGate := s.control.pendingGate.set p (some (gateOf result.exit)) } ∧
    t.trips = removeTrip p s.trips ∧ OtherPortsKept p s t := by
  let u := s.setPort p { s.port p with linkup := result }
  have record : u.port p = { s.port p with linkup := result } := State.port_setPort_self s p _
  have state : (u.port p).state = .priming := by rw [record, priming]
  have linkup : (u.port p).linkup = result := by rw [record]
  have shut : gateOf .priming ≠ gateOf result.exit := by cases result <;> decide
  obtain ⟨ports, probes, control, trips⟩ := primingExit_enters state primed (by rw [linkup]; exact set)
  obtain ⟨port, list⟩ := enter_broken (leaveState_of_priming state) (u.port p).linkup.exit
  rw [linkup] at ports probes control port list
  refine ⟨?_, probes.trans list, ?_, trips, fun q other => ?_⟩
  · rw [State.port_congr ports, port, record]
  · rw [control, enter_control, state, if_neg shut]
    rfl
  · rw [State.port_congr ports, port_enter_of_ne _ _ other]
    exact State.port_setPort_of_ne s p q _ other.symm

/-- The limiting trip by which a primed port with a LOOPED result leaves PRIMING (R103, R133, R134). -/
theorem primingExit_looped {s : State} {p : Port} (priming : (s.port p).state = .priming) (primed : s.primed p = true) :
    let t := (s.setPort p { s.port p with linkup := .looped }).primingExit p
    OnlyIn [.ports, .probes, .control, .trips, .evidence, .mgmt] s t ∧
    (∀ q, q ≠ p → t.evidenceOf q = s.evidenceOf q) ∧
    ((s.evidenceOf p).capture = none →
      (∃ x, t.evidenceOf p = { capture := some x, repeats := 0 } ∧ x.cause = .trunkLoop ∧ x.entered = .limited ∧
        x.partner = none ∧ x.foreign = none ∧ x.strikes = (s.port p).strikes) ∧
      t.mgmt = s.mgmt.flagTripped.raise (.trip p .trunkLoop .limited none (s.port p).strikes s.timer.secondCount)) ∧
    (∀ x, (s.evidenceOf p).capture = some x →
      t.evidenceOf p = { capture := some x, repeats := min ((s.evidenceOf p).repeats + 1) 255 } ∧
      t.mgmt = s.mgmt.flagTripped) := by
  let u := s.setPort p { s.port p with linkup := .looped }
  have record : u.port p = { s.port p with linkup := .looped } := State.port_setPort_self s p _
  have exits : u.primingExit p = u.trip p .trunkLoop .limited none none :=
    primingExit_of_looped (by rw [record, priming]) primed (by rw [record])
  have strikes : (u.port p).strikes = (s.port p).strikes := by rw [record]
  have evidence := trip_evidence u p .trunkLoop .limited none none
  have mgmt := trip_mgmt u p .trunkLoop .limited none none
  rw [strikes] at mgmt
  dsimp only
  rw [exits]
  refine ⟨((onlyIn_setPort s p _).mono (by decide)).trans (onlyIn_trip_limited u p _ _ _),
    fun q other => trip_evidence_of_ne u _ _ _ _ other, fun unlatched => ?_, fun x latched => ?_⟩
  · rw [show (u.evidenceOf p).capture = none from unlatched] at evidence mgmt
    exact ⟨⟨_, evidence, rfl, rfl, rfl, rfl, strikes⟩, mgmt⟩
  · rw [show (u.evidenceOf p).capture = some x from latched] at evidence mgmt
    exact ⟨evidence, mgmt⟩

theorem onlyIn_primingExit_proved {s : State} {p : Port} {result : LinkupResult} (proved : result = .clear ∨ result = .contained)
    (priming : (s.port p).state = .priming) (primed : s.primed p = true) :
    OnlyIn [.ports, .probes, .control, .trips] s ((s.setPort p { s.port p with linkup := result }).primingExit p) := by
  let u := s.setPort p { s.port p with linkup := result }
  have record : u.port p = { s.port p with linkup := result } := State.port_setPort_self s p _
  have exits : u.primingExit p = u.enter p .opened :=
    primingExit_of_proved (by rw [record, priming]) primed (by rw [record]; exact proved)
  exact exits ▸ ((onlyIn_setPort s p _).mono (by decide)).trans (onlyIn_enter u p .opened)

/-! ### The statement -/

/-- Settles O32: the end that is due next by `endedEntry_some` and `exec_probeExpiry_ended`, and each purpose by its own rules. -/
theorem probeExpiryConcludesClear : Obligations.ProbeExpiryConcludesClear := by
  refine ⟨fun s o e ended => ?_, fun s o none => ?_, fun s p u outcome arrival => conclude_split s p outcome arrival u,
    fun s p outcome arrival => ⟨fun broken void => ?_, fun result priming gives => ?_, fun n => ?_, fun broken => ⟨?_, ?_⟩,
      fun tag => conclude_host_some s p tag outcome arrival, fun a b => ?_⟩⟩
  · obtain ⟨next, reached⟩ := endedEntry_some ended
    obtain ⟨held, origin, expired⟩ := reachedEntry_some reached
    refine ⟨⟨held, origin, reached_iff.1 expired⟩, endedOrigins_of_next next, exec_probeExpiry_finishReports ended,
      fun done => exec_probeExpiry_ended ended done, fun done recover testing => ?_, fun tag done host => ?_,
      fun done linkup priming unprimed => ?_⟩
    · let u := s.probeEnded o e
      have run : exec (.probeExpiry o) s = .next (u.reopen o) := by
        rw [exec_probeExpiry_ended ended done, recover]
        exact congrArg _ (conclude_recover_clear (s := u) testing none)
      refine ⟨_, run, ?_, ?_, onlyIn_reopen u o .due (by decide), reopen_trips u o, reopen_control (s := u) testing,
        reopen_recovered (s := u) testing, port_reopen_of_ne u o, ?_⟩
      · rw [port_reopen_self (s := u) testing]
        rfl
      · exact tag_absent_of_tags (tags_of_ledger (ledger_reopen u o)) (tag_absent_of_filter _ _)
      · exact ((onlyIn_setDue s _).mono (by decide)).trans
          (((onlyIn_setProbes _ _).mono (by decide)).trans ((onlyIn_reopen u o).mono (by decide)))
    · rw [exec_probeExpiry_ended ended done, host, conclude_host_some]
      refine congrArg Host.Outcome.next ?_
      by_cases idle : (s.port o).state = .down ∨ (s.port o).state = .unguarded
      · rw [if_pos idle]
        exact if_pos (or_assoc.1 (.inl idle))
      · rw [if_neg idle]
        exact if_neg fun h => (or_assoc.2 h).elim idle (by decide)
    · rw [exec_probeExpiry_ended ended done, linkup]
      exact congrArg _ ((conclude_linkup_result (s := s.probeEnded o e) none priming (.inl ⟨rfl, rfl⟩)).trans
        (primingExit_of_unprimed unprimed))
  · rw [exec_probeExpiry, none]
    rfl
  · exact (conclude_linkup s p outcome arrival true broken).trans (concludeLinkup_of_void void)
  · have set : result ≠ .unset := by obtain ⟨-, rfl⟩ | ⟨-, rfl⟩ | ⟨-, rfl⟩ := gives <;> decide
    dsimp only
    rw [conclude_linkup_result arrival priming gives]
    refine ⟨fun unprimed => ?_, fun primed => ?_⟩
    · exact primingExit_of_unprimed unprimed
    · obtain ⟨port, probes, control, trips, others⟩ := primingExit_result result set priming primed
      refine ⟨port, probes, ?_, trips, others, fun proved => ?_, fun looped => ?_⟩
      · rw [control]
        cases result <;> rfl
      · refine onlyIn_primingExit_proved ?_ priming primed
        obtain ⟨-, rfl⟩ | ⟨-, rfl⟩ | ⟨-, rfl⟩ := gives
        exacts [.inl rfl, .inr rfl, absurd rfl proved]
      · subst looped
        exact primingExit_looped priming primed
  · exact conclude_sweep s p outcome arrival (some n)
  · exact fun void => (conclude_recover s p outcome arrival true broken).trans (concludeRecover_of_void void)
  · rintro testing rfl rfl
    dsimp only
    rw [conclude_recover_clear testing]
    exact ⟨port_reopen_self testing, reopen_probes testing, reopen_control testing, reopen_trips s p,
      reopen_recovered testing, port_reopen_of_ne s p, onlyIn_reopen s p⟩
  · exact (conclude_of_no_linkup s p outcome arrival rfl).trans (concludeRecover_of_unset s p outcome rfl)

end Sys2Proof.Machine
end

section
/-! PROBE_DISPATCH (R9): a return that matches its entry, one that does not, and returns of a retired and of a foreign room (R70 to
R75). -/

namespace Sys2Proof.Machine

theorem exec_probeDispatch {s : State} {x : Port} {room : Half} {origin : Byte} {tag : Half} {rest : List SightingRecord}
    (due : s.due = []) (head : s.receiver.fifo = .probe x room origin tag :: rest) :
    exec .probeDispatch s = .next ((s.popFifo rest).takeReturn x room origin tag) := by
  refine congrArg Host.Outcome.next ?_
  rw [close_of_due_nil s due]
  unfold State.dispatchProbe
  rw [head]

/-! ### The sorting of returns (R70) -/

theorem takeReturn_matched {s : State} {origin : Byte} {tag : Half} {e : ProbeEntry} (x : Port)
    (matched : s.matching origin tag = some e) : s.takeReturn x s.profile.roomId origin tag = s.matchedReturn e x := by
  rw [State.takeReturn, if_pos rfl, matched]

theorem takeReturn_unmatched {s : State} {origin : Byte} {tag : Half} (x : Port) (none : s.matching origin tag = none) :
    s.takeReturn x s.profile.roomId origin tag = s.unmatchedReturn x origin tag := by
  rw [State.takeReturn, if_pos rfl, none]

theorem takeReturn_retired {s : State} {room : Half} {left : Nat} (x : Port) (origin : Byte) (tag : Half)
    (other : room ≠ s.profile.roomId) (retired : s.probes.retired = some { room := room, left := left }) :
    s.takeReturn x room origin tag = s.setProbes { s.probes with stale := sat16 s.probes.stale } := by
  have old : s.isRetired room = true := by simp [State.isRetired, retired]
  rw [State.takeReturn, if_neg other, if_pos old]

theorem takeReturn_foreign {s : State} {room : Half} (x : Port) (origin : Byte) (tag : Half)
    (other : room ≠ s.profile.roomId) (unknown : ∀ r, s.probes.retired = some r → r.room ≠ room) :
    s.takeReturn x room origin tag = s.foreignReturn x room := by
  have foreign : ¬s.isRetired room = true := by
    unfold State.isRetired
    split
    · simpa using unknown _ ‹_›
    · exact Bool.false_ne_true
  rw [State.takeReturn, if_neg other, if_neg foreign]

/-- Tags being distinct, the SENT entry of a tag and its origin is the one that a return matches (R71). -/
theorem matching_of_sound {s : State} {e : ProbeEntry} (sound : ProbeListSound s) (held : e ∈ s.probes.list)
    (sent : e.expiry.isSome = true) : s.matching (portByte e.origin) e.tag = some e := by
  obtain ⟨-, -, tags, -, -⟩ := sound
  have some : (s.matching (portByte e.origin) e.tag).isSome = true :=
    List.find?_isSome.2 ⟨e, held, by simp [sent, portByte_toNat]⟩
  obtain ⟨y, found⟩ := Option.isSome_iff_exists.1 some
  have test := List.find?_some found
  simp only [Bool.and_eq_true, beq_iff_eq] at test
  rw [found, List.inj_on_of_nodup_map tags (List.mem_of_find?_eq_some found) held test.1.2]

theorem matching_none {s : State} {origin : Byte} {tag : Half} (none : ∀ e ∈ s.probes.list, e.expiry.isSome = true →
    e.tag = tag → e.origin.val ≠ origin.toNat) : s.matching origin tag = .none := by
  refine List.find?_eq_none.2 fun e held test => ?_
  simp only [Bool.and_eq_true, beq_iff_eq] at test
  exact none e held test.1.1 test.1.2 test.2

/-! ### Tags and states through a conclusion -/

theorem ProbeBook.tags_conclude (b : ProbeBook) (outcome : ProbeOutcome) (number : Option Byte) :
    (b.conclude outcome number).entries.map (·.tag) = b.entries.map (·.tag) := by
  unfold ProbeBook.conclude ProbeBook.putSweep ProbeBook.endSweep
  repeat' split
  all_goals simp [Function.comp_def]

theorem tags_conclude (s : State) (p : Port) (u : Purposes) (outcome : ProbeOutcome) (arrival : Option Port) :
    (s.conclude p u outcome arrival).probes.list.map (·.tag) = s.probes.list.map (·.tag) := by
  have entries : (s.conclude p u outcome arrival).ledger.book.entries = (s.ledger.book.conclude outcome u.sweep).entries := by
    rw [ledger_conclude]
  have tags := (congrArg (List.map ProbeKey.tag) entries).trans (ProbeBook.tags_conclude _ outcome u.sweep)
  simpa [State.ledger, ProbeEntry.key, Function.comp_def] using tags

theorem state_deliverSweep (s : State) (number : Byte) (outcome : ProbeOutcome) (q : Port) :
    ((s.deliverSweep number outcome).port q).state = (s.port q).state := by
  have put : ∀ r, ((s.putSweep r).port q).state = (s.port q).state := fun r => by
    obtain ⟨ports, -⟩ | ⟨-, ports, -⟩ := putSweep_cases s r
    · rw [State.port_congr ports]
    · rw [State.port_congr ports, port_dropSweeps]
  unfold State.deliverSweep
  split
  · split
    · exact put _
    · rfl
  · rfl

theorem state_concludeSweep (s : State) (u : Purposes) (outcome : ProbeOutcome) (q : Port) :
    ((s.concludeSweep u outcome).port q).state = (s.port q).state := by
  unfold State.concludeSweep
  split
  · exact state_deliverSweep s _ outcome q
  · rfl

/-- CONTAINED moves a port by its LINKUP alone (R77). -/
theorem conclude_contained {s : State} {p : Port} {u : Purposes} (arrival : Option Port)
    (still : u.linkup = false ∨ (s.port p).state ≠ .priming) :
    (∀ q, ((s.conclude p u .contained arrival).port q).state = (s.port q).state) ∧
    (s.conclude p u .contained arrival).trips = s.trips ∧ (s.conclude p u .contained arrival).evidence = s.evidence := by
  have linkup : s.concludeLinkup p u .contained = s := by
    obtain unset | moved := still
    · exact if_neg fun h => by rw [unset] at h; cases h.1
    · exact concludeLinkup_of_void (.inl moved)
  have recover : (s.concludeSweep u .contained).concludeRecover p u .contained = s.concludeSweep u .contained :=
    concludeRecover_of_void (.inr (.inr (by decide)))
  have host := onlyIn_concludeHost (s.concludeSweep u .contained) p u .contained arrival
  rw [State.conclude, linkup, recover]
  refine ⟨fun q => ?_, ?_, ?_⟩
  · rw [State.port_congr (host .ports (by decide)), state_concludeSweep]
  · exact Eq.trans (host .trips (by decide)) (onlyIn_concludeSweep s u .contained .trips (by decide))
  · exact Eq.trans (host .evidence (by decide)) (onlyIn_concludeSweep s u .contained .evidence (by decide))

/-! ### Matched returns (R71) -/

/-- Settles O29: the matched return is the conclusion with the outcome of the proof, and steps 1 and 3 of R75 leave it CONTAINED. -/
theorem matchedReturnEndsProbe : Obligations.MatchedReturnEndsProbe := by
  rintro s x o tag rest e due head sound held rfl rfl sent
  have matched : (s.popFifo rest).matching (portByte e.origin) e.tag = some e := matching_of_sound sound held sent
  let s1 := (s.popFifo rest).setProbes { s.probes with list := s.probes.list.filter fun y => y.tag != e.tag }
  have run := (exec_probeDispatch due head).trans (congrArg Host.Outcome.next (takeReturn_matched x matched))
  refine ⟨_, run, ?_, ?_, rfl, fun contained => ?_⟩
  · exact onlyIn_matchedReturn (s.popFifo rest) e x .receiver (by decide)
  · exact tag_absent_of_tags ((tags_conclude _ _ _ _ _).trans (tags_of_ledger (ledger_resolve s1 _ _ _)))
      (tag_absent_of_filter _ _)
  · have outcome : s1.resolve e.origin x e.purposes.recover = (s1, .contained) ∧
        (e.purposes.linkup = false ∨ (s1.port e.origin).state ≠ .priming) := by
      have inactive : ∀ y : PortState, (s.port e.origin).state = y → y.downOrUnguarded = true →
          s1.resolve e.origin x e.purposes.recover = (s1, .contained) := fun y state hy =>
        resolve_of_inactive (s := s1) x _ (state ▸ hy)
      obtain down | unguarded | ⟨recover, linkup, shut⟩ := contained
      · exact ⟨inactive _ down rfl, .inr (show (s.port e.origin).state ≠ _ by simp [down])⟩
      · exact ⟨inactive _ unguarded rfl, .inr (show (s.port e.origin).state ≠ _ by simp [unguarded])⟩
      · exact ⟨recover ▸ resolve_of_shut (s := s1) shut, .inl linkup⟩
    have result : (s.popFifo rest).matchedReturn e x = s1.conclude e.origin e.purposes .contained (some x) :=
      congrArg (fun r : State × ProbeOutcome => r.1.conclude e.origin e.purposes r.2 (some x)) outcome.1
    rw [result]
    exact conclude_contained (some x) outcome.2

/-! ### The Probe Engine through a proof -/

/-- From `s` to `t` the Probe Engine changes in its list alone. -/
def ListChanged (s t : State) : Prop := t.probes = { s.probes with list := t.probes.list }

theorem ListChanged.of_eq {s t : State} (h : t.probes = s.probes) : ListChanged s t := by rw [ListChanged, h]

theorem ListChanged.trans {s t u : State} (h : ListChanged s t) (k : ListChanged t u) : ListChanged s u := by
  rw [ListChanged, k, h]

theorem listChanged_enter (s : State) (p : Port) (x : PortState) : ListChanged s (s.enter p x) := by
  rw [ListChanged, enter_probes]
  unfold State.leaveState
  split <;> rfl

theorem listChanged_trip (s : State) (p : Port) (c : Cause) (x : PortState) (q : Option Port) (r : Option Half) :
    ListChanged s (s.trip p c x q r) := (listChanged_enter s p x).trans (.of_eq (trip_probes s p c x q r))

theorem listChanged_blockingTrip (s : State) (p : Port) (c : Cause) (q : Option Port) (r : Option Half) :
    ListChanged s (s.blockingTrip p c q r) := by
  rw [blockingTrip_eq]
  exact ListChanged.trans (t := s.struck p) (.of_eq rfl) ((listChanged_trip _ p c _ q r).trans (.of_eq rfl))

theorem listChanged_limitTrunk (s : State) (p : Port) (q : Option Port) : ListChanged s (s.limitTrunk p q) := by
  unfold State.limitTrunk
  split
  · exact listChanged_trip s p .trunkLoop .limited q none
  · exact .of_eq rfl

theorem listChanged_trunkLoop (s : State) (o x : Port) : ListChanged s (s.trunkLoop o x) := by
  have named : ListChanged s (s.raise (.trunkLoop o x s.second)) := .of_eq rfl
  unfold State.trunkLoop
  dsimp only
  repeat' split
  · exact named.trans (listChanged_limitTrunk _ o _)
  · exact (named.trans (listChanged_limitTrunk _ o _)).trans (listChanged_limitTrunk _ x _)
  · exact (named.trans (listChanged_limitTrunk _ x _)).trans (listChanged_limitTrunk _ o _)

theorem listChanged_resolve (s : State) (o x : Port) (recover : Bool) : ListChanged s (s.resolve o x recover).1 := by
  unfold State.resolve
  dsimp only
  repeat' split
  · exact .of_eq rfl
  · exact listChanged_blockingTrip s o _ _ _
  · exact .of_eq rfl
  · exact listChanged_blockingTrip s x _ _ _
  · exact listChanged_blockingTrip s x _ _ _
  · exact .of_eq rfl
  · exact listChanged_blockingTrip s o _ _ _
  · exact listChanged_trunkLoop s o x

/-! ### Unmatched returns (R72) -/

theorem countUnmatched_stale (tag : Half) (e : ProbeEngine) :
    (e.countUnmatched tag).stale = if tag ∈ e.recent then min (e.stale + 1) 65535 else e.stale := by
  unfold ProbeEngine.countUnmatched
  split <;> rfl

theorem countUnmatched_unknown (tag : Half) (e : ProbeEngine) :
    (e.countUnmatched tag).unknown = if tag ∈ e.recent then e.unknown else min (e.unknown + 1) 65535 := by
  unfold ProbeEngine.countUnmatched
  split <;> rfl

theorem unmatchedReturn_guarded {s : State} {o : Port} {origin : Byte} (x : Port) (tag : Half)
    (named : portOf origin = some o) (guarded : (s.port o).role ≠ .off) :
    s.unmatchedReturn x origin tag = ((s.setProbes (s.probes.countUnmatched tag)).resolve o x false).1 := by
  rw [State.unmatchedReturn, named]
  exact if_pos ((guarded_iff s o).2 guarded)

theorem unmatchedReturn_unguarded {s : State} {origin : Byte} (x : Port) (tag : Half)
    (off : ∀ o, portOf origin = some o → (s.port o).role = .off) :
    s.unmatchedReturn x origin tag = s.setProbes (s.probes.countUnmatched tag) := by
  unfold State.unmatchedReturn
  dsimp only
  split
  · exact if_neg fun guarded => (guarded_iff s _).1 guarded (off _ ‹_›)
  · rfl

theorem listChanged_unmatchedReturn (s : State) (x : Port) (origin : Byte) (tag : Half) :
    ListChanged (s.setProbes (s.probes.countUnmatched tag)) (s.unmatchedReturn x origin tag) := by
  unfold State.unmatchedReturn
  dsimp only
  split
  · split
    · exact listChanged_resolve _ _ x false
    · exact .of_eq rfl
  · exact .of_eq rfl

/-! ### Foreign returns (R74) -/

/-- A foreign return counted. -/
def State.foreignCounted (s : State) : State := s.setProbes { s.probes with foreign := sat16 s.probes.foreign }

section Foreign

variable {s : State} {x : Port} (room : Half)

theorem foreignReturn_elsewhere (other : (s.port x).role ≠ .desk) : s.foreignReturn x room = s.foreignCounted :=
  if_neg other

theorem foreignReturn_shut (desk : (s.port x).role = .desk) (shut : (s.port x).state.blockable = false) :
    s.foreignReturn x room = s.foreignCounted.raise (.foreign x room s.second) := by
  have still : ((s.setProbes { s.probes with foreign := sat16 s.probes.foreign }).port x).state.blockable = false := shut
  rw [State.foreignReturn]
  dsimp only
  rw [still]
  exact if_pos desk

theorem foreignReturn_live (desk : (s.port x).role = .desk) (live : (s.port x).state.blockable = true) :
    s.foreignReturn x room =
      (s.foreignCounted.blockingTrip x .foreign none (some room)).raise (.foreign x room s.second) := by
  have still : ((s.setProbes { s.probes with foreign := sat16 s.probes.foreign }).port x).state.blockable = true := live
  have second : (s.foreignCounted.blockingTrip x .foreign none (some room)).second = s.second :=
    congrArg SlotTimer.secondCount (onlyIn_blockingTrip _ x _ _ _ .timer (by decide))
  rw [State.foreignReturn]
  dsimp only
  rw [still, ← second]
  exact if_pos desk

end Foreign

/-- Settles O31: each kind of return by its rule, and the blocking trip of a live desk by those of `blockingTrip`. -/
theorem otherReturnsAreCountedAndSorted : Obligations.OtherReturnsAreCountedAndSorted := by
  refine ⟨fun s x room origin tag rest due head => ⟨?_, fun other retired => ?_⟩,
    fun s x room origin tag rest due head other unknown => ?_⟩
  · rintro rfl none
    have run := (exec_probeDispatch due head).trans (congrArg Host.Outcome.next
      (takeReturn_unmatched (s := s.popFifo rest) x (matching_none none)))
    have changed := listChanged_unmatchedReturn (s.popFifo rest) x origin tag
    refine ⟨_, run, ?_, ?_, tags_of_ledger (s := s.popFifo rest) (ledger_unmatchedReturn _ x origin tag), fun off => ?_,
      fun o named guarded => ?_⟩
    · rw [changed]
      exact countUnmatched_stale tag s.probes
    · rw [changed]
      exact countUnmatched_unknown tag s.probes
    · rw [unmatchedReturn_unguarded (s := s.popFifo rest) x tag off]
      exact ⟨((onlyIn_popFifo s rest).mono (by decide)).trans ((onlyIn_setProbes _ _).mono (by decide)),
        countUnmatched_list tag s.probes⟩
    · exact unmatchedReturn_guarded (s := s.popFifo rest) x tag named guarded
  · obtain ⟨left, retired⟩ := retired
    exact (exec_probeDispatch due head).trans (congrArg Host.Outcome.next
      (takeReturn_retired (s := s.popFifo rest) x origin tag other retired))
  · have run := (exec_probeDispatch due head).trans (congrArg Host.Outcome.next
      (takeReturn_foreign (s := s.popFifo rest) x origin tag other unknown))
    refine ⟨fun elsewhere => run.trans (congrArg _ (foreignReturn_elsewhere (s := s.popFifo rest) room elsewhere)),
      fun desk shut => run.trans (congrArg _ (foreignReturn_shut (s := s.popFifo rest) room desk shut)), fun desk live => ?_⟩
    let u := (s.popFifo rest).foreignCounted
    have trip := foreignReturn_live (s := s.popFifo rest) room desk live
    have probes := listChanged_blockingTrip u x .foreign none (some room)
    refine ⟨_, run.trans (congrArg _ trip), rfl, ?_, ?_, ?_, port_blockingTrip_of_ne u x _ _ _,
      blockingTrip_trips u x _ _ _, ?_, fun unlatched => ?_, ?_⟩
    · exact congrArg ProbeEngine.foreign probes
    · rw [port_raise, port_blockingTrip_self]
      rfl
    · rw [port_raise, port_blockingTrip_self]
      rfl
    · rw [raise_mgmt, raise_flags_tripped]
      exact blockingTrip_tripped u x _ _ _
    · have captured := blockingTrip_captures u x .foreign none (some room) unlatched
      exact ⟨_, congrArg EvidenceRecord.capture captured, rfl, rfl, rfl⟩
    · exact ((onlyIn_popFifo s rest).mono (by decide)).trans (((onlyIn_setProbes _ _).mono (by decide)).trans
        (((onlyIn_blockingTrip u x _ _ _).mono (by decide)).trans ((onlyIn_raise _ _).mono (by decide))))

end Sys2Proof.Machine
end

section
/-! The Sweep Scheduler: the automatic timer (R121), the taking of ports (R123), the counting of conclusions (R124) and the end of
a sweep (R120, R125). -/

namespace Sys2Proof.Machine

theorem exec_autoSweepTimerExpiry (s : State) : exec .autoSweepTimerExpiry s = .next (s.takeDue .autoSweep) := rfl
theorem exec_sweepTakePort (s : State) : exec .sweepTakePort s = .next (s.takeDue .sweepTake) := rfl

/-! ### The automatic timer (R121) -/

theorem takeAutoSweep_of_none {s : State} (record : s.sweep.record = none) :
    s.takeAutoSweep = (s.startSweep none 0 39).setSweep
      { (s.startSweep none 0 39).sweep with timer := s.profile.sweepPeriod } := by
  rw [State.takeAutoSweep, record]
  rfl

theorem takeAutoSweep_of_some {s : State} {r : SweepRecord} (record : s.sweep.record = some r) :
    s.takeAutoSweep = s.setSweep { s.sweep with timer := s.profile.sweepPeriod } := by
  rw [State.takeAutoSweep, record]

/-! ### The record set (R125) -/

theorem complete_iff (r : SweepRecord) : r.complete = true ↔ r.last.val < r.next ∧
    r.clear + r.contained + r.looped + r.skipped = r.last.val + 1 - r.first.val := by
  simp [SweepRecord.complete, SweepRecord.counted, SweepRecord.size]

theorem putSweep_of_incomplete {s : State} {r : SweepRecord} (more : ¬r.complete = true) :
    s.putSweep r = s.setSweep { s.sweep with record := some r } := if_neg more

/-- What the end of a completed sweep does: `s` to `t`, with the record `r` as it stood. -/
structure SweepEnded (r : SweepRecord) (s t : State) : Prop where
  sweep : t.sweep = { s.sweep with record := none }
  mgmt : t.mgmt = s.mgmt.raise (.sweepDone r .done s.timer.secondCount)
  port : ∀ q, t.port q = { s.port q with wants := { (s.port q).wants with sweep := none } }
  probes : t.probes =
    { s.probes with list := s.probes.list.map fun e => { e with purposes := { e.purposes with sweep := none } } }
  only : OnlyIn [.sweep, .ports, .probes, .mgmt] s t

theorem putSweep_of_complete {s : State} {r : SweepRecord} (complete : r.complete = true) : SweepEnded r s (s.putSweep r) := by
  have ended : s.putSweep r = (s.setSweep { s.sweep with record := some r }).endSweep r .done := if_pos complete
  exact ⟨by rw [ended]; rfl, by rw [ended]; rfl, fun q => by rw [ended]; exact port_dropSweeps s q, by rw [ended]; rfl,
    (onlyIn_putSweep s r).mono (by decide)⟩

/-! ### The taking of a port (R123) -/

theorem port_setWant_wants (s : State) (p : Port) (w : Want) :
    (s.setWant p w).port p = { s.port p with wants := ((s.setWant p w).port p).wants } := by rw [port_setWant]

/-- The pacing counter once `p` has been taken. -/
def pacingAfter (s : State) (r : SweepRecord) (p : Port) : Nat := if p = r.last then 0 else s.profile.sweepSpacing

section Take

variable {s : State} {r : SweepRecord} {p : Port} (record : s.sweep.record = some r) (next : r.next = p.val) (within : p ≤ r.last)

include next within in
theorem pacing_eq : (if r.last.val < r.next + 1 then 0 else s.profile.sweepSpacing) = pacingAfter s r p := by
  have last : r.last.val < r.next + 1 ↔ p = r.last := by
    rw [Fin.ext_iff, next]
    have := Fin.le_def.1 within
    omega
  simp only [pacingAfter, last]

include record next within in
theorem takeSweepPort_eq : s.takeSweepPort =
    if (s.port p).state.forwarding then
      (s.setWant p (.sweep r.number)).putSweep
        { r with next := p.val + 1, pacing := pacingAfter s r p, admitted := r.admitted + 1 }
    else s.putSweep { r with next := p.val + 1, pacing := pacingAfter s r p, skipped := r.skipped + 1 } := by
  have inRange : r.next ≤ r.last.val := next ▸ within
  have named : (⟨r.next, Nat.lt_of_le_of_lt inRange r.last.isLt⟩ : Port) = p := Fin.ext next
  rw [State.takeSweepPort, record]
  dsimp only
  rw [dif_pos inRange, named, pacing_eq next within, next]

include record next within in
theorem takeSweepPort_forwarding (forwarding : (s.port p).state.forwarding = true) : s.takeSweepPort =
    (s.setWant p (.sweep r.number)).putSweep
      { r with next := p.val + 1, pacing := pacingAfter s r p, admitted := r.admitted + 1 } :=
  (takeSweepPort_eq record next within).trans (if_pos forwarding)

include record next within in
theorem takeSweepPort_skip (shut : ¬(s.port p).state.forwarding = true) :
    s.takeSweepPort = s.putSweep { r with next := p.val + 1, pacing := pacingAfter s r p, skipped := r.skipped + 1 } :=
  (takeSweepPort_eq record next within).trans (if_neg shut)

end Take

theorem exec_sweepTakePort_due {s : State} {r : SweepRecord} (due : Event.sweepTake ∈ s.due) (record : s.sweep.record = some r)
    (pacing : r.pacing = 0) : exec .sweepTakePort s = .next (s.setDue (s.due.erase .sweepTake)).takeSweepPort := by
  have taken : (s.setDue (s.due.erase .sweepTake)).takeSweepTake = (s.setDue (s.due.erase .sweepTake)).takeSweepPort := by
    unfold State.takeSweepTake
    rw [show (s.setDue (s.due.erase .sweepTake)).sweep.record = some r from record]
    exact if_pos pacing
  rw [exec_sweepTakePort, takeDue_of_mem due]
  exact congrArg _ taken

/-! ### The counting of conclusions (R124) -/

theorem deliverSweep_of_none {s : State} (n : Byte) (outcome : ProbeOutcome) (record : s.sweep.record = none) :
    s.deliverSweep n outcome = s := by
  rw [State.deliverSweep, record]

theorem deliverSweep_of_some {s : State} {r : SweepRecord} (n : Byte) (outcome : ProbeOutcome)
    (record : s.sweep.record = some r) :
    s.deliverSweep n outcome = if r.number = n then s.putSweep (r.count outcome) else s := by
  rw [State.deliverSweep, record]

theorem count_complete_iff (r : SweepRecord) (outcome : ProbeOutcome) : (r.count outcome).complete = true ↔
    r.last.val < r.next ∧ r.clear + r.contained + r.looped + r.skipped + 1 = r.last.val + 1 - r.first.val := by
  rw [complete_iff]
  cases outcome <;> simp only [SweepRecord.count] <;> omega

/-- Settles O38: the timer, the taking and the counting, each by the rule of the record that it sets. -/
theorem sweepsStartAndTakePorts : Obligations.SweepsStartAndTakePorts := by
  refine ⟨fun s due => ⟨fun record => ?_, fun r record => ?_⟩,
    fun s r p due record pacing next within => ?_, fun s r outcome record => ?_, fun s n outcome record =>
      deliverSweep_of_none n outcome record⟩
  · rw [exec_autoSweepTimerExpiry, takeDue_of_mem due]
    exact congrArg _ (takeAutoSweep_of_none (s := s.setDue _) record)
  · rw [exec_autoSweepTimerExpiry, takeDue_of_mem due]
    exact congrArg _ (takeAutoSweep_of_some (s := s.setDue _) record)
  · have run := exec_sweepTakePort_due due record pacing
    let u := s.setDue (s.due.erase .sweepTake)
    have erased : OnlyIn [.due] s u := onlyIn_setDue s _
    have isLast : r.last.val < p.val + 1 ↔ p = r.last := by
      rw [Fin.ext_iff]
      have := Fin.le_def.1 within
      omega
    have shut : (s.port p).state ≠ .opened → (s.port p).state ≠ .limited → ¬(u.port p).state.forwarding = true :=
      fun opened limited forwarding => ((forwarding_iff _).1 forwarding).elim opened limited
    refine ⟨fun state less => ?_, fun opened limited more => ?_, fun opened limited last counted => ?_⟩
    · have taken := takeSweepPort_forwarding (s := u) record next within ((forwarding_iff _).2 state)
      rw [putSweep_of_incomplete (by rw [complete_iff]; dsimp only; omega)] at taken
      have want := onlyIn_wantSweep u p r.number
      have scheduler : (u.setWant p (.sweep r.number)).sweep = s.sweep := want .sweep (by decide)
      refine ⟨_, run.trans (congrArg _ taken), ?_, ?_, ?_, ?_, fun q other => ?_, ?_⟩
      · rw [State.setSweep_sweep, scheduler]
        rfl
      · exact (setWant_joined u p (.sweep r.number)).congr_states ⟨rfl, rfl⟩ ⟨rfl, rfl⟩
      · exact port_setWant_wants u p (.sweep r.number)
      · exact want .due (by decide)
      · show (u.setWant p _).port q = u.port q
        rw [port_setWant, if_neg fun h => other h.1.symm]
      · exact (erased.mono (by decide)).trans ((want.mono (by decide)).trans ((onlyIn_setSweep _ _).mono (by decide)))
    · have notDone : ¬(r.last.val < p.val + 1 ∧
          r.clear + r.contained + r.looped + (r.skipped + 1) = r.last.val + 1 - r.first.val) := by
        rw [isLast, ← Nat.add_assoc, not_and_or]
        exact more
      have taken := takeSweepPort_skip (s := u) record next within (shut opened limited)
      rw [putSweep_of_incomplete (by rw [complete_iff]; exact notDone)] at taken
      exact run.trans (congrArg _ taken)
    · have taken := takeSweepPort_skip (s := u) record next within (shut opened limited)
      have zero : pacingAfter u r p = 0 := if_pos last
      rw [zero] at taken
      have ended := putSweep_of_complete (s := u)
        (r := { r with next := p.val + 1, pacing := 0, skipped := r.skipped + 1 })
        ((complete_iff _).2 ⟨isLast.2 last, by dsimp only; omega⟩)
      exact ⟨_, run.trans (congrArg _ taken), ended.sweep, ended.mgmt, ended.port, ended.probes, ended.only .due (by decide),
        (erased.mono (by decide)).trans (ended.only.mono (by decide))⟩
  · have own : s.deliverSweep r.number outcome = s.putSweep (r.count outcome) :=
      (deliverSweep_of_some r.number outcome record).trans (if_pos rfl)
    refine ⟨fun n other => (deliverSweep_of_some n outcome record).trans (if_neg (Ne.symm other)), fun more => ?_,
      fun last counted => ?_, fun o e done ended purposes => ?_⟩
    · rw [own, putSweep_of_incomplete (by rw [count_complete_iff]; omega)]
      cases outcome <;> rfl
    · have ended := putSweep_of_complete (s := s) ((count_complete_iff r outcome).2 ⟨last, counted⟩)
      rw [own]
      refine ⟨ended.sweep, ?_, ended.port, ended.probes, ended.only⟩
      rw [ended.mgmt]
      cases outcome <;> rfl
    · rw [exec_probeExpiry_ended ended done, purposes, conclude_sweep]
      rfl

end Sys2Proof.Machine
end

section
/-! CHECK (R79, R80): the first line of its table that applies, and HOST joined to the QUEUED entry or to the want set. -/

namespace Sys2Proof.Machine

/-! ### The lines of the table (R79) -/

section Lines

variable {s : State} {p : Port} (tag : Byte)

theorem reqCheck_of_ge {port : Byte} (bad : 40 ≤ port.toNat) : s.reqCheck tag port = s.refuse stBadPort := by
  rw [State.reqCheck, portOf_of_ge bad]

theorem reqCheck_of_downOrUnguarded (state : (s.port p).state = .unguarded ∨ (s.port p).state = .down) :
    s.reqCheck tag (portByte p) = s.refuse stWrongState := by
  have inactive : (s.port p).state.downOrUnguarded = true := by obtain state | state := state <;> rw [state] <;> rfl
  rw [State.reqCheck, portOf_portByte]
  exact if_pos inactive

variable (guarded : (s.port p).state ≠ .unguarded) (up : (s.port p).state ≠ .down)

include guarded up in
theorem not_downOrUnguarded : ¬(s.port p).state.downOrUnguarded = true := by
  revert guarded up
  cases (s.port p).state <;> simp [PortState.downOrUnguarded]

include guarded up

theorem reqCheck_held {e : ProbeEntry} (held : s.entryOf p = some e) : s.reqCheck tag (portByte p) =
    if e.expiry.isSome then s.refuse stInFlight
    else (s.setWant p (.host tag), [stOk, portByte p, 1] ++ halfBytes e.tag) := by
  rw [State.reqCheck, portOf_portByte]
  dsimp only
  rw [if_neg (not_downOrUnguarded guarded up), held]

theorem reqCheck_sent {e : ProbeEntry} (held : s.entryOf p = some e) (sent : e.expiry.isSome = true) :
    s.reqCheck tag (portByte p) = s.refuse stInFlight := (reqCheck_held tag guarded up held).trans (if_pos sent)

theorem reqCheck_queued {e : ProbeEntry} (held : s.entryOf p = some e) (queued : e.expiry = none) :
    s.reqCheck tag (portByte p) = (s.setWant p (.host tag), [stOk, portByte p, 1] ++ halfBytes e.tag) :=
  (reqCheck_held tag guarded up held).trans (if_neg (by rw [queued]; exact Bool.false_ne_true))

theorem reqCheck_absent (absent : s.entryOf p = none) : s.reqCheck tag (portByte p) =
    if s.probes.list.length < 24 then (s.setWant p (.host tag), [stOk, portByte p, 0, 0, 0]) else s.refuse stFull := by
  rw [State.reqCheck, portOf_portByte]
  dsimp only
  rw [if_neg (not_downOrUnguarded guarded up), absent]

theorem reqCheck_wanted (absent : s.entryOf p = none) (room : s.probes.list.length < 24) :
    s.reqCheck tag (portByte p) = (s.setWant p (.host tag), [stOk, portByte p, 0, 0, 0]) :=
  (reqCheck_absent tag guarded up absent).trans (if_pos room)

theorem reqCheck_full (absent : s.entryOf p = none) (full : 24 ≤ s.probes.list.length) :
    s.reqCheck tag (portByte p) = s.refuse stFull :=
  (reqCheck_absent tag guarded up absent).trans (if_neg (not_lt.2 full))

end Lines

/-! ### HOST joined (R62, R80) -/

theorem supersede_of_none (s : State) (p : Port) (w : Want) {u : Purposes} (first : u.host = none) : s.supersede p w u = s := by
  unfold State.supersede
  rw [first]
  cases w <;> rfl

theorem supersede_host_of_some (s : State) (p : Port) (tag : Byte) {u : Purposes} {old : Byte} (earlier : u.host = some old) :
    s.supersede p (.host tag) u = s.raise (.checkDone p old .void none s.second) := by
  unfold State.supersede
  rw [earlier]
  rfl

section Joins

variable {s : State} {p : Port} {e : ProbeEntry}

/-- The entry of a port, when it is QUEUED, is the QUEUED entry of the port. -/
theorem queuedEntry_of_entryOf (held : s.entryOf p = some e) (queued : e.expiry = none) : s.queuedEntry p = some e := by
  obtain ⟨origin, before, after, list, first⟩ := List.find?_eq_some_iff_append.1 held
  refine List.find?_eq_some_iff_append.2 ⟨by simp [origin, queued], before, after, list, fun y hy => ?_⟩
  simp [show (y.origin == p) = false by simpa using first y hy]

theorem queuedEntry_of_absent (absent : s.entryOf p = none) : s.queuedEntry p = none := by
  rw [State.entryOf, List.find?_eq_none] at absent
  exact List.find?_eq_none.2 fun y hy test => absent y hy (Bool.and_elim_left test)

theorem setWant_of_queued (w : Want) (queued : s.queuedEntry p = some e) : s.setWant p w =
    (s.supersede p w e.purposes).setProbes { s.probes with list := joinEntry p w s.probes.list } := by
  rw [State.setWant, queued]
  dsimp only
  rw [supersede_probes]

theorem setWant_of_unqueued (w : Want) (none : s.queuedEntry p = none) :
    s.setWant p w = (s.supersede p w (s.port p).wants).joinWants p w := by
  rw [State.setWant, none]

/-- The entry of a port after a want has joined the QUEUED entry. -/
theorem find?_joinEntry (w : Want) (list : List ProbeEntry) (held : list.find? (fun y => y.origin == p) = some e)
    (queued : e.expiry = none) :
    (joinEntry p w list).find? (fun y => y.origin == p) = some { e with purposes := e.purposes.add w } := by
  have origin : e.origin = p := by simpa using List.find?_some held
  have same : ((fun y : ProbeEntry => y.origin == p) ∘ fun y =>
      if y.origin = p ∧ y.expiry = none then { y with purposes := y.purposes.add w } else y) = fun y => y.origin == p :=
    funext fun y => by dsimp only [Function.comp]; split <;> rfl
  rw [joinEntry, List.find?_map, same, held, Option.map_some, if_pos ⟨origin, queued⟩]

end Joins

/-- Settles O56: each line of the table by its equation, and the joined HOST by the rules of `setWant`. -/
theorem checkJoinsEntryOrWants : Obligations.CheckJoinsEntryOrWants := by
  intro s tag p takes
  let u := s.setMgmt s.mgmt.heard
  have run : ∀ (port : Byte) (a : Answer), u.reqCheck tag port = a →
      exec (.check tag port) s = .next (a.fill 0x8E tag false) := fun port a answer =>
    congrArg Host.Outcome.next ((closed_request_of_takes takes 0x0E tag false _).trans
      (congrArg (Answer.fill _ tag false) answer))
  refine ⟨fun port bad => run port _ (reqCheck_of_ge tag bad),
    fun state => run _ _ (reqCheck_of_downOrUnguarded (s := u) tag state),
    fun guarded up => ⟨fun e held sent => run _ _ (reqCheck_sent (s := u) tag guarded up held sent),
      fun e held queued => ?_, fun absent room => ?_,
      fun absent full => run _ _ (reqCheck_full (s := u) tag guarded up absent full)⟩⟩
  · have join := setWant_of_queued (s := u) (.host tag) (queuedEntry_of_entryOf (s := u) held queued)
    have frame : OnlyIn [.probes, .mgmt] u (u.setWant p (.host tag)) := join ▸
      ((onlyIn_supersede u p _ _).mono (by decide)).trans ((onlyIn_setProbes _ _).mono (by decide))
    refine ⟨_, run _ _ (reqCheck_queued (s := u) tag guarded up held queued), ?_,
      (setWant_joined u p (.host tag)).congr_states ⟨rfl, rfl⟩ ⟨rfl, rfl⟩, fun first => ?_, fun old earlier => ?_,
      onlyIn_answered _ tag false frame (by decide)⟩
    · show (u.setWant p (.host tag)).entryOf p = _
      rw [join]
      exact find?_joinEntry (.host tag) s.probes.list held queued
    · rw [fill_mgmt, join, supersede_of_none u p _ first]
      rfl
    · rw [fill_mgmt, join, supersede_host_of_some u p tag earlier]
      rfl
  · have unqueued := queuedEntry_of_absent (s := u) absent
    have join := setWant_of_unqueued (s := u) (.host tag) unqueued
    have frame : OnlyIn [.ports, .mgmt] u (u.setWant p (.host tag)) := join ▸
      ((onlyIn_supersede u p _ _).mono (by decide)).trans ((onlyIn_joinWants _ p _).mono (by decide))
    refine ⟨_, run _ _ (reqCheck_wanted (s := u) tag guarded up absent room), ?_, fun q other => ?_, fun first => ?_,
      fun old earlier => ?_, onlyIn_answered _ tag false frame (by decide)⟩
    · rw [fill_port, port_setWant, unqueued, if_pos ⟨rfl, rfl⟩]
      rfl
    · rw [fill_port, port_setWant, if_neg fun h => other h.1.symm]
      rfl
    · rw [fill_mgmt, join, supersede_of_none u p _ (u := (u.port p).wants) first]
      rfl
    · rw [fill_mgmt, join, supersede_host_of_some u p tag (u := (u.port p).wants) earlier]
      rfl

end Sys2Proof.Machine
end

section
/-! What the invariants of the port table and of the trip list read of a state, and the two ways in which an operation keeps
them: it leaves all of that as it stands, or it moves one port (R86, R89, R99, R100, R111, R112). -/

namespace Sys2Proof.Machine

/-! ### What the invariants read -/

/-- A port record but for its link, its purposes and its linkup result, of which the invariants do not speak. -/
def PortRecord.standing (r : PortRecord) : PortRecord :=
  { r with linkUp := false, wants := Purposes.empty, linkup := .unset }

/-- What `PortsLegal` and `TripListExact` read of a state. -/
structure PortView where
  records : Port → PortRecord
  trips   : List TripItem
  limit   : Nat

/-- What a state shows of its port table and its trip list. -/
def State.portView (s : State) : PortView := ⟨fun q => (s.port q).standing, s.trips, s.profile.strikeLimit⟩

/-- A change from `s` to `t` keeps the port table legal and the trip list exact. -/
structure PortsKept (s t : State) : Prop where
  legal : PortsLegal s → PortsLegal t
  exact : TripListExact s → TripListExact t

theorem PortsKept.refl (s : State) : PortsKept s s := ⟨id, id⟩

theorem PortsKept.trans {s t u : State} (h : PortsKept s t) (k : PortsKept t u) : PortsKept s u :=
  ⟨k.legal ∘ h.legal, k.exact ∘ h.exact⟩

theorem PortsKept.foldl {α : Type} {f : State → α → State} (h : ∀ s a, PortsKept s (f s a)) :
    ∀ (l : List α) (s : State), PortsKept s (l.foldl f s)
  | [], s => .refl s
  | a :: l, s => (h s a).trans (PortsKept.foldl h l (f s a))

theorem PortsKept.ite {s t u : State} {c : Prop} [Decidable c] (h : PortsKept s t) (k : PortsKept s u) :
    PortsKept s (if c then t else u) := by
  split
  · exact h
  · exact k

/-! ### A view that stands -/

theorem view_of_records {s t : State} (records : ∀ q, (t.port q).standing = (s.port q).standing) (trips : t.trips = s.trips)
    (profile : t.profile = s.profile) : t.portView = s.portView := by
  rw [State.portView, State.portView, funext records, trips, profile]

theorem standing_of_view {s t : State} (h : t.portView = s.portView) (q : Port) :
    (t.port q).standing = (s.port q).standing := congrFun (congrArg PortView.records h) q

theorem PortRecord.state_of_standing {a b : PortRecord} (same : b.standing = a.standing) : b.state = a.state :=
  show b.standing.state = a.standing.state by rw [same]

theorem state_of_view {s t : State} (h : t.portView = s.portView) (q : Port) : (t.port q).state = (s.port q).state :=
  PortRecord.state_of_standing (standing_of_view h q)

/-- Whether a record is legal, its link, its purposes and its linkup result do not tell. -/
theorem PortRecord.Legal.congr {a b : PortRecord} {limit : Nat} (same : b.standing = a.standing) (h : a.Legal limit) :
    b.Legal limit := by
  have stands : a.standing.Legal limit := h
  rw [← same] at stands
  exact stands

theorem PortsKept.of_view {s t : State} (h : t.portView = s.portView) : PortsKept s t := by
  have limit : t.profile.strikeLimit = s.profile.strikeLimit := congrArg PortView.limit h
  have trips : t.trips = s.trips := congrArg PortView.trips h
  refine ⟨fun legal q => ?_, fun ⟨distinct, listed⟩ => ?_⟩
  · rw [limit]
    exact (legal q).congr (standing_of_view h q)
  · rw [TripListExact, trips]
    exact ⟨distinct, fun q => (state_of_view h q).symm ▸ listed q⟩

/-- A change within a frame that spares the trip list and the profile keeps the view when it keeps what stands of the records. -/
theorem OnlyIn.view_of_records {parts : List Part} {s t : State} (frame : OnlyIn parts s t)
    (out : ∀ x ∈ [Part.trips, .profile], x ∉ parts) (records : ∀ q, (t.port q).standing = (s.port q).standing) :
    t.portView = s.portView :=
  Machine.view_of_records records (frame .trips (out _ (by simp))) (frame .profile (out _ (by simp)))

/-- A change within a frame that spares the port table, the trip list and the profile keeps the view. -/
theorem OnlyIn.view {parts : List Part} {s t : State} (frame : OnlyIn parts s t)
    (out : ∀ x ∈ [Part.ports, .trips, .profile], x ∉ parts) : t.portView = s.portView :=
  frame.view_of_records (fun x hx => out x (List.mem_cons_of_mem _ hx)) fun q =>
    congrArg _ (State.port_congr (frame .ports (out _ (by simp))) q)

theorem OnlyIn.portsKept {parts : List Part} {s t : State} (frame : OnlyIn parts s t)
    (out : ∀ x ∈ [Part.ports, .trips, .profile], x ∉ parts) : PortsKept s t := .of_view (frame.view out)

theorem view_foldl {α : Type} {f : State → α → State} (h : ∀ s a, (f s a).portView = s.portView) :
    ∀ (l : List α) (s : State), (l.foldl f s).portView = s.portView
  | [], _ => rfl
  | a :: l, s => (view_foldl h l (f s a)).trans (h s a)

/-! ### One port that moves -/

/-- What becomes of the trip list when port `p` alone moves from `s` to `t`: it stands, or `p` leaves it, or `p` heads it. -/
inductive TripMove (p : Port) (s t : State) : Prop
  | stays (same : (t.port p).state.shutForTrip = (s.port p).state.shutForTrip) (trips : t.trips = s.trips)
  | leaves (free : (t.port p).state.shutForTrip = false) (trips : t.trips = removeTrip p s.trips)
  | heads (i : TripItem) (item : i.port = p) (shut : (t.port p).state.shutForTrip = true)
      (trips : t.trips = i :: removeTrip p s.trips)

theorem ports_removeTrip (p : Port) (l : List TripItem) :
    (removeTrip p l).map (·.port) = (l.map (·.port)).filter (· != p) := by
  rw [removeTrip, List.filter_map]
  rfl

theorem TripMove.exact {p : Port} {s t : State} (move : TripMove p s t)
    (others : ∀ q, q ≠ p → (t.port q).state = (s.port q).state) (h : TripListExact s) : TripListExact t := by
  obtain ⟨distinct, listed⟩ := h
  have removed : ∀ q, q ∈ (removeTrip p s.trips).map (·.port) ↔ (s.port q).state.shutForTrip = true ∧ q ≠ p := fun q => by
    rw [ports_removeTrip, List.mem_filter, listed, bne_iff_ne]
  have still : ((removeTrip p s.trips).map (·.port)).Nodup := ports_removeTrip p _ ▸ distinct.filter _
  cases move with
  | stays same trips =>
    rw [TripListExact, trips]
    refine ⟨distinct, fun q => (listed q).trans ?_⟩
    by_cases at_p : q = p
    · rw [at_p, same]
    · rw [others q at_p]
  | leaves free trips =>
    rw [TripListExact, trips]
    refine ⟨still, fun q => (removed q).trans ?_⟩
    by_cases at_p : q = p
    · simp [at_p, free]
    · simp [at_p, others q at_p]
  | heads i item shut trips =>
    rw [TripListExact, trips, List.map_cons, item]
    refine ⟨List.nodup_cons.2 ⟨fun listed => ((removed p).1 listed).2 rfl, still⟩, fun q => ?_⟩
    rw [List.mem_cons, removed]
    by_cases at_p : q = p
    · simp [at_p, shut]
    · simp [at_p, others q at_p]

theorem PortsKept.of_move {p : Port} {s t : State} (others : ∀ q, q ≠ p → (t.port q).standing = (s.port q).standing)
    (limit : t.profile.strikeLimit = s.profile.strikeLimit)
    (legal : PortsLegal s → (t.port p).Legal s.profile.strikeLimit) (trips : TripMove p s t) : PortsKept s t := by
  refine ⟨fun h q => ?_, trips.exact fun q other => PortRecord.state_of_standing (others q other)⟩
  rw [limit]
  by_cases at_p : q = p
  · rw [at_p]
    exact legal h
  · exact (h q).congr (others q at_p)

theorem OtherPortsKept.standing {p : Port} {s t : State} (h : OtherPortsKept p s t) :
    ∀ q, q ≠ p → (t.port q).standing = (s.port q).standing := fun q other => by rw [h q other]

/-- A record of one port put back that takes the trip list nowhere. -/
theorem portsKept_setPort {s : State} {p : Port} {r : PortRecord}
    (legal : PortsLegal s → r.Legal s.profile.strikeLimit) (same : r.state.shutForTrip = (s.port p).state.shutForTrip) :
    PortsKept s (s.setPort p r) :=
  .of_move (p := p) (fun q other => by rw [State.port_setPort_of_ne _ _ _ _ other.symm]) rfl
    (by rwa [State.port_setPort_self]) (.stays (by rwa [State.port_setPort_self]) rfl)

/-! ### The records that are legal -/

/-- A port of the role may stand in the state (R89). -/
def Role.Allows (role : Role) (x : PortState) : Prop :=
  (x = .unguarded ↔ role = .off) ∧ (role = .trunk → x ≠ .blocked ∧ x ≠ .testing)

/-- Every guarded port may stand in a state that is neither UNGUARDED nor kept from trunks. -/
theorem Role.Allows.of_guarded {role : Role} {x : PortState} (guarded : role ≠ .off)
    (common : x ≠ .unguarded ∧ x ≠ .blocked ∧ x ≠ .testing) : role.Allows x :=
  ⟨iff_of_false common.1 guarded, fun _ => common.2⟩

theorem Role.Allows.of_desk {role : Role} {x : PortState} (desk : role = .desk) (guarded : x ≠ .unguarded) :
    role.Allows x := by
  subst desk
  exact ⟨iff_of_false guarded Role.noConfusion, Role.noConfusion⟩

theorem allows_stateForRole (role : Role) (link : Bool) : role.Allows (stateForRole role link) := by
  cases role <;> cases link <;> simp [Role.Allows, stateForRole]

/-- A record that enters a state its role allows is legal, whatever becomes of its link and its purposes. -/
theorem PortRecord.legal_entered {limit : Nat} {r : PortRecord} (allowed : r.role.Allows r.state)
    (strikes : r.strikes ≤ limit ∧ (r.role = .off → r.strikes = 0))
    (counters : r.holdOff = 0 ∧ r.calm = 0 ∧ r.decay = 0) : r.Legal limit := by
  obtain ⟨holdOff, calm, decay⟩ := counters
  exact ⟨allowed.1, allowed.2, strikes.1, strikes.2, fun _ => holdOff, holdOff ▸ Nat.zero_le _, fun _ => calm,
    fun _ => decay⟩

section Legal

variable {limit : Nat} {r : PortRecord} (h : r.Legal limit)

include h

theorem PortRecord.Legal.allows : r.role.Allows r.state := by
  obtain ⟨unguarded, trunk, -⟩ := h
  exact ⟨unguarded, trunk⟩

theorem PortRecord.Legal.strikes : r.strikes ≤ limit ∧ (r.role = .off → r.strikes = 0) := by
  obtain ⟨-, -, most, off, -⟩ := h
  exact ⟨most, off⟩

theorem PortRecord.Legal.guarded (state : r.state ≠ .unguarded) : r.role ≠ .off := fun off =>
  state (h.allows.1.2 off)

/-- A port that stands in BLOCKED or TESTING is a desk. -/
theorem PortRecord.Legal.desk (state : r.state = .blocked ∨ r.state = .testing) : r.role = .desk := by
  have guarded : r.role ≠ .off := h.guarded (by obtain state | state := state <;> simp [state])
  cases role : r.role with
  | off => exact absurd role guarded
  | desk => rfl
  | trunk => exact absurd state (not_or.2 (h.allows.2 role))

theorem PortRecord.Legal.mono {more : Nat} (le : limit ≤ more) : r.Legal more := by
  obtain ⟨unguarded, trunk, most, rest⟩ := h
  exact ⟨unguarded, trunk, most.trans le, rest⟩

end Legal

end Sys2Proof.Machine
end

section
/-! The operations of ports, probes, sweeps and stations keep the port table legal and the trip list exact (R89 to R112). -/

namespace Sys2Proof.Machine

/-! ### Operations that leave the view as it stands -/

theorem view_setPort {s : State} {p : Port} {r : PortRecord} (same : r.standing = (s.port p).standing) :
    (s.setPort p r).portView = s.portView :=
  (onlyIn_setPort s p r).view_of_records (by decide) fun q => by
    rw [State.port_setPort]
    split
    · subst_vars; exact same
    · rfl

theorem view_setWant (s : State) (p : Port) (w : Want) : (s.setWant p w).portView = s.portView :=
  (onlyIn_setWant s p w).view_of_records (by decide) fun q => by rw [port_setWant]; rfl

theorem view_putSweep (s : State) (r : SweepRecord) : (s.putSweep r).portView = s.portView :=
  (onlyIn_putSweep s r).view_of_records (by decide) fun q => by
    obtain ⟨ports, -⟩ | ⟨-, ports, -⟩ := putSweep_cases s r
    · rw [State.port_congr ports]
    · rw [State.port_congr ports, port_dropSweeps]; rfl

theorem view_concludeSweep (s : State) (u : Purposes) (o : ProbeOutcome) : (s.concludeSweep u o).portView = s.portView := by
  unfold State.concludeSweep State.deliverSweep
  split
  · split
    · split
      · exact view_putSweep s _
      · rfl
    · rfl
  · rfl

theorem view_endSweep (s : State) (r : SweepRecord) (e : SweepEnd) : (s.endSweep r e).portView = s.portView :=
  (onlyIn_endSweep s r e).view_of_records (by decide) fun q => by
    have ports : (s.endSweep r e).ports = s.dropSweeps.ports := rfl
    rw [State.port_congr ports, port_dropSweeps]; rfl

theorem view_takeSweepPort (s : State) : s.takeSweepPort.portView = s.portView := by
  unfold State.takeSweepPort
  split
  · rfl
  · split
    · dsimp only
      split
      · rw [view_putSweep, view_setWant]
      · exact view_putSweep s _
    · rfl

theorem view_conclude_void (s : State) (p : Port) (u : Purposes) : (s.conclude p u .void none).portView = s.portView :=
  (onlyIn_conclude_void s p u none).view_of_records (by decide) fun q => by
    rw [conclude_void, port_voided]; rfl

theorem view_voidWants (s : State) (p : Port) : (s.voidWants p).portView = s.portView :=
  (view_conclude_void _ p _).trans (view_setPort rfl)

theorem view_removeQueued (s : State) (p : Port) : (s.removeQueued p).portView = s.portView := by
  unfold State.removeQueued
  split
  · exact view_conclude_void _ p _
  · rfl

theorem view_admitWants (s : State) : s.admitWants.portView = s.portView := by
  refine view_foldl (fun t p => ?_) _ s
  unfold State.admitPort
  split
  · exact view_setPort (s := t.setProbes _) rfl
  · rfl

theorem view_learn (s : State) (p : Port) (a : Address) : (s.learn p a).portView = s.portView := by
  have want : ∀ (t : State) q, (t.flapWant q).portView = t.portView := fun t q => by
    unfold State.flapWant
    split
    · exact view_setWant t q _
    · rfl
  have flapped : ∀ (t : State) b q r, (t.flap b q r).portView = t.portView := fun t b q r =>
    (want _ r).trans (want _ q)
  unfold State.learn State.moveStation
  dsimp only
  split
  · split
    · rfl
    · split
      · rfl
      · split
        · exact flapped _ _ _ _
        · rfl
  · rfl

theorem view_roomChanged (s : State) (old : Half) : (s.roomChanged old).portView = s.portView := by
  have renewed : ∀ (t : State) p, (t.renewWant p).portView = t.portView := fun t p => by
    unfold State.renewWant
    split
    · exact view_setWant t p _
    · exact view_setWant t p _
    · rfl
  rw [State.roomChanged, view_foldl renewed, view_foldl fun t (e : ProbeEntry) => view_conclude_void t e.origin e.purposes]
  rfl

/-! ### States entered and trips (R98 to R103, R112) -/

theorem portsKept_enter {s : State} {p : Port} {new : PortState} (allowed : PortsLegal s → (s.port p).role.Allows new)
    (shut : new.shutForTrip = true → (s.port p).state.shutForTrip = true) : PortsKept s (s.enter p new) := by
  have state : ((s.enter p new).port p).state = new := by rw [port_enter_self]
  refine .of_move (p := p) (fun q other => by rw [port_enter_of_ne s new other])
    (congrArg Profile.strikeLimit (onlyIn_enter s p new .profile (by decide))) (fun legal => ?_) ?_
  · rw [port_enter_self]
    exact PortRecord.legal_entered (allowed legal) (legal p).strikes ⟨rfl, rfl, rfl⟩
  · have trips := enter_trips s p new
    split at trips
    · rename_i listed
      exact .stays (by rw [state, listed, shut listed]) trips
    · rename_i free
      exact .leaves (by rw [state]; exact Bool.not_eq_true _ ▸ free) trips

/-- A guarded port may enter any state outside the trip list but UNGUARDED. -/
theorem portsKept_enter_free {s : State} {p : Port} {new : PortState} (guarded : (s.port p).state ≠ .unguarded)
    (common : new ≠ .unguarded) (free : new.shutForTrip = false) : PortsKept s (s.enter p new) := by
  refine portsKept_enter (fun legal => .of_guarded ((legal p).guarded guarded) ⟨common, ?_, ?_⟩) fun shut => ?_
  · rintro rfl; cases free
  · rintro rfl; cases free
  · rw [free] at shut; cases shut

theorem portsKept_trip {s : State} {p : Port} {new : PortState} (c : Cause) (q : Option Port) (r : Option Half)
    (allowed : PortsLegal s → (s.port p).role.Allows new) : PortsKept s (s.trip p c new q r) := by
  have port := State.port_congr (trip_ports s p c new q r)
  have state : ((s.trip p c new q r).port p).state = new := by rw [port, port_enter_self]
  refine .of_move (p := p) (fun x other => by rw [port, port_enter_of_ne s new other])
    (congrArg Profile.strikeLimit (onlyIn_trip s p c new q r .profile (by decide))) (fun legal => ?_) ?_
  · rw [port, port_enter_self]
    exact PortRecord.legal_entered (allowed legal) (legal p).strikes ⟨rfl, rfl, rfl⟩
  · have trips := trip_trips s p c new q r
    split at trips
    · exact .heads _ rfl (by rwa [state]) trips
    · rename_i free
      exact .leaves (by rw [state]; exact Bool.not_eq_true _ ▸ free) trips

theorem holdOffFor_le (base strikes : Nat) : holdOffFor base strikes ≤ 600 := Nat.min_le_right _ _

/-- A desk may be blocked: the strike stays within the limit, and a hold-off goes with BLOCKED alone (R99, R100). -/
theorem legal_blocked {s : State} {p : Port} {limit : Nat} (limits : s.profile.strikeLimit = limit)
    (desk : (s.port p).role = .desk) (wants : Purposes) : ({ s.port p with
      state := s.shutState p, strikes := s.nextStrikes p, calm := 0, decay := 0,
      holdOff := if s.nextStrikes p = s.profile.strikeLimit then 0
        else holdOffFor s.profile.holdOffBase (s.nextStrikes p),
      wants := wants } : PortRecord).Legal limit := by
  have shut : s.shutState p ≠ .unguarded := fun h => by
    have listed := shutState_shut s p
    rw [h] at listed; cases listed
  obtain ⟨unguarded, trunk⟩ := Role.Allows.of_desk desk shut
  refine ⟨unguarded, trunk, limits ▸ Nat.min_le_right _ _, fun off => ?_, fun held => ?_, ?_, fun _ => rfl, fun _ => rfl⟩
  · exact absurd (desk.symm.trans off) Role.noConfusion
  · dsimp only at held ⊢
    unfold State.shutState at held
    split at held
    · exact if_pos ‹_›
    · exact absurd rfl held
  · dsimp only
    split
    · exact Nat.zero_le _
    · exact holdOffFor_le _ _

theorem portsKept_blockingTrip {s : State} {p : Port} (c : Cause) (q : Option Port) (r : Option Half)
    (desk : PortsLegal s → (s.port p).role = .desk) : PortsKept s (s.blockingTrip p c q r) := by
  refine .of_move (p := p) (port_blockingTrip_of_ne s p c q r).standing
    (congrArg Profile.strikeLimit (onlyIn_blockingTrip s p c q r .profile (by decide))) (fun legal => ?_)
    (.heads _ rfl ?_ (blockingTrip_trips s p c q r))
  · rw [port_blockingTrip_self]
    exact legal_blocked rfl (desk legal) _
  · rw [port_blockingTrip_self]
    exact shutState_shut s p

theorem portsKept_limitingTrip {s : State} {p : Port} (c : Cause) (q : Option Port) (guarded : (s.port p).state ≠ .unguarded) :
    PortsKept s (s.limitingTrip p c q) := by
  have tripped : PortsKept s (s.trip p c .limited q none) :=
    portsKept_trip c q none fun legal => .of_guarded ((legal p).guarded guarded) (by decide)
  unfold State.limitingTrip
  dsimp only
  split
  · exact tripped.trans (.of_view (view_setWant _ p _))
  · exact tripped

theorem portsKept_primingExit (s : State) (p : Port) : PortsKept s (s.primingExit p) := by
  unfold State.primingExit
  split
  · rename_i ready
    have guarded : (s.port p).state ≠ .unguarded := by simp [ready.1]
    split
    · exact .refl s
    · exact portsKept_enter_free guarded (by decide) rfl
    · exact portsKept_enter_free guarded (by decide) rfl
    · exact portsKept_limitingTrip _ _ guarded
  · exact .refl s

theorem portsKept_reopen {s : State} {p : Port} (guarded : (s.port p).state ≠ .unguarded) : PortsKept s (s.reopen p) :=
  (portsKept_enter_free guarded (by decide) rfl).trans (.of_view rfl)

end Sys2Proof.Machine
end

section
/-! Step reports, proofs, links, roles, releases and the events of an expiry keep the port table legal and the trip list exact
(R75, R90 to R96, R100 to R104, R107 to R112). -/

namespace Sys2Proof.Machine

/-! ### Step reports (R93 to R96) -/

/-- A class is named SEVERE of a desk alone (R94, R96). -/
theorem desk_of_severeClass {r : StepReport} {role : Role} {k : TrafficClass} (named : r.severeClass role = some k) :
    role = .desk := by
  unfold StepReport.severeClass at named
  split at named
  · assumption
  · cases named

theorem portsKept_countCalm {s : State} {p : Port} (limited : (s.port p).state = .limited) (r : StepReport) :
    PortsKept s (s.countCalm p r) := by
  refine portsKept_setPort (fun legal => ?_) rfl
  obtain ⟨unguarded, trunk, most, off, holdOff, bound, -, decay⟩ := legal p
  exact ⟨unguarded, trunk, most, off, holdOff, bound, fun other => absurd limited other, decay⟩

theorem portsKept_judgeReport (s : State) (p : Port) (r : StepReport) : PortsKept s (s.judgeReport p r) := by
  have severe : ∀ {k} c, r.severeClass (s.port p).role = some k → PortsKept s (s.blockingTrip p c none none) :=
    fun c named => portsKept_blockingTrip c none none fun _ => desk_of_severeClass named
  unfold State.judgeReport
  split
  case h_1 opened =>
    split
    · exact severe _ ‹_›
    · split
      · exact .ite (.refl s) (portsKept_limitingTrip _ _ (by simp [opened]))
      · exact .refl s
  case h_2 limited =>
    split
    · exact severe _ ‹_›
    · exact portsKept_countCalm limited r
  case h_3 =>
    split
    · exact severe _ ‹_›
    · exact .refl s
  case h_4 => exact portsKept_primingExit s p
  all_goals exact .refl s

theorem portsKept_takeCalmHold (s : State) (p : Port) : PortsKept s (s.takeCalmHold p) := by
  unfold State.takeCalmHold
  split
  · rename_i reached
    have limited : (s.port p).state = .limited := of_decide_eq_true (Bool.and_elim_left reached)
    exact portsKept_reopen (by simp [limited])
  · exact .refl s

theorem portsKept_handReport (s : State) (p : Port) : PortsKept s (s.handReport p) := by
  unfold State.handReport State.actOnReport
  split
  · exact .ite ((portsKept_judgeReport s p _).trans (portsKept_takeCalmHold _ p)) (portsKept_judgeReport s p _)
  · exact .refl s

theorem portsKept_handUntilCalm : ∀ (l : List Port) (s : State), PortsKept s (s.handUntilCalm l)
  | [], s => .refl s
  | p :: rest, s => by
    rw [State.handUntilCalm]
    split
    · have judged := portsKept_judgeReport s p ‹_›
      exact .ite (judged.trans (.of_view rfl)) (judged.trans (portsKept_handUntilCalm rest _))
    · exact portsKept_handUntilCalm rest s

/-! ### Conclusions and proofs (R70 to R77) -/

theorem view_setLinkup (s : State) (p : Port) (v : LinkupResult) :
    (s.setPort p { s.port p with linkup := v }).portView = s.portView := view_setPort rfl

theorem portsKept_conclude (s : State) (p : Port) (u : Purposes) (o : ProbeOutcome) (a : Option Port) :
    PortsKept s (s.conclude p u o a) := by
  have linkup : PortsKept s (s.concludeLinkup p u o) :=
    .ite ((PortsKept.of_view (view_setLinkup s p _)).trans (portsKept_primingExit _ p)) (.refl s)
  have recover : ∀ t : State, PortsKept t (t.concludeRecover p u o) := fun t => by
    unfold State.concludeRecover
    split
    · rename_i clear
      exact portsKept_reopen (by simp [clear.2.2.2])
    · exact .refl t
  exact (linkup.trans (.of_view (view_concludeSweep _ u o))).trans
    ((recover _).trans ((onlyIn_concludeHost _ p u o a).portsKept (by decide)))

theorem portsKept_limitTrunk (s : State) (p : Port) (q : Option Port) : PortsKept s (s.limitTrunk p q) := by
  unfold State.limitTrunk
  split
  · rename_i opened
    exact portsKept_limitingTrip _ q (by simp [opened.2])
  · exact .refl s

theorem portsKept_trunkLoop (s : State) (o x : Port) : PortsKept s (s.trunkLoop o x) := by
  have raised : PortsKept s (s.raise (.trunkLoop o x s.second)) := .of_view rfl
  have two : ∀ (a b : Port) (q r : Option Port),
      PortsKept s (((s.raise (.trunkLoop o x s.second)).limitTrunk a q).limitTrunk b r) := fun a b q r =>
    raised.trans ((portsKept_limitTrunk _ a q).trans (portsKept_limitTrunk _ b r))
  exact .ite (raised.trans (portsKept_limitTrunk _ o none)) (.ite (two o x _ _) (two x o _ _))

theorem portsKept_resolve (s : State) (o x : Port) (recover : Bool) : PortsKept s (s.resolve o x recover).1 := by
  unfold State.resolve
  dsimp only
  split
  · exact .refl s
  split
  · rename_i retest
    exact portsKept_blockingTrip _ _ _ fun legal => (legal o).desk (.inr retest.2)
  split
  · exact .refl s
  split
  · rename_i desk
    split
    · split
      · exact portsKept_blockingTrip _ _ _ fun _ => desk
      · exact portsKept_blockingTrip _ _ _ fun _ => desk
    · exact .refl s
  split
  · rename_i desk
    exact portsKept_blockingTrip _ _ _ fun _ => desk
  · exact portsKept_trunkLoop s o x

theorem portsKept_setProbes (s : State) (v : ProbeEngine) : PortsKept s (s.setProbes v) := .of_view rfl

theorem portsKept_takeReturn (s : State) (x : Port) (room : Half) (origin : Byte) (tag : Half) :
    PortsKept s (s.takeReturn x room origin tag) := by
  have matched : ∀ e, PortsKept s (s.matchedReturn e x) := fun e =>
    ((portsKept_setProbes s _).trans (portsKept_resolve _ _ _ _)).trans (portsKept_conclude _ _ _ _ _)
  have unmatched : PortsKept s (s.unmatchedReturn x origin tag) := by
    have counted := portsKept_setProbes s (s.probes.countUnmatched tag)
    unfold State.unmatchedReturn
    dsimp only
    split
    · exact .ite (counted.trans (portsKept_resolve _ _ _ _)) counted
    · exact counted
  have foreign : PortsKept s (s.foreignReturn x room) := by
    have counted := portsKept_setProbes s { s.probes with foreign := sat16 s.probes.foreign }
    unfold State.foreignReturn
    dsimp only
    split
    · have blocked := portsKept_blockingTrip (s := s.setProbes { s.probes with foreign := sat16 s.probes.foreign })
        .foreign none (some room) fun _ => ‹_›
      exact (counted.trans (.ite blocked (.refl _))).trans (.of_view rfl)
    · exact counted
  unfold State.takeReturn
  split
  · split
    · exact matched _
    · exact unmatched
  · exact .ite (portsKept_setProbes s _) foreign

/-! ### Links (R90 to R92) -/

theorem view_relink (s : State) (p : Port) (up : Bool) :
    (s.setPort p { s.port p with linkUp := up, linkup := .unset }).portView = s.portView := view_setPort rfl

theorem portsKept_takeLink (s : State) (p : Port) (up : Bool) : PortsKept s (s.takeLink p up) := by
  have link : PortsKept s (s.setLink p up) := .of_view (view_setPort rfl)
  have linked : (s.port p).state ≠ .unguarded → PortsKept s (s.linkUp p) := fun guarded =>
    (portsKept_enter_free guarded (by decide) rfl).trans (.of_view
      (((view_setWant _ p _).trans ((onlyIn_restartMeters _ p).view (by decide))).trans (view_relink _ p true)))
  have unlinked : (s.port p).state ≠ .unguarded → PortsKept s (if up then s else s.linkDown p) := fun guarded =>
    .ite (.refl s) ((portsKept_enter_free guarded (by decide) rfl).trans (.of_view
      (((view_removeQueued _ p).trans (view_voidWants _ p)).trans (view_relink _ p false))))
  unfold State.takeLink
  split
  case h_1 => exact link
  case h_2 => exact link
  case h_3 down => exact .ite (linked (by simp [down])) (.refl s)
  all_goals exact unlinked (by simp [*])

/-! ### Roles (R110) -/

theorem view_changeRole (s : State) (p : Port) (role : Role) :
    (s.changeRole p role).portView = ((s.roleVoided p).roleEntered p role).portView := by
  have forgotten := (onlyIn_forgetReport ((s.roleVoided p).roleEntered p role) p (s.port p).role role).view (by decide)
  rw [changeRole_eq]
  dsimp only
  split
  · exact (view_setWant _ p _).trans forgotten
  · exact forgotten

theorem standing_changeRole_of_ne (s : State) {p q : Port} (role : Role) (other : q ≠ p) :
    ((s.changeRole p role).port q).standing = (s.port q).standing := by
  have voided : (s.roleVoided p).portView = (s.setPort p { s.port p with strikes := 0, linkup := .unset }).portView :=
    (view_removeQueued _ p).trans (view_voidWants _ p)
  rw [standing_of_view (view_changeRole s p role), port_roleEntered_of_ne role other, standing_of_view voided,
    State.port_setPort_of_ne _ _ _ _ other.symm]

/-- The record of a port as it begins under a role, in the state that the role and the link give it (R110). -/
def PortRecord.begun (role : Role) (link : Bool) : PortRecord :=
  { PortRecord.start role with state := stateForRole role link }

theorem standing_changeRole_self (s : State) (p : Port) (role : Role) :
    ((s.changeRole p role).port p).standing = (PortRecord.begun role (s.port p).linkUp).standing := by
  have cleared := port_roleVoided_self s p
  have bare : ((s.roleVoided p).port p).wants = Purposes.empty := by rw [cleared]; rfl
  rw [standing_of_view (view_changeRole s p role), port_roleEntered_self role bare, cleared]
  rfl

theorem legal_begun (limit : Nat) (role : Role) (link : Bool) : (PortRecord.begun role link).Legal limit :=
  PortRecord.legal_entered (allows_stateForRole role link) ⟨Nat.zero_le _, fun _ => rfl⟩ ⟨rfl, rfl, rfl⟩

/-- A change of role keeps every record legal under whatever strike limit, since the port restarts without strikes. -/
theorem legal_changeRole {s : State} {limit : Nat} (legal : ∀ q, (s.port q).Legal limit) (p : Port) (role : Role) :
    ∀ q, ((s.changeRole p role).port q).Legal limit := fun q => by
  by_cases at_p : q = p
  · rw [at_p]
    exact (legal_begun limit role _).congr (standing_changeRole_self s p role)
  · exact (legal q).congr (standing_changeRole_of_ne s role at_p)

theorem portsKept_changeRole (s : State) (p : Port) (role : Role) : PortsKept s (s.changeRole p role) := by
  have limit : (s.changeRole p role).profile.strikeLimit = s.profile.strikeLimit :=
    congrArg Profile.strikeLimit (onlyIn_changeRole s p role .profile (by decide))
  refine .of_move (p := p) (fun q => standing_changeRole_of_ne s role) limit (fun legal => legal_changeRole legal p role p)
    (.leaves ?_ (changeRole_trips s p role))
  rw [PortRecord.state_of_standing (standing_changeRole_self s p role)]
  exact stateForRole_not_shut role _

/-! ### Releases (R107, R108) -/

theorem allows_releaseTarget {limit : Nat} {r : PortRecord} (legal : r.Legal limit) (shut : r.state = .blocked ∨ r.state = .held) :
    r.role.Allows (releaseTarget r) := by
  have guarded : r.role ≠ .off := legal.guarded (by obtain state | state := shut <;> simp [state])
  obtain target | target | target := releaseTarget_cases r
  · rw [target]
    refine .of_desk ?_ (by decide)
    cases role : r.role with
    | off => exact absurd role guarded
    | desk => rfl
    | trunk =>
      have held : r.state = .held := shut.resolve_left (legal.allows.2 role).1
      cases link : r.linkUp <;> simp [releaseTarget, held, role, link] at target
  · rw [target]
    exact .of_guarded guarded (by decide)
  · rw [target]
    exact .of_guarded guarded (by decide)

theorem portsKept_release (s : State) (p : Port) : PortsKept s (s.release p) := by
  by_cases releasable : (s.port p).state.releasable = true
  · have shut := (releasable_iff _).1 releasable
    have listed : (s.port p).state.shutForTrip = true := by obtain state | state := shut <;> rw [state] <;> rfl
    have state : ((s.release p).port p).state = releaseTarget (s.port p) := by rw [port_release_self shut]
    refine .of_move (p := p) (port_release_of_ne s p).standing
      (congrArg Profile.strikeLimit (onlyIn_release s p .profile (by decide))) (fun legal => ?_) ?_
    · rw [port_release_self shut]
      exact PortRecord.legal_entered (allows_releaseTarget (legal p) shut) ⟨Nat.zero_le _, fun _ => rfl⟩ ⟨rfl, rfl, rfl⟩
    · have trips := release_trips shut
      split at trips
      · rename_i testing
        exact .stays (by rw [state, testing, listed]; rfl) trips
      · rename_i other
        refine .leaves ?_ trips
        rw [state]
        obtain target | target := (releaseTarget_cases (s.port p)).resolve_left other <;> rw [target] <;> rfl
  · rw [State.release, if_neg releasable]
    exact .refl s

theorem portsKept_roomRelease (s : State) : PortsKept s s.roomRelease := .foldl portsKept_release _ s

end Sys2Proof.Machine
end

section
/-! Every step keeps the port table legal and the trip list exact: the events of an expiry, the requests, and the commands
(R86, R89, R99, R100, R105, R111, R112). -/

namespace Sys2Proof.Machine

/-! ### The events of an expiry (R101, R104) -/

theorem portsKept_countPortSecond (s : State) (p : Port) : PortsKept s (s.countPortSecond p) := by
  unfold State.countPortSecond
  dsimp only
  split
  case h_1 blocked =>
    have counted : PortsKept s (s.setPort p { s.port p with holdOff := (s.port p).holdOff - 1 }) := by
      refine portsKept_setPort (fun legal => ?_) rfl
      obtain ⟨unguarded, trunk, most, off, -, bound, calm, decay⟩ := legal p
      exact ⟨unguarded, trunk, most, off, fun other => absurd blocked other, (Nat.sub_le _ _).trans bound, calm, decay⟩
    exact .ite (counted.trans (.of_view rfl)) counted
  case h_2 opened =>
    have counted : PortsKept s (s.setPort p { s.port p with decay := (s.port p).decay + 1 }) := by
      refine portsKept_setPort (fun legal => ?_) rfl
      obtain ⟨unguarded, trunk, most, off, holdOff, bound, calm, -⟩ := legal p
      exact ⟨unguarded, trunk, most, off, holdOff, bound, calm, fun other => absurd opened other⟩
    exact .ite (counted.trans (.of_view rfl)) counted
  case h_3 => exact .refl s

theorem portsKept_takeSecond (s : State) : PortsKept s s.takeSecond := by
  have counted := PortsKept.foldl portsKept_countPortSecond allPorts s.secondBegun
  rw [takeSecond_eq]
  exact (((onlyIn_secondBegun s).portsKept (by decide)).trans counted).trans ((onlyIn_countAutoSweep _).portsKept (by decide))

theorem portsKept_takeHoldOff (s : State) (p : Port) : PortsKept s (s.takeHoldOff p) := by
  unfold State.takeHoldOff
  split
  · rename_i ended
    have entered : PortsKept s (s.enter p .testing) :=
      portsKept_enter (fun legal => .of_desk ((legal p).desk (.inl ended.1)) (by decide)) fun _ => by rw [ended.1]; rfl
    exact entered.trans (.of_view (view_setWant _ p _))
  · exact .refl s

theorem portsKept_takeStrikeDecay (s : State) (p : Port) : PortsKept s (s.takeStrikeDecay p) := by
  unfold State.takeStrikeDecay
  split
  · refine portsKept_setPort (fun legal => ?_) rfl
    obtain ⟨unguarded, trunk, most, off, holdOff, bound, calm, -⟩ := legal p
    exact ⟨unguarded, trunk, (Nat.sub_le _ _).trans most, fun role => by simp [off role], holdOff, bound, calm, fun _ => rfl⟩
  · exact .refl s

theorem portsKept_takeProbeExpiry (s : State) (o : Port) : PortsKept s (s.takeProbeExpiry o) := by
  unfold State.takeProbeExpiry
  split
  · exact (portsKept_setProbes s _).trans (portsKept_conclude _ _ _ _ _)
  · exact .refl s

theorem portsKept_takeSweepTake (s : State) : PortsKept s s.takeSweepTake := by
  unfold State.takeSweepTake
  split
  · exact .ite (.of_view (view_takeSweepPort s)) (.refl s)
  · exact .refl s

theorem portsKept_takeRelRelease (s : State) : PortsKept s s.takeRelRelease := by
  have headed : PortsKept s s.releaseHead := by
    unfold State.releaseHead
    split
    · exact .ite ((portsKept_release s _).trans (.of_view rfl)) (.of_view rfl)
    · exact .of_view rfl
  exact .ite (.refl s) headed

theorem portsKept_takeTwoKey (s : State) : PortsKept s s.takeTwoKey := by
  have marked : PortsKept s (s.setPanel { s.panel with doneMark := true }) := .of_view rfl
  unfold State.takeTwoKey
  split
  · dsimp only
    split
    · exact marked.trans ((portsKept_roomRelease _).trans (.of_view rfl))
    · exact marked
  · exact .refl s

theorem portsKept_takeEvent (s : State) : ∀ e, PortsKept s (s.takeEvent e)
  | .second => portsKept_takeSecond s
  | .fabricLost => (onlyIn_takeFabricLost s).portsKept (by decide)
  | .calmHold p => portsKept_takeCalmHold s p
  | .probeExpired o => portsKept_takeProbeExpiry s o
  | .retireEnd => (onlyIn_takeRetireEnd s).portsKept (by decide)
  | .holdOff p => portsKept_takeHoldOff s p
  | .strikeDecay p => portsKept_takeStrikeDecay s p
  | .grace => .of_view rfl
  | .autoSweep => (onlyIn_takeAutoSweep s).portsKept (by decide)
  | .sweepTake => portsKept_takeSweepTake s
  | .silPress => .of_view rfl
  | .relPress => .of_view rfl
  | .relRelease => portsKept_takeRelRelease s
  | .silRelease => .refl s
  | .twoKey => portsKept_takeTwoKey s
  | .buzzer => (onlyIn_takeBuzzerExpiry s).portsKept (by decide)
  | .frameTimeout => (onlyIn_takeFrameTimeout s).portsKept (by decide)
  | .linkBreak => (onlyIn_takeLinkBreak s).portsKept (by decide)
  | .reports p => .foldl portsKept_handReport (portsAbove p) s
  | .admission => .of_view (view_admitWants s)

theorem portsKept_setDue (s : State) (l : List Event) : PortsKept s (s.setDue l) := .of_view rfl

theorem portsKept_takeDue (s : State) (e : Event) : PortsKept s (s.takeDue e) :=
  .ite ((portsKept_setDue s _).trans (portsKept_takeEvent _ e)) (.refl s)

theorem portsKept_finishReports (s : State) : PortsKept s s.finishReports := .foldl portsKept_takeDue _ s

theorem portsKept_takeAfterReports (s : State) (e : Event) : PortsKept s (s.takeAfterReports e) :=
  .ite ((portsKept_finishReports s).trans (portsKept_takeDue _ e)) (.refl s)

theorem portsKept_close (s : State) : PortsKept s s.close := by
  have second : PortsKept s (s.finishReports.takeDue .second) :=
    (portsKept_finishReports s).trans (portsKept_takeDue _ .second)
  have events := fun l => second.trans ((portsKept_setDue _ []).trans (PortsKept.foldl portsKept_takeEvent l _))
  exact .ite ((events _).trans (.of_view (view_admitWants _))) (events _)

theorem portsKept_takeReopening (s : State) (p : Port) : PortsKept s (s.takeReopening p) := by
  have resumed : PortsKept s s.resumeReports := by
    unfold State.resumeReports
    split
    · exact .ite (.refl s) ((portsKept_setDue s _).trans (portsKept_handUntilCalm _ _))
    · exact .refl s
  exact .ite (portsKept_takeDue s _) (.ite (resumed.trans (portsKept_takeDue _ _)) (.refl s))

/-! ### The slot expiry (R1) -/

theorem portsKept_stepPorts (s : State) : PortsKept s s.stepPorts := (onlyIn_stepPorts s).portsKept (by decide)

theorem portsKept_slotWorks (s : State) (first : Bool) (order : ExpiryOrder) : PortsKept s (s.slotWorks first order) := by
  have events : ∀ (t : State) place, PortsKept t (t.eventsAt order place) := fun t _ => .ite (portsKept_close t) (.refl t)
  have meters : ∀ t : State, PortsKept t (t.meterWork first) := fun t =>
    .ite (.refl t) ((portsKept_stepPorts t).trans (.foldl portsKept_handReport _ _))
  have admitted : ∀ t : State, PortsKept t t.admission := fun t =>
    (PortsKept.foldl portsKept_takeDue _ t).trans (.of_view (view_admitWants _))
  have work : ∀ (t : State) (b : Prop) [Decidable b], PortsKept t (if b then t.admission else t.meterWork first) :=
    fun t b _ => .ite (admitted t) (meters t)
  exact ((events s .before).trans (work _ _)).trans ((events _ .between).trans (.ite (meters _) (admitted _)))

theorem portsKept_slotExpiry (s : State) (lines : SlotLines) (order : ExpiryOrder) :
    PortsKept s (s.slotExpiry lines order) := by
  have counted : PortsKept s (s.close.countSlot lines) :=
    (portsKept_close s).trans ((onlyIn_countSlot _ lines).portsKept (by decide))
  have left : ∀ (t : State) first, PortsKept t (t.leaveWorks first) := fun t first =>
    (PortsKept.ite (c := first = true) (.refl t)
      ((portsKept_stepPorts t).trans (portsKept_handUntilCalm allPorts _))).trans (.of_view rfl)
  exact .ite (counted.trans (left _ _)) (counted.trans ((portsKept_slotWorks _ _ order).trans (portsKept_close _)))

end Sys2Proof.Machine
end

section
/-! Every command keeps the port table legal and the trip list exact: the fabric link, the requests, the restarts, and the
step (R86, R89, R99, R105, R111, R112, R177 to R179). -/

namespace Sys2Proof.Machine

/-! ### The fabric link (R4 to R19) -/

theorem portsKept_setReceiver (s : State) (v : Receiver) : PortsKept s (s.setReceiver v) := .of_view rfl

theorem portsKept_receiveRecord (s : State) (bytes : List Byte) (extra : Nat) :
    PortsKept s (s.receiveRecord bytes extra) := by
  have offered : ∀ r, PortsKept s (s.offerRecord r) := fun r => .ite (.of_view rfl) (.of_view rfl)
  have resynced : PortsKept s s.resync := .ite (.of_view rfl) (.of_view rfl)
  have lost : PortsKept s s.loseRecord := .of_view rfl
  have taken : ∀ r, PortsKept s (s.takeGoodRecord r) := fun r => by
    unfold State.takeGoodRecord
    cases r with
    | fill => exact .ite (.refl s) resynced
    | good g => exact .ite (offered g) lost
    | bad => exact .ite lost lost
  exact .ite (taken _) (.ite (.of_view rfl) lost)

/-- A dispatch takes the record at the head of the FIFO before it does its work, or does nothing. -/
theorem portsKept_popFifo {s t : State} {rest : List SightingRecord} (h : PortsKept (s.popFifo rest) t) : PortsKept s t :=
  (portsKept_setReceiver s _).trans h

theorem portsKept_dispatchTally (s : State) : PortsKept s s.dispatchTally := by
  unfold State.dispatchTally
  split
  · exact .of_view rfl
  · exact .refl s

theorem portsKept_dispatchSample (s : State) : PortsKept s s.dispatchSample := by
  unfold State.dispatchSample
  split
  · exact portsKept_popFifo (.of_view (view_learn _ _ _))
  · exact .refl s

theorem portsKept_dispatchProbe (s : State) : PortsKept s s.dispatchProbe := by
  unfold State.dispatchProbe
  split
  · exact portsKept_popFifo (portsKept_takeReturn _ _ _ _ _)
  · exact .refl s

theorem portsKept_dispatchLink (s : State) : PortsKept s s.dispatchLink := by
  unfold State.dispatchLink
  split
  · exact portsKept_popFifo (portsKept_takeLink _ _ _)
  · exact .refl s

theorem portsKept_grantGate (s : State) : PortsKept s s.grantGate := by
  unfold State.grantGate
  split
  · split
    · exact .of_view rfl
    · exact .refl s
  · exact .refl s

theorem portsKept_grantEmit (s : State) : PortsKept s s.grantEmit := by
  unfold State.grantEmit
  split
  · split
    · exact .of_view rfl
    · exact .refl s
  · exact .refl s

/-! ### Restarts (R87, R178, R179) -/

theorem legal_start (limit : Nat) (role : Role) : (PortRecord.start role).Legal limit :=
  legal_begun limit role false

theorem start_not_shut (role : Role) : (PortRecord.start role).state.shutForTrip = false := by cases role <;> rfl

/-- A state whose ports stand as they start, with nothing in the trip list, meets both invariants. -/
theorem portsKept_started {s t : State} {roles : Vector Role 40} (ports : ∀ p, t.port p = PortRecord.start roles[p])
    (trips : t.trips = []) : PortsKept s t := by
  refine ⟨fun _ p => ?_, fun _ => ?_⟩
  · rw [ports]
    exact legal_start _ _
  · rw [TripListExact, trips]
    refine ⟨List.nodup_nil, fun p => ?_⟩
    rw [ports, start_not_shut]
    simp

theorem port_start (straps : BitVec 2) (roles : Vector Role 40) (profile : Profile) (pending : List Instr) (p : Port) :
    (State.start straps roles profile pending).port p = PortRecord.start roles[p] := by
  simp [State.start, State.port]

theorem portsKept_reqRestart (s : State) (mode : Byte) : PortsKept s (s.reqRestart mode).1 := by
  have restarted : ∀ profile roles, PortsKept s (s.restartWith profile roles) := fun profile roles =>
    portsKept_started (port_restartWith s profile roles) rfl
  unfold State.reqRestart
  split
  · exact restarted _ _
  · split
    · exact restarted _ _
    · exact .refl s

/-! ### PROFILE SET (R105, R177) -/

theorem legal_applyRoles {limit : Nat} (roles : Vector Role 40) : ∀ (l : List Port) (s : State),
    (∀ q, (s.port q).Legal limit) → ∀ q, ((l.foldl (State.applyRole roles) s).port q).Legal limit
  | [], _, legal => legal
  | p :: l, s, legal => legal_applyRoles roles l _ (by
      unfold State.applyRole
      split
      · exact legal
      · exact legal_changeRole legal p _)

theorem portsKept_applyRole (roles : Vector Role 40) (s : State) (p : Port) : PortsKept s (s.applyRole roles p) :=
  .ite (.refl s) (portsKept_changeRole s p _)

theorem port_lowerStrikes (s : State) (q : Port) : s.lowerStrikes.port q =
    { s.port q with strikes := min (s.port q).strikes s.profile.strikeLimit } := by
  simp [State.lowerStrikes, State.port, State.setPorts]

/-- Records legal under another strike limit are legal under the one in force once their strikes are set to it (R105). -/
theorem legal_lowerStrikes {s : State} {limit : Nat} (legal : ∀ q, (s.port q).Legal limit) : PortsLegal s.lowerStrikes :=
  fun q => by
    obtain ⟨unguarded, trunk, -, off, rest⟩ := legal q
    rw [port_lowerStrikes]
    exact ⟨unguarded, trunk, Nat.min_le_right _ _, fun role => by simp [off role], rest⟩

theorem exact_lowerStrikes {s : State} (h : TripListExact s) : TripListExact s.lowerStrikes := by
  have trips : s.lowerStrikes.trips = s.trips := State.setPorts_trips s _
  obtain ⟨distinct, listed⟩ := h
  rw [TripListExact, trips]
  refine ⟨distinct, fun q => ?_⟩
  rw [port_lowerStrikes]
  exact listed q

/-- The roles and the strikes under a new profile: the strike limit in force when they are set is the new one (R177). -/
theorem portsKept_rolesAndStrikes (s : State) (new : Profile) (roles : Vector Role 40) : PortsKept s
    (if new.strikeLimit < s.profile.strikeLimit then
        (allPorts.foldl (State.applyRole roles) (s.setProfile new)).lowerStrikes
      else allPorts.foldl (State.applyRole roles) (s.setProfile new)) := by
  have profile : (allPorts.foldl (State.applyRole roles) (s.setProfile new)).profile = new :=
    OnlyIn.foldl (l := [.ports, .probes, .control, .trips, .meters, .reports, .mgmt, .sweep])
      (fun t p => OnlyIn.ite (OnlyIn.refl _ t) (onlyIn_changeRole t p _)) allPorts (s.setProfile new) .profile (by decide)
  have legal := fun h : PortsLegal s => legal_applyRoles roles allPorts (s.setProfile new) h
  have exact_ : TripListExact s → TripListExact (allPorts.foldl (State.applyRole roles) (s.setProfile new)) :=
    (PortsKept.foldl (portsKept_applyRole roles) allPorts (s.setProfile new)).exact
  split
  · exact ⟨fun h => legal_lowerStrikes (legal h), fun h => exact_lowerStrikes (exact_ h)⟩
  · rename_i raised
    refine ⟨fun h q => ?_, exact_⟩
    rw [profile]
    exact (legal h q).mono (not_lt.1 raised)

theorem portsKept_reqProfileSet (s : State) (b : ProfileBlock) : PortsKept s (s.reqProfileSet b).1 := by
  have timer : ∀ (t : State) n, PortsKept t (t.setSweep { t.sweep with timer := n }) := fun _ _ => .of_view rfl
  have quiet : ∀ t : State, PortsKept t t.stopBuzzer := fun _ => .of_view rfl
  have applied : ∀ new roles, PortsKept s (s.applyProfile new roles) := fun new roles => by
    have strikes := portsKept_rolesAndStrikes s new roles
    have moved := strikes.trans (.ite (c := new.roomId = s.profile.roomId) (.refl _)
      (.of_view (view_roomChanged _ s.profile.roomId)))
    have timed := moved.trans (.ite (c := new.sweepPeriod = s.profile.sweepPeriod) (.refl _) (timer _ new.sweepPeriod))
    exact timed.trans (.ite (c := new.buzzTime = 0) (quiet _) (.refl _))
  unfold State.reqProfileSet
  split
  · exact applied _ _
  · exact .refl s

/-! ### The requests of the ports (R79, R106 to R109, R122) -/

theorem portsKept_reqPortRole (s : State) (port role : Byte) : PortsKept s (s.reqPortRole port role).1 := by
  unfold State.reqPortRole
  split
  · exact .refl s
  · exact .refl s
  · exact .ite (.refl s) (portsKept_changeRole s _ _)

theorem portsKept_hold {s : State} {p : Port} (guarded : (s.port p).state ≠ .unguarded) : PortsKept s (s.hold p) :=
  portsKept_trip .host none none fun legal => .of_guarded ((legal p).guarded guarded) (by decide)

theorem portsKept_reqBlock (s : State) (port : Byte) : PortsKept s (s.reqBlock port).1 := by
  unfold State.reqBlock
  split
  · exact .refl s
  · split
    · exact .refl s
    · exact .refl s
    · exact portsKept_hold ‹_›

theorem portsKept_reqRelease (s : State) (port : Byte) : PortsKept s (s.reqRelease port).1 := by
  unfold State.reqRelease
  split
  · exact .refl s
  · split
    · exact portsKept_release s _
    · exact .refl s

theorem portsKept_reqCheck (s : State) (tag port : Byte) : PortsKept s (s.reqCheck tag port).1 := by
  have set : ∀ p, PortsKept s (s.setWant p (.host tag)) := fun p => .of_view (view_setWant s p _)
  unfold State.reqCheck
  split
  · exact .refl s
  · split
    · exact .refl s
    · split
      · split
        · exact .refl s
        · exact set _
      · split
        · exact set _
        · exact .refl s

theorem portsKept_reqSweep (s : State) (tag first last : Byte) : PortsKept s (s.reqSweep tag first last).1 := by
  have started : ∀ (t : State) f l, PortsKept t (t.startSweep (some tag) f l) := fun t f l =>
    (onlyIn_startSweep t (some tag) f l).portsKept (by decide)
  unfold State.reqSweep
  split
  · split
    · exact .refl s
    · split
      · exact started s _ _
      · dsimp only
        split
        · exact .refl s
        · exact (PortsKept.of_view (view_endSweep s _ _)).trans (started _ _ _)
  · exact .refl s

theorem portsKept_reqAbort (s : State) : PortsKept s s.reqAbort.1 := by
  unfold State.reqAbort
  split
  · exact .refl s
  · exact .of_view (view_endSweep s _ _)

end Sys2Proof.Machine
end

section
/-! Every command keeps the port table legal and the trip list exact. -/

namespace Sys2Proof.Machine

/-! ### The requests that leave the port table alone -/

theorem portsKept_setMgmt (s : State) (v : Mgmt) : PortsKept s (s.setMgmt v) := .of_view rfl

theorem portsKept_setPanel (s : State) (v : Panel) : PortsKept s (s.setPanel v) := .of_view rfl

theorem portsKept_setStations (s : State) (v : List StationEntry) : PortsKept s (s.setStations v) := .of_view rfl

theorem portsKept_reqStatus (s : State) (option : Byte) : PortsKept s (s.reqStatus option).1 := by
  unfold State.reqStatus
  split
  · exact .refl s
  · split
    · exact portsKept_setMgmt s _
    · exact .refl s

theorem portsKept_reqMeterGet (s : State) (cls : Byte) : PortsKept s (s.reqMeterGet cls).1 := by
  unfold State.reqMeterGet; split <;> exact .refl s

theorem portsKept_reqMeterSet (s : State) (b : MeterBlock) : PortsKept s (s.reqMeterSet b).1 := by
  have applied : ∀ k c, PortsKept s (s.applyMeterSet k c) := fun k c => by
    have frame := onlyIn_applyMeterSet s k c
    have port := State.port_congr (frame .ports (by decide))
    have trips : (s.applyMeterSet k c).trips = s.trips := frame .trips (by decide)
    refine .of_view ?_
    rw [State.portView, trips]
    simp only [port]
    rfl
  unfold State.reqMeterSet
  split
  · exact .refl s
  · split
    · exact applied _ _
    · exact .refl s

theorem portsKept_reqBaselineSet (s : State) (port cls : Byte) (value : Half) :
    PortsKept s (s.reqBaselineSet port cls value).1 := by
  unfold State.reqBaselineSet
  split
  · exact .refl s
  · exact .refl s
  · dsimp only
    split
    · exact .refl s
    · exact (onlyIn_seedBaselines s _ _ _).portsKept (by decide)

theorem portsKept_reqGrace (s : State) (d : Half) : PortsKept s (s.reqGrace d).1 := by
  have set : ∀ n, PortsKept s (s.setGrace n) := fun _ => .of_view rfl
  unfold State.reqGrace
  dsimp only
  split
  · split
    · exact (set 0).trans (.of_view rfl)
    · exact .refl s
  · split
    · exact set _
    · exact set _

theorem portsKept_reqPortGet (s : State) (port : Byte) : PortsKept s (s.reqPortGet port).1 := by
  unfold State.reqPortGet; split <;> exact .refl s

theorem portsKept_reqEvidenceGet (s : State) (port : Byte) : PortsKept s (s.reqEvidenceGet port).1 := by
  unfold State.reqEvidenceGet; split <;> exact .refl s

theorem portsKept_reqEvidenceClear (s : State) (port : Byte) : PortsKept s (s.reqEvidenceClear port).1 := by
  unfold State.reqEvidenceClear
  split
  · exact .refl s
  · exact .foldl (fun t p => (onlyIn_setEvidenceOf t p _).portsKept (by decide)) _ s

theorem portsKept_reqStationFind (s : State) (a : Address) : PortsKept s (s.reqStationFind a).1 := by
  unfold State.reqStationFind; split <;> exact .refl s

theorem portsKept_reqStationPin (s : State) (a : Address) (port : Byte) : PortsKept s (s.reqStationPin a port).1 := by
  unfold State.reqStationPin
  split
  · exact .refl s
  · split
    · exact portsKept_setStations s _
    · exact .refl s

theorem portsKept_reqStationUnpin (s : State) (a : Address) : PortsKept s (s.reqStationUnpin a).1 := by
  unfold State.reqStationUnpin
  split
  · exact .refl s
  · exact .ite (portsKept_setStations s _) (.refl s)

theorem portsKept_reqStationFlush (s : State) (port : Byte) : PortsKept s (s.reqStationFlush port).1 := by
  unfold State.reqStationFlush
  split
  · exact .refl s
  · exact portsKept_setStations s _

theorem portsKept_reqPanelSet (s : State) (mask : BitVec 80) (value : Byte) : PortsKept s (s.reqPanelSet mask value).1 := by
  unfold State.reqPanelSet
  split
  · exact .refl s
  · exact portsKept_setPanel s _

theorem portsKept_reqNoticeMask (s : State) (mask : Half) : PortsKept s (s.reqNoticeMask mask).1 := by
  unfold State.reqNoticeMask
  split
  · exact portsKept_setMgmt s _
  · exact .refl s

/-! ### Requests taken (R158, R159) -/

theorem portsKept_serve (s : State) (f : Frame) : PortsKept s (s.serve f).1 := by
  unfold State.serve
  dsimp only
  split
  · exact portsKept_reqStatus s _
  · exact .refl s
  · exact portsKept_reqProfileSet s _
  · exact portsKept_reqMeterGet s _
  · exact portsKept_reqMeterSet s _
  · exact portsKept_reqBaselineSet s _ _ _
  · exact portsKept_reqGrace s _
  · exact portsKept_reqPortGet s _
  · exact portsKept_reqPortRole s _ _
  · exact portsKept_reqBlock s _
  · exact portsKept_reqRelease s _
  · exact portsKept_roomRelease s
  · exact .refl s
  · exact portsKept_reqCheck s _ _
  · exact portsKept_reqSweep s _ _ _
  · exact portsKept_reqAbort s
  · exact portsKept_reqEvidenceGet s _
  · exact portsKept_reqEvidenceClear s _
  · exact portsKept_reqStationFind s _
  · exact portsKept_reqStationPin s _ _
  · exact portsKept_reqStationUnpin s _
  · exact portsKept_reqStationFlush s _
  · exact portsKept_reqPanelSet s _ _
  · exact portsKept_setPanel s _
  · exact portsKept_reqNoticeMask s _
  · exact portsKept_reqRestart s _
  · exact .refl s

theorem portsKept_fill (a : Answer) (kind tag : Byte) (flush : Bool) : PortsKept a.1 (a.fill kind tag flush) :=
  portsKept_setMgmt a.1 _

theorem portsKept_takeRequest (s : State) : PortsKept s s.takeRequest := by
  have answered : ∀ (t : State) (f : Frame), PortsKept t (t.answerFrame f) := fun t f => by
    unfold State.answerFrame
    split
    · exact portsKept_fill (t.refuse stBadKind) _ _ _
    · exact .ite ((portsKept_serve t f).trans (portsKept_fill _ _ _ _)) (portsKept_fill (t.refuse stBadLength) _ _ _)
  unfold State.takeRequest
  split
  · exact (portsKept_setMgmt s _).trans (answered _ _)
  · exact .refl s

theorem portsKept_closed_request (s : State) (kind tag : Byte) (flush : Bool) {f : State → Answer}
    (h : ∀ t, PortsKept t (f t).1) : PortsKept s (s.close.request kind tag flush f) :=
  (portsKept_close s).trans
    (.ite (((portsKept_setMgmt _ _).trans (h (s.close.setMgmt s.close.mgmt.heard))).trans (portsKept_fill _ _ _ _)) (.refl _))

/-! ### The step -/

theorem portsKept_exec (c : Instr) (s t : State) (h : exec c s = .next t) : PortsKept s t := by
  have close : ∀ {u : State}, PortsKept s.close u → PortsKept s u := (portsKept_close s).trans
  have link : ∀ m, PortsKept s (s.close.setMgmt m) := fun m => close (portsKept_setMgmt _ m)
  have request := portsKept_closed_request s
  cases c <;> obtain rfl := Host.Outcome.next.inj h
  case powerOn straps => exact portsKept_started (port_start straps _ _ _) rfl
  case slotExpiry lines order => exact portsKept_slotExpiry s lines order
  case secondExpiry => exact portsKept_takeAfterReports s _
  case fabricLost | retirePeriodEnd | holdOffExpiry | strikeDecay | graceExpiry | autoSweepTimerExpiry | sweepTakePort |
      silPress | relPress | relRelease | keyReleaseSil | twoKeyRoomRelease | buzzerExpiry | frameTimeout | linkBreak =>
    exact portsKept_takeDue s _
  case calmHoldReached p => exact portsKept_takeReopening s p
  case probeExpiry o =>
    split
    · exact portsKept_takeAfterReports s _
    · exact .refl s
  case sightingRecordReceive bytes extra => exact close (portsKept_receiveRecord _ bytes extra)
  case tallyDispatch => exact close (portsKept_dispatchTally _)
  case sampleDispatch => exact close (portsKept_dispatchSample _)
  case probeDispatch => exact close (portsKept_dispatchProbe _)
  case linkDispatch => exact close (portsKept_dispatchLink _)
  case slotMarkGrant | refreshGateGrant => exact close (.ite (.of_view rfl) (.refl _))
  case gateChangeGrant => exact close (portsKept_grantGate _)
  case emitGrant => exact close (portsKept_grantEmit _)
  case mlCharacterReceive | breakWaitEnd | replySent | noticeSend | noticeFrameEnd => exact link _
  case scanNextCommon => exact close (portsKept_setPanel _ _)
  case requestTake => exact close (portsKept_takeRequest _)
  case profileGet | tripList => exact request _ _ _ .refl
  case status => exact request _ _ _ fun t => portsKept_reqStatus t _
  case profileSet => exact request _ _ _ fun t => portsKept_reqProfileSet t _
  case meterGet => exact request _ _ _ fun t => portsKept_reqMeterGet t _
  case meterSet => exact request _ _ _ fun t => portsKept_reqMeterSet t _
  case baselineSet => exact request _ _ _ fun t => portsKept_reqBaselineSet t _ _ _
  case grace => exact request _ _ _ fun t => portsKept_reqGrace t _
  case portGet => exact request _ _ _ fun t => portsKept_reqPortGet t _
  case portRole => exact request _ _ _ fun t => portsKept_reqPortRole t _ _
  case block => exact request _ _ _ fun t => portsKept_reqBlock t _
  case release => exact request _ _ _ fun t => portsKept_reqRelease t _
  case roomRelease => exact request _ _ _ portsKept_roomRelease
  case check => exact request _ _ _ fun t => portsKept_reqCheck t _ _
  case sweep => exact request _ _ _ fun t => portsKept_reqSweep t _ _ _
  case abort => exact request _ _ _ portsKept_reqAbort
  case evidenceGet => exact request _ _ _ fun t => portsKept_reqEvidenceGet t _
  case evidenceClear => exact request _ _ _ fun t => portsKept_reqEvidenceClear t _
  case stationFind => exact request _ _ _ fun t => portsKept_reqStationFind t _
  case stationPin => exact request _ _ _ fun t => portsKept_reqStationPin t _ _
  case stationUnpin => exact request _ _ _ fun t => portsKept_reqStationUnpin t _
  case stationFlush => exact request _ _ _ fun t => portsKept_reqStationFlush t _
  case panelSet => exact request _ _ _ fun t => portsKept_reqPanelSet t _ _
  case panelReturn => exact request _ _ _ fun t => portsKept_setPanel t _
  case noticeMask => exact request _ _ _ fun t => portsKept_reqNoticeMask t _
  case restart => exact request _ _ _ fun t => portsKept_reqRestart t _

theorem portsKept_step (s t : State) (run : step s = .next t) : PortsKept s t := by
  unfold step at run
  split at run
  · obtain rfl := Host.Outcome.next.inj run
    exact .refl s
  · rename_i c rest _
    have taken : PortsKept { s with pending := rest } t := portsKept_exec c _ t run
    exact ⟨taken.legal, taken.exact⟩

/-- Settles O5: every operation leaves a port's record as it stands or moves one port to a state that its role allows. -/
theorem portTableStaysLegal : Obligations.PortTableStaysLegal := fun s t legal run => (portsKept_step s t run).legal legal

/-- Settles O6: every operation leaves the trip list with the states, or takes the one port that moves from it or to its head. -/
theorem tripListStaysExact : Obligations.TripListStaysExact := fun s t exact_ run => (portsKept_step s t run).exact exact_

end Sys2Proof.Machine
end

section
/-! Trips: what a blocking trip and a hold leave in the evidence, the panel and the link (R98 to R100, R106, R131, R133, R134,
R153), and BLOCK. -/

namespace Sys2Proof.Machine

/-! ### The evidence of a blocking trip (R131, R133, R134) -/

/-- A latched record keeps its capture and counts the trip (R134). -/
theorem trip_latched {s : State} {p : Port} {x : Capture} (latched : (s.evidenceOf p).capture = some x) (c : Cause)
    (e : PortState) (q : Option Port) (r : Option Half) : (s.trip p c e q r).evidenceOf p =
      { capture := some x, repeats := min ((s.evidenceOf p).repeats + 1) 255 } := by
  rw [trip_evidence, latched]

theorem trip_captures {s : State} {p : Port} (unlatched : (s.evidenceOf p).capture = none) (c : Cause) (e : PortState)
    (q : Option Port) (r : Option Half) : (s.trip p c e q r).evidenceOf p =
      { capture := some (s.captureOf p c e q r), repeats := 0 } := by
  rw [trip_evidence, unlatched]

section BlockingTrip

variable (s : State) (p : Port) (c : Cause) (q : Option Port) (r : Option Half)

theorem blockingTrip_evidence :
    (s.blockingTrip p c q r).evidence = ((s.struck p).trip p c (s.shutState p) q r).evidence := by
  rw [blockingTrip_eq]
  rfl

theorem blockingTrip_latched {x : Capture} (latched : (s.evidenceOf p).capture = some x) :
    (s.blockingTrip p c q r).evidenceOf p =
      { capture := some x, repeats := min ((s.evidenceOf p).repeats + 1) 255 } := by
  rw [State.evidenceOf_congr (blockingTrip_evidence s p c q r)]
  exact trip_latched (s := s.struck p) latched c _ q r

theorem evidenceOf_blockingTrip_of_ne {a : Port} (other : a ≠ p) :
    (s.blockingTrip p c q r).evidenceOf a = s.evidenceOf a := by
  rw [State.evidenceOf_congr (blockingTrip_evidence s p c q r)]
  exact trip_evidence_of_ne (s.struck p) c _ q r other

theorem blockingTrip_panel : (s.blockingTrip p c q r).panel = s.startBuzzer.panel := by
  have panel := trip_panel (s.struck p) p c (s.shutState p) q r
  rw [if_pos (shutState_shut s p)] at panel
  rw [blockingTrip_eq]
  exact panel

end BlockingTrip

theorem get_tripValues_report {s : State} {p : Port} {x : StepReport} (report : s.report p = some x)
    (k : TrafficClass) : (tripValues (s.report p) (s.portMeters p)).get k =
      { level := (x.classes.get k).level, base := (x.classes.get k).base, excess := (x.classes.get k).excess } := by
  rw [report]
  cases k <;> rfl

theorem get_tripValues_none {s : State} {p : Port} (none : s.report p = none) (k : TrafficClass) :
    (tripValues (s.report p) (s.portMeters p)).get k =
      { level := 0, base := ((s.portMeters p).get k).base, excess := -(((s.portMeters p).get k).base : Int) } := by
  rw [none]
  cases k <;> rfl

/-- Settles O34: the fields of a blocking trip by its rules, and the class values of the capture by the latest report. -/
theorem blockingTripAddsStrike : Obligations.BlockingTripAddsStrike := by
  intro s p cause partner room
  refine ⟨port_blockingTrip_self s p cause partner room, blockingTrip_trips s p cause partner room,
    blockingTrip_tripped s p cause partner room, fun unlatched => ⟨?_, ?_⟩, fun x latched => ⟨?_, ?_⟩,
    fun q other => evidenceOf_blockingTrip_of_ne s p cause partner room other, blockingTrip_panel s p cause partner room,
    port_blockingTrip_of_ne s p cause partner room, (onlyIn_blockingTrip s p cause partner room).mono (by decide)⟩
  · have strikes : ((s.struck p).port p).strikes = s.nextStrikes p := by rw [State.struck, State.port_setPort_self]
    refine ⟨_, blockingTrip_captures s p cause partner room unlatched, rfl, rfl, rfl, rfl, strikes, rfl, rfl,
      fun r report => ⟨?_, get_tripValues_report report⟩, fun none => ⟨?_, get_tripValues_none none⟩⟩
    · exact congrArg tripHeld report
    · exact congrArg tripHeld none
  · rw [blockingTrip_mgmt, unlatched]
    rfl
  · exact blockingTrip_latched s p cause partner room latched
  · rw [blockingTrip_mgmt, latched]

/-! ### BLOCK (R106) -/

section Hold

variable (s : State) (p : Port)

theorem port_hold_self : (s.hold p).port p = { s.port p with
    state := .held, holdOff := 0, calm := 0, decay := 0, wants := ((s.hold p).port p).wants } := by
  have port := State.port_congr (trip_ports s p .host .held none none) p
  rw [State.hold, port, port_enter_self]

theorem port_hold_of_ne : OtherPortsKept p s (s.hold p) := fun q other => by
  rw [State.hold, State.port_congr (trip_ports s p .host .held none none), port_enter_of_ne s _ other]

theorem hold_pendingGate : (s.hold p).control.pendingGate =
    if (s.port p).state = .opened ∨ (s.port p).state = .limited ∨ (s.port p).state = .unguarded then
      s.control.pendingGate.set p (some .shut) else s.control.pendingGate := by
  rw [State.hold, trip_control, enter_control]
  cases (s.port p).state <;> rfl

theorem hold_tripped : (s.hold p).mgmt.flags.tripped = true := by
  rw [State.hold, trip_mgmt]
  split
  · exact raise_flags_tripped _ _
  · rfl

theorem hold_mgmt : (s.hold p).mgmt = if (s.evidenceOf p).capture = none then
    s.mgmt.flagTripped.raise (.trip p .host .held none (s.port p).strikes s.timer.secondCount) else s.mgmt.flagTripped := by
  rw [State.hold, trip_mgmt]
  cases (s.evidenceOf p).capture <;> rfl

end Hold

theorem reqBlock_unguarded {s : State} {p : Port} (state : (s.port p).state = .unguarded) :
    s.reqBlock (portByte p) = s.refuse stWrongState := by
  rw [State.reqBlock, portOf_portByte]
  dsimp only
  rw [state]

theorem reqBlock_held {s : State} {p : Port} (state : (s.port p).state = .held) :
    s.reqBlock (portByte p) = (s, [0, portByte p, 7]) := by
  rw [State.reqBlock, portOf_portByte]
  dsimp only
  rw [State.orderReply, state]
  rfl

theorem reqBlock_of_live {s : State} {p : Port} (guarded : (s.port p).state ≠ .unguarded) (free : (s.port p).state ≠ .held) :
    s.reqBlock (portByte p) = (s.hold p, [0, portByte p, 7]) := by
  have reply : (s.hold p).orderReply p = [0, portByte p, 7] := by rw [State.orderReply, port_hold_self]; rfl
  rw [State.reqBlock, portOf_portByte]
  dsimp only
  split
  · exact absurd ‹_› guarded
  · exact absurd ‹_› free
  · rw [reply]

/-- Settles O54: the refusals and the HELD port reply alone, and any other port is held by the rules of its trip. -/
theorem hostBlockHoldsAPort : Obligations.HostBlockHoldsAPort := by
  intro s tag p takes
  let u := s.setMgmt s.mgmt.heard
  have replied : ∀ port body, u.reqBlock port = (u, body) →
      exec (.block tag port) s = .next (Replied s 0x8A tag body) := fun port body answer =>
    congrArg Host.Outcome.next (closed_request_replied takes 0x0A tag (t := s) answer)
  refine ⟨fun port bad => replied port _ ?_, fun state => replied _ _ (reqBlock_unguarded (s := u) state),
    fun state => replied _ _ (reqBlock_held (s := u) state), fun guarded free => ?_⟩
  · rw [State.reqBlock, portOf_of_ge bad]
    rfl
  · have run : exec (.block tag (portByte p)) s = .next (Answer.fill 0x8A tag false (u.hold p, [0, portByte p, 7])) :=
      congrArg Host.Outcome.next ((closed_request_of_takes takes 0x0A tag false _).trans
        (congrArg (Answer.fill _ tag false) (reqBlock_of_live (s := u) guarded free)))
    refine ⟨_, run, port_hold_self u p, trip_trips u p .host .held none none, ?_, hold_tripped u p,
      trip_panel u p .host .held none none, fun unlatched => ⟨_, trip_captures (s := u) unlatched _ _ _ _, rfl, rfl, rfl, rfl, rfl⟩,
      fun x latched => trip_latched (s := u) latched _ _ _ _, ?_, port_hold_of_ne u p,
      onlyIn_answered _ tag false ((onlyIn_trip u p _ _ _ _).mono (by decide)) (by decide)⟩
    · refine (hold_pendingGate u p).trans (if_congr (or_congr_right (or_iff_left guarded)) rfl rfl)
    · rw [fill_mgmt, hold_mgmt]
      rfl

end Sys2Proof.Machine
end

section
/-! A port that leaves a settled state, one other than PRIMING and TESTING, breaks no purpose (R77, log 8), so entering its new
state is an assignment of its record, its GATE change and its trip item. The LINK records that change nothing, the timers of the
Containment Logic, and the invariants at reset. -/

namespace Sys2Proof.Machine

/-! ### Entering a state from a settled one -/

section Settled

variable {s : State} {p : Port} (priming : (s.port p).state ≠ .priming) (testing : (s.port p).state ≠ .testing)

include priming testing

theorem enter_of_settled (new : PortState) : s.enter p new =
    { s with
      ports := s.ports.set p { s.port p with state := new, holdOff := 0, calm := 0, decay := 0 }
      control := if gateOf (s.port p).state = gateOf new then s.control
        else { s.control with pendingGate := s.control.pendingGate.set p (some (gateOf new)) }
      trips := if new.shutForTrip then s.trips else removeTrip p s.trips } := by
  simp only [State.enter, leaveState_of_settled priming testing]
  split <;> split <;> rfl

theorem port_enter_of_settled (new : PortState) :
    (s.enter p new).port p = { s.port p with state := new, holdOff := 0, calm := 0, decay := 0 } := by
  rw [port_enter_self, leaveState_of_settled priming testing]

theorem wants_enter_of_settled (new : PortState) (q : Port) : ((s.enter p new).port q).wants = (s.port q).wants := by
  by_cases same : q = p
  · rw [same, port_enter_of_settled priming testing]
  · rw [port_enter_of_ne s new same]

theorem probes_enter_of_settled (new : PortState) : (s.enter p new).probes = s.probes := by
  rw [enter_probes, leaveState_of_settled priming testing]

end Settled

/-- What is joined depends, of the state before, on the Probe Engine and the want sets alone. -/
theorem PurposeJoined.congr_before {on : Port → Bool} {f : Purposes → Purposes} {s t u : State} (h : PurposeJoined on f s t)
    (probes : s.probes = u.probes) (wants : ∀ q, (s.port q).wants = (u.port q).wants) : PurposeJoined on f u t := by
  obtain ⟨list, joined⟩ := h
  refine ⟨by rw [list, probes], fun q => ?_⟩
  rw [joined, probes, wants]

/-- A want set on a port, after changes that keep every want set and the Probe Engine, joins the purposes it had. -/
theorem setWant_joined_after {s u : State} (p : Port) (w : Want) (probes : s.probes = u.probes)
    (wants : ∀ q, (s.port q).wants = (u.port q).wants) :
    PurposeJoined (fun q => decide (q = p)) (Purposes.add w) u (s.setWant p w) :=
  (setWant_joined s p w).congr_before probes wants

theorem port_setWant_wants_only (s : State) (p q : Port) (w : Want) :
    (s.setWant p w).port q = { s.port q with wants := ((s.setWant p w).port q).wants } := by
  rw [port_setWant]

theorem port_setWant_of_ne (s : State) (p : Port) (w : Want) : OtherPortsKept p s (s.setWant p w) := fun q other => by
  rw [port_setWant, if_neg fun h => other h.1.symm]

/-! ### LINK records (R90) -/

theorem exec_linkDispatch {s : State} {p : Port} {up : Bool} {rest : List SightingRecord} (due : s.due = [])
    (head : s.receiver.fifo = .link p up :: rest) : exec .linkDispatch s = .next ((s.popFifo rest).takeLink p up) := by
  refine congrArg Host.Outcome.next ?_
  rw [close_of_due_nil s due]
  unfold State.dispatchLink
  rw [head]

theorem takeLink_down_repeats {s : State} {p : Port} (down : (s.port p).state = .down) : s.takeLink p false = s := by
  rw [State.takeLink, down]
  rfl

theorem takeLink_up_repeats {s : State} {p : Port}
    (linked : (s.port p).state ∈ [.priming, .opened, .limited, .blocked, .testing]) : s.takeLink p true = s := by
  unfold State.takeLink
  split <;> simp_all

theorem takeLink_unlinked {s : State} {p : Port} (up : Bool)
    (unlinked : (s.port p).state = .unguarded ∨ (s.port p).state = .held) : s.takeLink p up = s.setLink p up := by
  obtain state | state := unlinked <;> rw [State.takeLink, state]

/-- Settles O28: after the record leaves the FIFO, the row of R90 for its state does nothing or sets the link field. -/
theorem linkRepeatChangesNothing : Obligations.LinkRepeatChangesNothing := by
  intro s p up rest due head
  rw [exec_linkDispatch due head]
  refine ⟨fun down is => ?_, fun linked is => ?_, fun unlinked => ?_⟩
  · rw [is, takeLink_down_repeats (s := s.popFifo rest) down]
    rfl
  · rw [is, takeLink_up_repeats (s := s.popFifo rest) linked]
    rfl
  · rw [takeLink_unlinked (s := s.popFifo rest) up unlinked]
    rfl

/-! ### Hold-off (R101, R102) -/

theorem takeHoldOff_ended {s : State} {p : Port} (blocked : (s.port p).state = .blocked) (ended : (s.port p).holdOff = 0) :
    s.takeHoldOff p = (s.enter p .testing).setWant p .recover := if_pos ⟨blocked, ended⟩

theorem takeHoldOff_left {s : State} {p : Port} (left : (s.port p).state ≠ .blocked) : s.takeHoldOff p = s :=
  if_neg fun h => left h.1

section HoldOffEnded

variable {s : State} {p : Port} (blocked : (s.port p).state = .blocked)

include blocked

theorem port_retest : ((s.enter p .testing).setWant p .recover).port p = { s.port p with
    state := .testing, holdOff := 0, calm := 0, decay := 0,
    wants := (((s.enter p .testing).setWant p .recover).port p).wants } := by
  rw [port_setWant_wants_only, port_enter_of_settled (by simp [blocked]) (by simp [blocked])]

/-- BLOCKED and TESTING are both SHUT and both in the trip list, so the retest changes the port's record and purposes alone. -/
theorem onlyIn_retest : OnlyIn [.ports, .probes] s ((s.enter p .testing).setWant p .recover) := by
  have entered : s.enter p .testing =
      s.setPort p { s.port p with state := .testing, holdOff := 0, calm := 0, decay := 0 } := by
    rw [enter_of_settled (by simp [blocked]) (by simp [blocked]), blocked]
    rfl
  refine OnlyIn.trans ?_ (onlyIn_wantRecover _ p)
  rw [entered]
  exact (onlyIn_setPort s p _).mono (by decide)

theorem retest_joined : PurposeJoined (fun q => decide (q = p)) (fun u => { u with recover := true, recoverBroken := false })
    s ((s.enter p .testing).setWant p .recover) :=
  setWant_joined_after p .recover (probes_enter_of_settled (by simp [blocked]) (by simp [blocked]) .testing)
    (wants_enter_of_settled (by simp [blocked]) (by simp [blocked]) .testing)

end HoldOffEnded

theorem port_retest_of_ne (s : State) (p : Port) : OtherPortsKept p s ((s.enter p .testing).setWant p .recover) :=
  fun q other => by rw [port_setWant_of_ne _ p .recover q other, port_enter_of_ne s _ other]

/-! ### Calm hold (R95) -/

theorem reopen_of_limited {s : State} {p : Port} (limited : (s.port p).state = .limited) : s.reopen p =
    { s with ports := s.ports.set p { s.port p with state := .opened, holdOff := 0, calm := 0, decay := 0 },
             control := { s.control with pendingGate := s.control.pendingGate.set p (some .pass) },
             trips := removeTrip p s.trips,
             mgmt := s.mgmt.raise (.recovered p .limited (s.port p).strikes s.timer.secondCount) } := by
  rw [State.reopen, enter_of_settled (by simp [limited]) (by simp [limited]), limited]
  rfl

theorem takeCalmHold_reached {s : State} {p : Port} (limited : (s.port p).state = .limited)
    (reached : s.profile.calmHold ≤ (s.port p).calm) : s.takeCalmHold p = s.reopen p :=
  if_pos (by simp [State.calmReached, limited, reached])

theorem takeCalmHold_running {s : State} {p : Port} (running : ¬ s.profile.calmHold ≤ (s.port p).calm) :
    s.takeCalmHold p = s := if_neg (by simp [State.calmReached, running])

theorem takeCalmHold_left {s : State} {p : Port} (left : (s.port p).state ≠ .limited) : s.takeCalmHold p = s :=
  if_neg (by simp [State.calmReached, left])

theorem exec_calmHoldReached {s : State} {p : Port} (due : .calmHold p ∈ s.due) :
    exec (.calmHoldReached p) s = .next ((s.setDue (s.due.erase (.calmHold p))).takeCalmHold p) :=
  congrArg Host.Outcome.next ((if_pos due).trans (takeDue_of_mem due))

/-! ### Strike decay (R104) -/

theorem takeStrikeDecay_reached {s : State} {p : Port} (opened : (s.port p).state = .opened)
    (reached : s.profile.decayPeriod * 60 ≤ (s.port p).decay) :
    s.takeStrikeDecay p = s.setPort p { s.port p with strikes := (s.port p).strikes - 1, decay := 0 } :=
  if_pos ⟨opened, reached⟩

theorem takeStrikeDecay_left {s : State} {p : Port} (left : (s.port p).state ≠ .opened) : s.takeStrikeDecay p = s :=
  if_neg fun h => left h.1

theorem exec_holdOffExpiry {s : State} {p : Port} (due : .holdOff p ∈ s.due) :
    exec (.holdOffExpiry p) s = .next ((s.setDue (s.due.erase (.holdOff p))).takeHoldOff p) :=
  congrArg Host.Outcome.next (takeDue_of_mem due)

theorem exec_strikeDecay {s : State} {p : Port} (due : .strikeDecay p ∈ s.due) :
    exec (.strikeDecay p) s = .next ((s.setDue (s.due.erase (.strikeDecay p))).takeStrikeDecay p) :=
  congrArg Host.Outcome.next (takeDue_of_mem due)

/-- Settles O36: each timer's event, taken off the due list, does its row when the port is still in the timer's state and
nothing otherwise. -/
theorem portTimersRunOut : Obligations.PortTimersRunOut := by
  refine ⟨fun s p due => ⟨fun blocked ended => ?_, fun left => ?_⟩, fun s p due => ⟨fun limited reached => ?_, fun left => ?_⟩,
    fun s p due => ⟨fun opened reached => ?_, fun left => ?_⟩⟩
  · let u := s.setDue (s.due.erase (.holdOff p))
    have frame : OnlyIn [.ports, .probes] u ((u.enter p .testing).setWant p .recover) := onlyIn_retest blocked
    have run := (exec_holdOffExpiry due).trans (congrArg Host.Outcome.next (takeHoldOff_ended (s := u) blocked ended))
    exact ⟨_, run, port_retest (s := u) blocked, (retest_joined (s := u) blocked).congr_states ⟨rfl, rfl⟩ ⟨rfl, rfl⟩,
      port_retest_of_ne u p, frame .due (by decide),
      ((onlyIn_setDue s _).mono (by decide)).trans (frame.mono (by decide))⟩
  · exact (exec_holdOffExpiry due).trans (congrArg Host.Outcome.next (takeHoldOff_left left))
  · refine (exec_calmHoldReached due).trans (congrArg Host.Outcome.next ?_)
    let u := s.setDue (s.due.erase (.calmHold p))
    exact (takeCalmHold_reached (s := u) limited reached).trans (reopen_of_limited (s := u) limited)
  · exact (exec_calmHoldReached due).trans (congrArg Host.Outcome.next (takeCalmHold_left left))
  · exact (exec_strikeDecay due).trans (congrArg Host.Outcome.next (takeStrikeDecay_reached opened reached))
  · exact (exec_strikeDecay due).trans (congrArg Host.Outcome.next (takeStrikeDecay_left left))

/-! ### Reset -/

theorem reset_ports_legal : PortsLegal State.reset := fun p => by
  rw [State.reset, port_start]
  exact legal_start _ _

theorem reset_trips_exact : TripListExact State.reset := by
  refine ⟨List.nodup_nil, fun p => ?_⟩
  rw [State.reset, port_start, start_not_shut]
  exact iff_of_false List.not_mem_nil Bool.false_ne_true

theorem sweepsOwed_reset : sweepsOwed State.reset = 0 := by
  have wants : ∀ p, (State.reset.port p).wants.sweep.isSome = false := fun p => by
    rw [State.reset, port_start]
    rfl
  have none : (allPorts.filter fun p => (State.reset.port p).wants.sweep.isSome) = [] :=
    List.filter_eq_nil_iff.2 fun p _ => by rw [wants]; exact Bool.false_ne_true
  rw [sweepsOwed, none]
  rfl

/-- Settles O4: every queue and list is empty at reset, and every record and setup is the one it starts with. -/
theorem resetMeetsEveryInvariant : Obligations.ResetMeetsEveryInvariant := by
  refine ⟨reset_ports_legal, reset_trips_exact, ?probes, ?notices,
    start_metersInRange _ _ _ _ factoryMeters_inRange, ?queues, ?stations, ?sweep, ?frames⟩
  case probes => exact ⟨Nat.zero_le _, List.nodup_nil, List.nodup_nil, List.not_mem_nil, rfl⟩
  case notices => exact ⟨Nat.zero_le _, .nil, nofun⟩
  case queues => exact ⟨Nat.zero_le _, Nat.le_refl _, Nat.zero_le _, by decide, by decide, nofun⟩
  case stations => exact ⟨Nat.zero_le _, .nil, nofun, List.nodup_nil, Nat.zero_le _⟩
  case sweep => exact ⟨by decide, fun _ => sweepsOwed_reset, nofun⟩
  case frames => exact fun h => absurd rfl h

end Sys2Proof.Machine
end

section
/-! What a step report does to its port, by the port's state (R93 to R96, R99, R103). -/

namespace Sys2Proof.Machine

/-! ### The SEVERE class that a report names for a role (R99) -/

theorem severeClass_of_desk {r : StepReport} {role : Role} (desk : role = .desk) :
    r.severeClass role = r.classes.first ClassReport.severeConfirmed := if_pos desk

theorem severeClass_eq_none {r : StepReport} {role : Role}
    (none : role = .desk → r.classes.first ClassReport.severeConfirmed = none) : r.severeClass role = Option.none := by
  unfold StepReport.severeClass
  split
  · exact none ‹_›
  · rfl

/-! ### The limiting trip of an OPEN port for STORM (R94, R98) -/

section StormTrip

variable (s : State) (p : Port) (k : TrafficClass)

theorem limitingTrip_storm : s.limitingTrip p (.limit k) none = (s.trip p (.limit k) .limited none none).setWant p .storm :=
  rfl

theorem stormTrip_evidence :
    (s.limitingTrip p (.limit k) none).evidenceOf p = (s.trip p (.limit k) .limited none none).evidenceOf p :=
  State.evidenceOf_congr (onlyIn_wantStorm _ p .evidence (by decide)) p

theorem stormTrip_mgmt : (s.limitingTrip p (.limit k) none).mgmt = match (s.evidenceOf p).capture with
    | none => s.mgmt.flagTripped.raise (.trip p (.limit k) .limited none (s.port p).strikes s.timer.secondCount)
    | some _ => s.mgmt.flagTripped :=
  Eq.trans (onlyIn_wantStorm _ p .mgmt (by decide)) (trip_mgmt s p (.limit k) .limited none none)

theorem stormTrip_tripped : (s.limitingTrip p (.limit k) none).mgmt.flags.tripped = true := by
  rw [stormTrip_mgmt]
  split
  · exact raise_flags_tripped _ _
  · rfl

theorem stormTrip_trips : (s.limitingTrip p (.limit k) none).trips = removeTrip p s.trips :=
  Eq.trans (onlyIn_wantStorm _ p .trips (by decide)) (trip_trips s p (.limit k) .limited none none)

theorem stormTrip_panel : (s.limitingTrip p (.limit k) none).panel = s.panel :=
  onlyIn_limitingTrip s p (.limit k) none .panel (by decide)

theorem port_stormTrip_of_ne : OtherPortsKept p s (s.limitingTrip p (.limit k) none) := fun q other => by
  rw [limitingTrip_storm, port_setWant_of_ne _ p .storm q other, State.port_congr (trip_ports s p _ _ _ _),
    port_enter_of_ne s _ other]

variable {s p} (opened : (s.port p).state = .opened)

include opened

theorem port_stormTrip : (s.limitingTrip p (.limit k) none).port p = { s.port p with
    state := .limited, holdOff := 0, calm := 0, decay := 0,
    wants := ((s.limitingTrip p (.limit k) none).port p).wants } := by
  rw [limitingTrip_storm, port_setWant_wants_only, State.port_congr (trip_ports s p _ _ _ _),
    port_enter_of_settled (by simp [opened]) (by simp [opened])]

theorem stormTrip_joined : PurposeJoined (fun q => decide (q = p)) (fun u => { u with storm := true }) s
    (s.limitingTrip p (.limit k) none) := by
  refine setWant_joined_after p .storm ?_ fun q => ?_
  · rw [trip_probes, probes_enter_of_settled (by simp [opened]) (by simp [opened])]
  · rw [State.port_congr (trip_ports s p _ _ _ _), wants_enter_of_settled (by simp [opened]) (by simp [opened])]

theorem stormTrip_control : (s.limitingTrip p (.limit k) none).control =
    { s.control with pendingGate := s.control.pendingGate.set p (some .limit) } := by
  have control : (s.limitingTrip p (.limit k) none).control = (s.trip p (.limit k) .limited none none).control :=
    onlyIn_wantStorm _ p .control (by decide)
  rw [control, trip_control, enter_control, opened]
  rfl

end StormTrip

/-! ### The report by the state of its port -/

section Acts

variable {s : State} {p : Port} {r : StepReport}

theorem actOnReport_of_ne (left : (s.port p).state ≠ .limited) : s.actOnReport p r = s.judgeReport p r := if_neg left

theorem actOnReport_of_limited (limited : (s.port p).state = .limited) :
    s.actOnReport p r = (s.judgeReport p r).takeCalmHold p := if_pos limited

theorem judgeReport_opened_severe {k : TrafficClass} (opened : (s.port p).state = .opened)
    (severe : r.severeClass (s.port p).role = some k) : s.judgeReport p r = s.blockingTrip p (.severe k) none none := by
  rw [State.judgeReport, opened, severe]

theorem judgeReport_opened_storm {k : TrafficClass} (opened : (s.port p).state = .opened)
    (mild : r.severeClass (s.port p).role = none) (storm : r.classes.first ClassReport.stormConfirmed = some k)
    (grace : r.grace = false) : s.judgeReport p r = s.limitingTrip p (.limit k) none := by
  rw [State.judgeReport, opened, mild, storm, grace]
  rfl

theorem judgeReport_opened_calm (opened : (s.port p).state = .opened) (mild : r.severeClass (s.port p).role = none)
    (calm : r.classes.first ClassReport.stormConfirmed = none) : s.judgeReport p r = s := by
  rw [State.judgeReport, opened, mild, calm]

theorem judgeReport_opened_grace (opened : (s.port p).state = .opened) (mild : r.severeClass (s.port p).role = none)
    (grace : r.grace = true) : s.judgeReport p r = s := by
  cases storm : r.classes.first ClassReport.stormConfirmed with
  | none => exact judgeReport_opened_calm opened mild storm
  | some k =>
    rw [State.judgeReport, opened, mild, storm, grace]
    rfl

theorem judgeReport_limited_severe {k : TrafficClass} (limited : (s.port p).state = .limited)
    (severe : r.severeClass (s.port p).role = some k) : s.judgeReport p r = s.blockingTrip p (.severe k) none none := by
  rw [State.judgeReport, limited, severe]

theorem judgeReport_limited_mild (limited : (s.port p).state = .limited) (mild : r.severeClass (s.port p).role = none) :
    s.judgeReport p r = s.countCalm p r := by
  rw [State.judgeReport, limited, mild]

theorem judgeReport_testing_severe {k : TrafficClass} (testing : (s.port p).state = .testing)
    (severe : r.severeClass (s.port p).role = some k) : s.judgeReport p r = s.blockingTrip p .retestSevere none none := by
  rw [State.judgeReport, testing, severe]

theorem judgeReport_testing_mild (testing : (s.port p).state = .testing) (mild : r.severeClass (s.port p).role = none) :
    s.judgeReport p r = s := by
  rw [State.judgeReport, testing, mild]

theorem actOnReport_priming (priming : (s.port p).state = .priming) : s.actOnReport p r = s.primingExit p := by
  rw [actOnReport_of_ne (by simp [priming]), State.judgeReport, priming]

theorem actOnReport_deaf (deaf : (s.port p).state ∈ [.down, .blocked, .held, .unguarded]) : s.actOnReport p r = s := by
  have left : (s.port p).state ≠ .limited := fun limited => by rw [limited] at deaf; revert deaf; decide
  rw [actOnReport_of_ne left]
  unfold State.judgeReport
  split <;> simp_all

/-- A blocking trip leaves LIMITED, so no calm hold is taken behind it. -/
theorem takeCalmHold_blockingTrip (c : Cause) : (s.blockingTrip p c none none).takeCalmHold p = s.blockingTrip p c none none := by
  refine takeCalmHold_left ?_
  rw [port_blockingTrip_self]
  intro limited
  have shut := shutState_shut s p
  rw [show s.shutState p = .limited from limited] at shut
  cases shut

/-- A calm count that reaches the calm hold is overwritten as the port reopens (R95). -/
theorem takeCalmHold_countCalm (limited : (s.port p).state = .limited) :
    let calm := if r.classes.all ClassReport.calm then (s.port p).calm + 1 else 0
    (s.countCalm p r).takeCalmHold p = if s.profile.calmHold ≤ calm then
        { s with ports := s.ports.set p { s.port p with state := .opened, holdOff := 0, calm := 0, decay := 0 },
                 control := { s.control with pendingGate := s.control.pendingGate.set p (some .pass) },
                 trips := removeTrip p s.trips,
                 mgmt := s.mgmt.raise (.recovered p .limited (s.port p).strikes s.timer.secondCount) }
      else { s with ports := s.ports.set p { s.port p with calm := calm } } := by
  intro calm
  have counted : (s.countCalm p r).port p = { s.port p with calm := calm } := State.port_setPort_self _ _ _
  have still : ((s.countCalm p r).port p).state = .limited := by rw [counted]; exact limited
  by_cases reached : s.profile.calmHold ≤ calm
  · have reaches : (s.countCalm p r).profile.calmHold ≤ ((s.countCalm p r).port p).calm := by rw [counted]; exact reached
    have ports : (s.countCalm p r).ports = s.ports.set p { s.port p with calm := calm } := rfl
    rw [if_pos reached, takeCalmHold_reached still reaches, reopen_of_limited still, counted, ports, Vector.set_set]
    rfl
  · have runs : ¬ (s.countCalm p r).profile.calmHold ≤ ((s.countCalm p r).port p).calm := by rw [counted]; exact reached
    rw [if_neg reached, takeCalmHold_running runs]
    rfl

end Acts

/-- Settles O35: the report's action in each state is the branch that its confirmed classes select there. -/
theorem stepReportActsByState : Obligations.StepReportActsByState := by
  refine ⟨fun s p r opened => ?_, fun s p r => ⟨fun limited mild => ?_, fun k limited severe => ?_,
    fun k testing severe => ?_, fun testing mild => ?_, fun priming primed => ⟨fun proved => ?_, fun looped => ?_, fun unset => ?_⟩,
    fun priming unprimed => ?_, actOnReport_deaf⟩⟩
  · have acts : s.actOnReport p r = s.judgeReport p r := actOnReport_of_ne (by simp [opened])
    rw [acts]
    refine ⟨fun k desk severe => judgeReport_opened_severe opened ((severeClass_of_desk desk).trans severe),
      fun k mild storm grace => ?_, fun mild still => ?_⟩
    · rw [judgeReport_opened_storm opened (severeClass_eq_none mild) storm grace]
      refine ⟨rfl, fun unlatched => ⟨⟨_, (stormTrip_evidence s p k).trans (trip_captures unlatched _ _ _ _), rfl, rfl, rfl⟩, ?_⟩,
        port_stormTrip k opened, stormTrip_joined k opened, stormTrip_control k opened, stormTrip_trips s p k,
        stormTrip_panel s p k, stormTrip_tripped s p k, port_stormTrip_of_ne s p k⟩
      rw [stormTrip_mgmt, unlatched]
    · exact still.elim (judgeReport_opened_calm opened (severeClass_eq_none mild))
        (judgeReport_opened_grace opened (severeClass_eq_none mild))
  · rw [actOnReport_of_limited limited, judgeReport_limited_mild limited mild]
    exact takeCalmHold_countCalm limited
  · rw [actOnReport_of_limited limited, judgeReport_limited_severe limited severe]
    exact takeCalmHold_blockingTrip _
  · rw [actOnReport_of_ne (by simp [testing]), judgeReport_testing_severe testing severe]
  · rw [actOnReport_of_ne (by simp [testing]), judgeReport_testing_mild testing mild]
  · rw [actOnReport_priming priming, primingExit_of_proved priming primed proved]
  · rw [actOnReport_priming priming, primingExit_of_looped priming primed looped]
    refine ⟨rfl, ?_, fun unlatched => ⟨_, congrArg EvidenceRecord.capture (trip_captures unlatched _ _ _ _), rfl, rfl⟩⟩
    rw [State.port_congr (trip_ports s p _ _ _ _), port_enter_self]
  · rw [actOnReport_priming priming, State.primingExit, if_pos ⟨priming, primed⟩, unset]
  · rw [actOnReport_priming priming, primingExit_of_unprimed unprimed]

end Sys2Proof.Machine
end

section
/-! LINK UP of a DOWN port (R33, R91). -/

namespace Sys2Proof.Machine

/-! ### The link field and the linkup result of a LINK record (R91, R92) -/

/-- A port with its link field set by a LINK record and its linkup result taken back. -/
def State.relinked (s : State) (p : Port) (up : Bool) : State :=
  s.setPort p { s.port p with linkUp := up, linkup := .unset }

theorem linkUp_eq (s : State) (p : Port) :
    s.linkUp p = (((s.enter p .priming).relinked p true).restartMeters p).setWant p .linkup := rfl

theorem linkDown_eq (s : State) (p : Port) :
    s.linkDown p = (((s.enter p .down).relinked p false).voidWants p).removeQueued p := rfl

theorem port_relinked_self (s : State) (p : Port) (up : Bool) :
    (s.relinked p up).port p = { s.port p with linkUp := up, linkup := .unset } := State.port_setPort_self s p _

theorem port_relinked_of_ne (s : State) (p : Port) (up : Bool) : OtherPortsKept p s (s.relinked p up) :=
  fun _ other => State.port_setPort_of_ne s p _ _ other.symm

theorem onlyIn_relinked (s : State) (p : Port) (up : Bool) : OnlyIn [.ports] s (s.relinked p up) := onlyIn_setPort s p _

theorem wants_relinked (s : State) (p : Port) (up : Bool) (q : Port) :
    ((s.relinked p up).port q).wants = (s.port q).wants := by
  by_cases same : q = p
  · rw [same, port_relinked_self]
  · rw [port_relinked_of_ne s p up q same]

theorem port_restartMeters (s : State) (p q : Port) : (s.restartMeters p).port q = s.port q := rfl

/-! ### The DOWN port (R91) -/

section LinkUp

variable (s : State) (p : Port)

theorem port_linkUp_of_ne : OtherPortsKept p s (s.linkUp p) := fun q other => by
  rw [linkUp_eq, port_setWant_of_ne _ p .linkup q other, port_restartMeters, port_relinked_of_ne _ p true q other,
    port_enter_of_ne s _ other]

/-- The meters restart as those of the port before the record: nothing else of LINK UP touches a meter or the profile. -/
theorem portMeters_linkUp (q : Port) : (s.linkUp p).portMeters q = (s.restartMeters p).portMeters q := by
  let v := (s.enter p .priming).relinked p true
  have entered : OnlyIn [.ports, .probes, .control, .trips] s v :=
    (onlyIn_enter s p .priming).trans ((onlyIn_relinked _ p true).mono (by decide))
  have meters : v.meters = s.meters := entered .meters (by decide)
  have profile : v.profile = s.profile := entered .profile (by decide)
  have restarted : (v.restartMeters p).meters = (s.restartMeters p).meters := by
    simp only [State.restartMeters, State.setPortMeters, State.setMeters, State.portMeters, meters, profile]
  exact State.portMeters_congr (Eq.trans (onlyIn_wantLinkup _ p .meters (by decide)) restarted) q

theorem portMeters_linkUp_self (k : TrafficClass) : ((s.linkUp p).portMeters p).get k =
    Meter.restartedWith (s.profile.meters.get k) ((s.portMeters p).get k).base := by
  rw [portMeters_linkUp, State.restartMeters, State.portMeters_setPortMeters_self, PerClass.get_build]
  rfl

theorem portMeters_linkUp_of_ne {q : Port} (other : q ≠ p) : (s.linkUp p).portMeters q = s.portMeters q := by
  rw [portMeters_linkUp, State.restartMeters, State.portMeters_setPortMeters_of_ne _ _ _ _ other.symm]

variable {s p} (down : (s.port p).state = .down)

include down

theorem port_linkUp : (s.linkUp p).port p = { s.port p with
    state := .priming, linkUp := true, linkup := .unset, holdOff := 0, calm := 0, decay := 0,
    wants := ((s.linkUp p).port p).wants } := by
  rw [linkUp_eq, port_setWant_wants_only, port_restartMeters, port_relinked_self,
    port_enter_of_settled (by simp [down]) (by simp [down])]

theorem linkUp_joined : PurposeJoined (fun q => decide (q = p)) (fun u => { u with linkup := true, linkupBroken := false }) s
    (s.linkUp p) := by
  rw [linkUp_eq]
  refine setWant_joined_after p .linkup ?_ fun q => ?_
  · exact probes_enter_of_settled (by simp [down]) (by simp [down]) .priming
  · rw [port_restartMeters, wants_relinked, wants_enter_of_settled (by simp [down]) (by simp [down])]

/-- DOWN and PRIMING are both SHUT, so no GATE change is pended. -/
theorem onlyIn_linkUp_of_down : OnlyIn [.ports, .meters, .probes, .trips] s (s.linkUp p) := by
  have entered : OnlyIn [.ports, .trips] s (s.enter p .priming) := by
    rw [enter_of_settled (by simp [down]) (by simp [down]), down]
    exact (onlyIn_setPort s p _).mono (by decide) |>.trans ((onlyIn_setTrips _ _).mono (by decide))
  refine (entered.mono (by decide)).trans (((onlyIn_relinked _ p true).mono (by decide)).trans ?_)
  exact ((onlyIn_restartMeters _ p).mono (by decide)).trans ((onlyIn_wantLinkup _ p).mono (by decide))

end LinkUp

theorem linkUp_trips (s : State) (p : Port) : (s.linkUp p).trips = removeTrip p s.trips :=
  Eq.trans (onlyIn_wantLinkup _ p .trips (by decide)) (enter_trips s p .priming)

theorem takeLink_up_of_down {s : State} {p : Port} (down : (s.port p).state = .down) : s.takeLink p true = s.linkUp p := by
  rw [State.takeLink, down]
  rfl

/-- Settles O26: after the record leaves the FIFO, the port enters PRIMING, its meters restart and LINKUP is set. -/
theorem linkUpPrimesDownPort : Obligations.LinkUpPrimesDownPort := by
  intro s p rest due head down
  let u := s.popFifo rest
  have frame : OnlyIn [.ports, .meters, .probes, .trips] u (u.linkUp p) := onlyIn_linkUp_of_down (s := u) down
  have run := (exec_linkDispatch due head).trans (congrArg Host.Outcome.next (takeLink_up_of_down (s := u) down))
  exact ⟨_, run, frame .receiver (by decide), port_linkUp (s := u) down,
    (linkUp_joined (s := u) down).congr_states ⟨rfl, rfl⟩ ⟨rfl, rfl⟩, portMeters_linkUp_self u p,
    fun q other => portMeters_linkUp_of_ne u p other, port_linkUp_of_ne u p, linkUp_trips u p,
    ((onlyIn_setReceiver s _).mono (by decide)).trans (frame.mono (by decide))⟩

end Sys2Proof.Machine
end

section
/-! LINK DOWN of a linked port: it enters DOWN, and the purposes of its want set and of its QUEUED entry conclude VOID as they
would in the state before (R77, R78, R81, R92, R112). -/

namespace Sys2Proof.Machine

/-! ### Purposes broken by leaving a state conclude VOID all the same (R77) -/

/-- A conclusion with VOID sees the SWEEP and the HOST of a purpose set alone. -/
theorem voided_congr {u w : Purposes} (sweep : u.sweep = w.sweep) (host : u.host = w.host) (p : Port) (s : State) :
    Voided p u s = Voided p w s := by
  unfold Voided
  rw [sweep, host]

/-- An entry with its purposes changed when the port is its origin. -/
def ProbeEntry.changedAt (p : Port) (f : Purposes → Purposes) (e : ProbeEntry) : ProbeEntry :=
  if e.origin = p then { e with purposes := f e.purposes } else e

theorem changedAt_same (p : Port) (f : Purposes → Purposes) (e : ProbeEntry) :
    (e.changedAt p f).tag = e.tag ∧ (e.changedAt p f).origin = e.origin ∧ (e.changedAt p f).expiry = e.expiry := by
  unfold ProbeEntry.changedAt
  split <;> exact ⟨rfl, rfl, rfl⟩

theorem map_changedAt_id (p : Port) (l : List ProbeEntry) : l.map (ProbeEntry.changedAt p id) = l := by
  refine (List.map_congr_left fun e _ => ?_).trans (List.map_id l)
  exact ite_self e

/-- Entering a state changes of the port's purposes the breaking alone, in its want set and in its entry. -/
theorem enter_purposes (s : State) (p : Port) (new : PortState) : ∃ f : Purposes → Purposes,
    (∀ u, (f u).sweep = u.sweep ∧ (f u).host = u.host) ∧ ((s.enter p new).port p).wants = f (s.port p).wants ∧
    (s.enter p new).probes.list = s.probes.list.map (ProbeEntry.changedAt p f) := by
  have broken : ∀ {f}, s.leaveState p = s.mapPurposes p f → ((s.enter p new).port p).wants = f (s.port p).wants ∧
      (s.enter p new).probes.list = s.probes.list.map (ProbeEntry.changedAt p f) := fun leaves => by
    obtain ⟨port, probes⟩ := enter_broken leaves new
    exact ⟨congrArg PortRecord.wants port, congrArg ProbeEngine.list probes⟩
  by_cases priming : (s.port p).state = .priming
  · exact ⟨Purposes.breakLinkup, fun _ => ⟨rfl, rfl⟩, broken (leaveState_of_priming priming)⟩
  by_cases testing : (s.port p).state = .testing
  · exact ⟨Purposes.breakRecover, fun _ => ⟨rfl, rfl⟩, broken (leaveState_of_testing testing)⟩
  · refine ⟨id, fun _ => ⟨rfl, rfl⟩, wants_enter_of_settled priming testing new p, ?_⟩
    rw [probes_enter_of_settled priming testing, map_changedAt_id]

/-! ### The want set and then the QUEUED entry concluded (R81, log 10) -/

theorem port_removeQueued_of_empty {a : State} {p : Port} (bare : (a.port p).wants = Purposes.empty) :
    (a.removeQueued p).port p = a.port p := by
  cases queued : a.queuedEntry p with
  | none => rw [removeQueued_of_none queued]
  | some e => rw [removeQueued_of_some queued]; exact port_voided_of_empty p e.purposes (s := a.withdraw e) bare

theorem pendingGate_removeQueued (a : State) (p : Port) :
    (a.removeQueued p).control.pendingGate = a.control.pendingGate := by
  cases queued : a.queuedEntry p with
  | none => rw [removeQueued_of_none queued]
  | some e =>
    have control : (Voided p e.purposes (a.withdraw e)).control = (a.withdraw e).control :=
      onlyIn_voided _ _ _ .control (by decide)
    rw [removeQueued_of_some queued, control]
    rfl

section Sound

variable {s b : State} {p : Port} (origins : (s.probes.list.map (·.origin)).Nodup) (tags : (s.probes.list.map (·.tag)).Nodup)

include origins tags

/-- From a state that agrees away from the port, with entries that conclude VOID alike, the want set and the QUEUED entry
conclude as they stood before, and no QUEUED entry is left. -/
theorem voided_removeQueued_agrees (start : AgreesOff p b s) {h : ProbeEntry → ProbeEntry}
    (kept : ∀ e, (h e).tag = e.tag ∧ (h e).origin = e.origin ∧ (h e).expiry = e.expiry)
    (alike : ∀ e r t, Voided r (h e).purposes t = Voided r e.purposes t) (entries : b.probes.list = s.probes.list.map h) :
    AgreesOff p ((Voided p (s.port p).wants b).removeQueued p) (VoidedPort p s) ∧
    ∀ y ∈ ((Voided p (s.port p).wants b).removeQueued p).probes.list, y.origin = p → y.expiry ≠ none := by
  have wanted := start.voided p (s.port p).wants
  obtain ⟨f, same, list, concludes⟩ := voided_entries p (s.port p).wants b
  generalize Voided p (s.port p).wants b = a at wanted list concludes
  rw [entries, List.map_map] at list
  have both : ∀ e, ((f ∘ h) e).tag = e.tag ∧ ((f ∘ h) e).origin = e.origin ∧ ((f ∘ h) e).expiry = e.expiry := fun e => by
    simp [same, kept]
  have found : a.queuedEntry p = (s.queuedEntry p).map (f ∘ h) := by
    rw [State.queuedEntry, list]
    exact find?_queued_map (fun e => (both e).2) p _
  have origins_a : (a.probes.list.map (·.origin)).Nodup := by
    simpa [list, Function.comp_def, same, kept] using origins
  have tags_a : (a.probes.list.map (·.tag)).Nodup := by simpa [list, Function.comp_def, same, kept] using tags
  unfold VoidedPort
  dsimp only
  cases queued : s.queuedEntry p with
  | none =>
    rw [queued, Option.map_none] at found
    rw [removeQueued_of_none found]
    exact ⟨wanted, (queuedEntry_isNone_iff a p).1 (by rw [found]; rfl)⟩
  | some e =>
    rw [queued, Option.map_some] at found
    obtain ⟨held, origin⟩ := queuedEntry_some found
    have void : Voided p ((f ∘ h) e).purposes (a.withdraw ((f ∘ h) e)) = Voided p e.purposes (a.withdraw ((f ∘ h) e)) :=
      (concludes (h e) p (a.withdraw ((f ∘ h) e)) rfl).trans (alike e p _)
    rw [removeQueued_of_some found, void]
    have withdrawn := (withdraw_agrees tags_a held origin).trans wanted
    refine ⟨withdrawn.voided p e.purposes, fun y hy at_p => ?_⟩
    obtain ⟨g, unmoved, left, -⟩ := voided_entries p e.purposes (a.withdraw ((f ∘ h) e))
    rw [left] at hy
    obtain ⟨x, hx, rfl⟩ := List.mem_map.1 hy
    exact absurd ((unmoved x).2.1 ▸ at_p) (withdraw_origins origins_a held origin x hx)

end Sound

/-! ### The port that is DOWN (R92) -/

/-- The port in DOWN with its link field and linkup result set and its want set taken, before its purposes conclude. -/
def State.linkClosed (s : State) (p : Port) : State :=
  (s.enter p .down).setPort p { s.port p with
    state := .down, linkUp := false, linkup := .unset, holdOff := 0, calm := 0, decay := 0, wants := Purposes.empty }

section LinkDown

variable (s : State) (p : Port)

theorem linkDown_closed : s.linkDown p = (Voided p (s.port p).wants (s.linkClosed p)).removeQueued p := by
  obtain ⟨f, same, wants, -⟩ := enter_purposes s p .down
  have closed : ((s.enter p .down).relinked p false).setPort p
      { ((s.enter p .down).relinked p false).port p with wants := Purposes.empty } = s.linkClosed p := by
    rw [port_relinked_self, port_enter_self, State.relinked, setPort_setPort]
    rfl
  have taken : (((s.enter p .down).relinked p false).port p).wants = f (s.port p).wants := by
    rw [wants_relinked, wants]
  rw [linkDown_eq, voidWants_eq, closed, taken, voided_congr (same _).1 (same _).2]

theorem onlyIn_linkClosed : OnlyIn [.ports, .probes, .control, .trips] s (s.linkClosed p) :=
  (onlyIn_setPort _ p _).step (by decide) (onlyIn_enter s p .down)

theorem port_linkClosed_self : (s.linkClosed p).port p = { s.port p with
    state := .down, linkUp := false, linkup := .unset, holdOff := 0, calm := 0, decay := 0, wants := Purposes.empty } :=
  State.port_setPort_self _ p _

theorem port_linkClosed_of_ne : OtherPortsKept p s (s.linkClosed p) := fun q other =>
  (State.port_setPort_of_ne _ p q _ other.symm).trans (port_enter_of_ne s _ other)

theorem linkClosed_agrees : AgreesOff p (s.linkClosed p) s :=
  (onlyIn_linkClosed s p).agreesOff (by decide) (port_linkClosed_of_ne s p) fun _ hy => mem_enter_of_ne .down hy

theorem port_linkDown_self : (s.linkDown p).port p = { s.port p with
    state := .down, linkUp := false, linkup := .unset, holdOff := 0, calm := 0, decay := 0, wants := Purposes.empty } := by
  have closed := port_linkClosed_self s p
  have bare : ((s.linkClosed p).port p).wants = Purposes.empty := by rw [closed]
  have wanted : (Voided p (s.port p).wants (s.linkClosed p)).port p = (s.linkClosed p).port p := port_voided_of_empty _ _ bare
  rw [linkDown_closed, port_removeQueued_of_empty (by rw [wanted, bare]), wanted, closed]

theorem linkDown_trips : (s.linkDown p).trips = removeTrip p s.trips := by
  have removed : (s.linkDown p).trips = (Voided p (s.port p).wants (s.linkClosed p)).trips := by
    rw [linkDown_closed]
    exact onlyIn_removeQueued _ p .trips (by decide)
  have wanted : (Voided p (s.port p).wants (s.linkClosed p)).trips = (s.linkClosed p).trips :=
    onlyIn_voided _ _ _ .trips (by decide)
  rw [removed, wanted]
  exact enter_trips s p .down

theorem linkDown_pendingGate : (s.linkDown p).control.pendingGate =
    if gateOf (s.port p).state = .shut then s.control.pendingGate else s.control.pendingGate.set p (some .shut) := by
  have wanted : (Voided p (s.port p).wants (s.linkClosed p)).control = (s.linkClosed p).control :=
    onlyIn_voided _ _ _ .control (by decide)
  have closed : (s.linkClosed p).control = (s.enter p .down).control := rfl
  rw [linkDown_closed, pendingGate_removeQueued, wanted, closed, enter_control]
  exact apply_ite Control.pendingGate _ _ _

theorem linkDown_agrees {s : State} (sound : ProbeListSound s) (p : Port) : AgreesOff p (s.linkDown p) (VoidedPort p s) ∧
    ∀ y ∈ (s.linkDown p).probes.list, y.origin = p → y.expiry ≠ none := by
  obtain ⟨-, origins, tags, -⟩ := sound
  obtain ⟨f, same, -, list⟩ := enter_purposes s p .down
  rw [linkDown_closed]
  refine voided_removeQueued_agrees origins tags (linkClosed_agrees s p) (changedAt_same p f) (fun e r t => ?_) list
  unfold ProbeEntry.changedAt
  split
  · exact voided_congr (same _).1 (same _).2 r t
  · rfl

end LinkDown

/-! ### LINK_DISPATCH (R90) -/

/-- The record taken from the FIFO is none of what a conclusion with VOID sees. -/
theorem voidedPort_popFifo_agrees (s : State) (rest : List SightingRecord) (p : Port) :
    AgreesOff p (VoidedPort p (s.popFifo rest)) (VoidedPort p s) := by
  have start : AgreesOff p (s.popFifo rest) s :=
    (onlyIn_popFifo s rest).agreesOff (by decide) (fun _ _ => rfl) fun _ _ => Iff.rfl
  have queue : (s.popFifo rest).queuedEntry p = s.queuedEntry p := rfl
  have wanted := start.voided p (s.port p).wants
  unfold VoidedPort
  dsimp only
  rw [queue]
  split
  · exact wanted.voided p _
  · exact wanted

theorem takeLink_down_of_linked {s : State} {p : Port}
    (linked : (s.port p).state ∈ [.priming, .opened, .limited, .blocked, .testing]) : s.takeLink p false = s.linkDown p := by
  unfold State.takeLink
  split <;> simp_all

/-- Of the linked states OPEN and LIMITED alone forward, so DOWN pends its GATE change for them (R88). -/
theorem gateOf_shut_of_linked {x : PortState} (linked : x ∈ [.priming, .opened, .limited, .blocked, .testing]) :
    gateOf x = .shut ↔ ¬ (x = .opened ∨ x = .limited) := by
  revert linked
  cases x <;> decide

/-- Settles O27: after the record leaves the FIFO, the port is closed and its purposes conclude VOID as they stood before. -/
theorem linkDownClosesPort : Obligations.LinkDownClosesPort := by
  intro s p rest due head linked sound
  let u := s.popFifo rest
  obtain ⟨closes, unqueued⟩ := linkDown_agrees (s := u) sound p
  have off : AgreesOff p (u.linkDown p) (VoidedPort p s) := closes.trans (voidedPort_popFifo_agrees s rest p)
  have run := (exec_linkDispatch due head).trans (congrArg Host.Outcome.next (takeLink_down_of_linked (s := u) linked))
  have frame : OnlyIn [.ports, .probes, .control, .trips, .mgmt, .sweep] u (u.linkDown p) := onlyIn_linkDown u p
  refine ⟨_, run, frame .receiver (by decide), port_linkDown_self u p,
    fun e among at_p => Option.isSome_iff_ne_none.2 (unqueued e among at_p), linkDown_trips u p, ?_, off.sweep, off.mgmt,
    fun q other => ⟨off.port q other, ?_⟩, off.entry, ((onlyIn_setReceiver s _).mono (by decide)).trans (frame.mono (by decide))⟩
  · have shut : gateOf (u.port p).state = .shut ↔ ¬ ((s.port p).state = .opened ∨ (s.port p).state = .limited) :=
      gateOf_shut_of_linked linked
    rw [linkDown_pendingGate, if_congr shut rfl rfl, ite_not]
    rfl
  · rw [off.port q other]
    exact port_voidedPort p s q

end Sys2Proof.Machine
end

section
/-! SWEEP and ABORT (R118 to R120, R122, R126): the first line of each table that applies, and the end of the
sweep in progress. -/

namespace Sys2Proof.Machine

/-! ### The end of a sweep, whatever its outcome (R120) -/

theorem endSweep_sweep (s : State) (r : SweepRecord) (e : SweepEnd) :
    (s.endSweep r e).sweep = { s.sweep with record := none } := by
  have kept : s.dropSweeps.sweep = s.sweep := onlyIn_dropSweeps s .sweep (by decide)
  exact congrArg (fun v : SweepScheduler => { v with record := none }) kept

theorem endSweep_mgmt (s : State) (r : SweepRecord) (e : SweepEnd) :
    (s.endSweep r e).mgmt = s.mgmt.raise (.sweepDone r e s.timer.secondCount) := by
  have kept : s.dropSweeps.mgmt = s.mgmt := onlyIn_dropSweeps s .mgmt (by decide)
  rw [State.endSweep, State.setSweep_mgmt, raise_mgmt, kept, State.second]

theorem port_endSweep (s : State) (r : SweepRecord) (e : SweepEnd) (q : Port) :
    (s.endSweep r e).port q = { s.port q with wants := { (s.port q).wants with sweep := none } } := by
  have ports : (s.endSweep r e).ports = s.dropSweeps.ports := rfl
  rw [State.port_congr ports, port_dropSweeps, Purposes.dropSweep]

theorem endSweep_list (s : State) (r : SweepRecord) (e : SweepEnd) : (s.endSweep r e).probes.list =
    s.probes.list.map fun x => { x with purposes := { x.purposes with sweep := none } } := dropSweeps_list s

/-! ### The start of a sweep (R118, R119) -/

section Start

variable (s : State) (host : Option Byte) (f l : Port)

theorem startSweep_sweep : (s.startSweep host f l).sweep = { s.sweep with
    number := s.sweep.number + 1,
    record := some { host := host, number := s.sweep.number + 1, first := f, last := l, next := f.val, pacing := 1,
                     admitted := 0, clear := 0, contained := 0, looped := 0, skipped := 0 } } := rfl

theorem port_startSweep (q : Port) : (s.startSweep host f l).port q = s.port q := rfl

theorem startSweep_probes : (s.startSweep host f l).probes = s.probes := rfl

theorem startSweep_mgmt : (s.startSweep host f l).mgmt = s.mgmt := rfl

end Start

/-! ### The lines of SWEEP (R122) -/

theorem toNat_of_portOf {b : Byte} {p : Port} (named : portOf b = some p) : b.toNat = p.val := by
  by_cases low : b.toNat < 40
  · rw [portOf, dif_pos low, Option.some_inj] at named
    exact congrArg Fin.val named
  · exact absurd ((portOf_of_ge (not_lt.1 low)).symm.trans named) nofun

theorem reqSweep_badPort {first last : Byte} (s : State) (tag : Byte)
    (bad : 40 ≤ first.toNat ∨ 40 ≤ last.toNat ∨ last.toNat < first.toNat) :
    s.reqSweep tag first last = s.refuse stBadPort := by
  unfold State.reqSweep
  split
  next f l named_f named_l =>
    have first_f := toNat_of_portOf named_f
    have last_l := toNat_of_portOf named_l
    have reversed : l < f := Fin.lt_def.2 (by omega)
    exact if_pos reversed
  next => rfl

section Lines

variable {s : State} {f l : Port} (tag : Byte) (range : f ≤ l)

include range

theorem reqSweep_of_none (idle : s.sweep.record = none) : s.reqSweep tag (portByte f) (portByte l) =
    (s.startSweep (some tag) f l, [0, s.sweep.number + 1, 0]) := by
  rw [State.reqSweep, portOf_portByte, portOf_portByte]
  dsimp only
  rw [if_neg (not_lt.2 range), idle]
  rfl

theorem reqSweep_of_some {r : SweepRecord} (record : s.sweep.record = some r) :
    s.reqSweep tag (portByte f) (portByte l) = if r.host.isSome then (s, busyBody r)
      else ((s.endSweep r .preempted).startSweep (some tag) f l, [0, s.sweep.number + 1, 1]) := by
  rw [State.reqSweep, portOf_portByte, portOf_portByte]
  dsimp only
  rw [if_neg (not_lt.2 range), record]
  rfl

theorem reqSweep_busy {r : SweepRecord} (record : s.sweep.record = some r) (host : r.host.isSome = true) :
    s.reqSweep tag (portByte f) (portByte l) = (s, busyBody r) := (reqSweep_of_some tag range record).trans (if_pos host)

theorem reqSweep_preempts {r : SweepRecord} (record : s.sweep.record = some r) (auto : r.host = none) :
    s.reqSweep tag (portByte f) (portByte l) =
      ((s.endSweep r .preempted).startSweep (some tag) f l, [0, s.sweep.number + 1, 1]) :=
  (reqSweep_of_some tag range record).trans (if_neg (by rw [auto]; exact Bool.false_ne_true))

end Lines

/-! ### The lines of ABORT (R126) -/

theorem reqAbort_of_none {s : State} (idle : s.sweep.record = none) : s.reqAbort = s.refuse stWrongState := by
  rw [State.reqAbort, idle]

theorem reqAbort_of_some {s : State} {r : SweepRecord} (record : s.sweep.record = some r) : s.reqAbort =
    (s.endSweep r .aborted, [stOk] ++ sweepOrigin r ++ [r.number, portByte r.first, portByte r.last] ++ sweepCounts r) := by
  rw [State.reqAbort, record]

/-- Settles O57: each line of SWEEP and of ABORT by its equation, and the sweep either of them ends by the rules of
`endSweep`. -/
theorem sweepRequestsStartAndEnd : Obligations.SweepRequestsStartAndEnd := by
  intro s tag takes
  let u := s.setMgmt s.mgmt.heard
  have sweep : ∀ (first last : Byte) (a : Answer), u.reqSweep tag first last = a →
      exec (.sweep tag first last) s = .next (a.fill 0x8F tag false) := fun first last a answer =>
    congrArg Host.Outcome.next ((closed_request_of_takes takes 0x0F tag false _).trans
      (congrArg (Answer.fill _ tag false) answer))
  have abort : ∀ a : Answer, u.reqAbort = a → exec (.abort tag) s = .next (a.fill 0x90 tag false) := fun a answer =>
    congrArg Host.Outcome.next ((closed_request_of_takes takes 0x10 tag false _).trans
      (congrArg (Answer.fill _ tag false) answer))
  refine ⟨fun first last bad => sweep first last _ (reqSweep_badPort u tag bad), fun f l range =>
    ⟨fun idle => sweep _ _ _ (reqSweep_of_none (s := u) tag range idle),
      fun r record host => sweep _ _ _ (reqSweep_busy (s := u) tag range record host), fun r record auto => ?_⟩,
    fun idle => abort _ (reqAbort_of_none (s := u) idle), fun r record => ?_⟩
  · have frame : OnlyIn [.sweep, .ports, .probes, .mgmt] u ((u.endSweep r .preempted).startSweep (some tag) f l) :=
      ((onlyIn_endSweep u r .preempted).mono (by decide)).trans ((onlyIn_startSweep _ (some tag) f l).mono (by decide))
    refine ⟨_, sweep _ _ _ (reqSweep_preempts (s := u) tag range record auto), ?_, fun q => ?_, ?_, ?_,
      onlyIn_answered _ tag false frame (by decide)⟩
    · refine (startSweep_sweep _ (some tag) f l).trans ?_
      rw [endSweep_sweep]
      rfl
    · exact (port_startSweep (u.endSweep r .preempted) (some tag) f l q).trans (port_endSweep u r .preempted q)
    · exact (congrArg ProbeEngine.list (startSweep_probes _ (some tag) f l)).trans (endSweep_list u r .preempted)
    · rw [fill_mgmt, startSweep_mgmt, endSweep_mgmt]
      rfl
  · refine ⟨_, abort _ (reqAbort_of_some (s := u) record), endSweep_sweep u r .aborted, port_endSweep u r .aborted,
      endSweep_list u r .aborted, ?_,
      onlyIn_answered _ tag false ((onlyIn_endSweep u r .aborted).mono (by decide)) (by decide)⟩
    rw [fill_mgmt, endSweep_mgmt]
    rfl

end Sys2Proof.Machine
end

section
/-! A latched capture stays: among the shared operations a trip alone writes an evidence record, and of a latched record it
moves the repeats alone (R130, R133, R134). -/

namespace Sys2Proof.Machine

/-! ### Captures that are kept -/

/-- Every capture that a port's evidence record holds in `s` it holds in `t`. -/
structure CapturesKept (s t : State) : Prop where
  capture : ∀ {p : Port} {x : Capture}, (s.evidenceOf p).capture = some x → (t.evidenceOf p).capture = some x

theorem CapturesKept.of_evidence {s t : State} (h : t.evidence = s.evidence) : CapturesKept s t :=
  ⟨fun {p _} latched => by rw [State.evidenceOf_congr h p, latched]⟩

theorem CapturesKept.refl (s : State) : CapturesKept s s := ⟨id⟩

theorem CapturesKept.trans {s t u : State} (h : CapturesKept s t) (k : CapturesKept t u) : CapturesKept s u :=
  ⟨fun latched => k.capture (h.capture latched)⟩

theorem CapturesKept.ite {s t u : State} {c : Prop} [Decidable c] (h : CapturesKept s t) (k : CapturesKept s u) :
    CapturesKept s (if c then t else u) := by
  split
  · exact h
  · exact k

theorem CapturesKept.foldl {α : Type} {f : State → α → State} (h : ∀ s a, CapturesKept s (f s a)) :
    ∀ (l : List α) (s : State), CapturesKept s (l.foldl f s)
  | [], s => .refl s
  | a :: l, s => (h s a).trans (CapturesKept.foldl h l (f s a))

/-- What does not touch the evidence keeps every capture. -/
theorem OnlyIn.capturesKept {parts : List Part} {s t : State} (frame : OnlyIn parts s t) (out : .evidence ∉ parts) :
    CapturesKept s t := .of_evidence (frame .evidence out)

/-! ### Trips (R98, R99, R103, R133, R134) -/

/-- A trip counts a repeat on a latched record of its port and leaves the records of the others. -/
theorem capturesKept_trip (s : State) (p : Port) (c : Cause) (e : PortState) (q : Option Port) (r : Option Half) :
    CapturesKept s (s.trip p c e q r) := by
  refine ⟨fun {x _} latched => ?_⟩
  by_cases own : x = p
  · subst own
    rw [trip_latched latched]
  · rw [trip_evidence_of_ne s c e q r own, latched]

theorem capturesKept_blockingTrip (s : State) (p : Port) (c : Cause) (q : Option Port) (r : Option Half) :
    CapturesKept s (s.blockingTrip p c q r) := by
  have set : ∀ (t : State) v, CapturesKept t (t.setPort p v) := fun t v => .of_evidence (State.setPort_evidence t p v)
  have struck : ∀ v e, CapturesKept s ((s.setPort p v).trip p c e q r) := fun v e =>
    (set s v).trans (capturesKept_trip _ p c e q r)
  exact .ite (struck _ .held) ((struck _ .blocked).trans (set _ _))

theorem capturesKept_limitingTrip (s : State) (p : Port) (c : Cause) (q : Option Port) :
    CapturesKept s (s.limitingTrip p c q) := by
  have tripped : CapturesKept s (s.trip p c .limited q none) := capturesKept_trip s p c .limited q none
  unfold State.limitingTrip
  dsimp only
  split
  · exact tripped.trans ((onlyIn_wantStorm _ p).capturesKept (by decide))
  · exact tripped

theorem capturesKept_enter (s : State) (p : Port) (new : PortState) : CapturesKept s (s.enter p new) :=
  (onlyIn_enter s p new).capturesKept (by decide)

theorem capturesKept_primingExit (s : State) (p : Port) : CapturesKept s (s.primingExit p) := by
  unfold State.primingExit
  split
  · split
    · exact .refl s
    · exact capturesKept_enter s p .opened
    · exact capturesKept_enter s p .opened
    · exact capturesKept_limitingTrip s p .trunkLoop none
  · exact .refl s

/-! ### Step reports (R30, R93 to R96) -/

theorem capturesKept_judgeReport (s : State) (p : Port) (r : StepReport) : CapturesKept s (s.judgeReport p r) := by
  unfold State.judgeReport
  split
  case h_1 =>
    split
    · exact capturesKept_blockingTrip s p _ none none
    · split
      · exact .ite (.refl s) (capturesKept_limitingTrip s p _ none)
      · exact .refl s
  case h_2 =>
    split
    · exact capturesKept_blockingTrip s p _ none none
    · exact (onlyIn_countCalm s p r).capturesKept (by decide)
  case h_3 =>
    split
    · exact capturesKept_blockingTrip s p _ none none
    · exact .refl s
  case h_4 => exact capturesKept_primingExit s p
  all_goals exact .refl s

theorem capturesKept_takeCalmHold (s : State) (p : Port) : CapturesKept s (s.takeCalmHold p) :=
  (onlyIn_takeCalmHold s p).capturesKept (by decide)

theorem capturesKept_handReport (s : State) (p : Port) : CapturesKept s (s.handReport p) := by
  have acted : ∀ r, CapturesKept s (s.actOnReport p r) := fun r =>
    .ite ((capturesKept_judgeReport s p r).trans (capturesKept_takeCalmHold _ p)) (capturesKept_judgeReport s p r)
  unfold State.handReport
  split
  · exact acted _
  · exact .refl s

theorem capturesKept_handUntilCalm : ∀ (l : List Port) (s : State), CapturesKept s (s.handUntilCalm l)
  | [], s => .refl s
  | p :: l, s => by
    unfold State.handUntilCalm
    split
    · exact (capturesKept_judgeReport s p _).trans (.ite (.of_evidence rfl) (capturesKept_handUntilCalm l _))
    · exact capturesKept_handUntilCalm l s

/-! ### Conclusions and proofs (R70 to R78, R93) -/

theorem capturesKept_conclude (s : State) (p : Port) (u : Purposes) (o : ProbeOutcome) (a : Option Port) :
    CapturesKept s (s.conclude p u o a) := by
  have linkup : CapturesKept s (s.concludeLinkup p u o) :=
    .ite (((onlyIn_setPort s p _).capturesKept (by decide)).trans (capturesKept_primingExit _ p)) (.refl s)
  have sweep := (onlyIn_concludeSweep (s.concludeLinkup p u o) u o).capturesKept (by decide)
  have recover := (onlyIn_concludeRecover ((s.concludeLinkup p u o).concludeSweep u o) p u o).capturesKept (by decide)
  exact ((linkup.trans sweep).trans recover).trans ((onlyIn_concludeHost _ p u o a).capturesKept (by decide))

theorem capturesKept_limitTrunk (s : State) (p : Port) (q : Option Port) : CapturesKept s (s.limitTrunk p q) :=
  .ite (capturesKept_limitingTrip s p .trunkLoop q) (.refl s)

theorem capturesKept_trunkLoop (s : State) (o x : Port) : CapturesKept s (s.trunkLoop o x) := by
  have raised : CapturesKept s (s.raise (.trunkLoop o x s.second)) := .of_evidence rfl
  have both : ∀ a b, CapturesKept s (((s.raise (.trunkLoop o x s.second)).limitTrunk a (some b)).limitTrunk b (some a)) :=
    fun a b => (raised.trans (capturesKept_limitTrunk _ a _)).trans (capturesKept_limitTrunk _ b _)
  exact .ite (raised.trans (capturesKept_limitTrunk _ o none)) (.ite (both o x) (both x o))

theorem capturesKept_resolve (s : State) (o x : Port) (recover : Bool) : CapturesKept s (s.resolve o x recover).1 := by
  unfold State.resolve
  dsimp only
  split
  · exact .refl s
  · split
    · exact capturesKept_blockingTrip s o _ _ none
    · split
      · exact .refl s
      · split
        · split
          · split
            · exact capturesKept_blockingTrip s x _ none none
            · exact capturesKept_blockingTrip s x _ _ none
          · exact .refl s
        · split
          · exact capturesKept_blockingTrip s o _ _ none
          · exact capturesKept_trunkLoop s o x

theorem capturesKept_setProbes (s : State) (v : ProbeEngine) : CapturesKept s (s.setProbes v) := .of_evidence rfl

theorem capturesKept_takeProbeExpiry (s : State) (o : Port) : CapturesKept s (s.takeProbeExpiry o) := by
  unfold State.takeProbeExpiry
  split
  · exact (capturesKept_setProbes s _).trans (capturesKept_conclude _ _ _ _ _)
  · exact .refl s

theorem capturesKept_matchedReturn (s : State) (e : ProbeEntry) (x : Port) : CapturesKept s (s.matchedReturn e x) :=
  ((capturesKept_setProbes s _).trans (capturesKept_resolve _ _ _ _)).trans (capturesKept_conclude _ _ _ _ _)

theorem capturesKept_unmatchedReturn (s : State) (x : Port) (o : Byte) (tag : Half) :
    CapturesKept s (s.unmatchedReturn x o tag) := by
  have counted := capturesKept_setProbes s (s.probes.countUnmatched tag)
  unfold State.unmatchedReturn
  dsimp only
  split
  · exact .ite (counted.trans (capturesKept_resolve _ _ _ _)) counted
  · exact counted

theorem capturesKept_foreignReturn (s : State) (x : Port) (room : Half) : CapturesKept s (s.foreignReturn x room) := by
  have counted := capturesKept_setProbes s { s.probes with foreign := sat16 s.probes.foreign }
  have raised : ∀ (t : State) n, CapturesKept t (t.raise n) := fun t n => (onlyIn_raise t n).capturesKept (by decide)
  unfold State.foreignReturn
  dsimp only
  split
  · split
    · exact (counted.trans (capturesKept_blockingTrip _ x .foreign none (some room))).trans (raised _ _)
    · exact counted.trans (raised _ _)
  · exact counted

theorem capturesKept_takeReturn (s : State) (x : Port) (room : Half) (o : Byte) (tag : Half) :
    CapturesKept s (s.takeReturn x room o tag) := by
  unfold State.takeReturn
  split
  · split
    · exact capturesKept_matchedReturn s _ x
    · exact capturesKept_unmatchedReturn s x o tag
  · exact .ite (capturesKept_setProbes s _) (capturesKept_foreignReturn s x room)

/-! ### The events of an expiry -/

/-- The ends of probe entries and the step reports bring trips about; no other event touches the evidence. -/
theorem capturesKept_takeEvent (s : State) : ∀ e, CapturesKept s (s.takeEvent e)
  | .second => (onlyIn_takeSecond s).capturesKept (by decide)
  | .fabricLost => (onlyIn_takeFabricLost s).capturesKept (by decide)
  | .calmHold p => capturesKept_takeCalmHold s p
  | .probeExpired o => capturesKept_takeProbeExpiry s o
  | .retireEnd => (onlyIn_takeRetireEnd s).capturesKept (by decide)
  | .holdOff p => (onlyIn_takeHoldOff s p).capturesKept (by decide)
  | .strikeDecay p => (onlyIn_takeStrikeDecay s p).capturesKept (by decide)
  | .grace => .of_evidence rfl
  | .autoSweep => (onlyIn_takeAutoSweep s).capturesKept (by decide)
  | .sweepTake => (onlyIn_takeSweepTake s).capturesKept (by decide)
  | .silPress => (onlyIn_takeSilPress s).capturesKept (by decide)
  | .relPress => (onlyIn_takeRelPress s).capturesKept (by decide)
  | .relRelease => (onlyIn_takeRelRelease s).capturesKept (by decide)
  | .silRelease => .refl s
  | .twoKey => (onlyIn_takeTwoKey s).capturesKept (by decide)
  | .buzzer => (onlyIn_takeBuzzerExpiry s).capturesKept (by decide)
  | .frameTimeout => (onlyIn_takeFrameTimeout s).capturesKept (by decide)
  | .linkBreak => (onlyIn_takeLinkBreak s).capturesKept (by decide)
  | .reports p => .foldl capturesKept_handReport (portsAbove p) s
  | .admission => (onlyIn_admit s).capturesKept (by decide)

theorem capturesKept_setDue (s : State) (l : List Event) : CapturesKept s (s.setDue l) := .of_evidence rfl

theorem capturesKept_takeDue (s : State) (e : Event) : CapturesKept s (s.takeDue e) :=
  .ite ((capturesKept_setDue s _).trans (capturesKept_takeEvent _ e)) (.refl s)

theorem capturesKept_finishReports (s : State) : CapturesKept s s.finishReports := .foldl capturesKept_takeDue _ s

theorem capturesKept_takeAfterReports (s : State) (e : Event) : CapturesKept s (s.takeAfterReports e) :=
  .ite ((capturesKept_finishReports s).trans (capturesKept_takeDue _ e)) (.refl s)

theorem capturesKept_admitWants (s : State) : CapturesKept s s.admitWants := (onlyIn_admit s).capturesKept (by decide)

theorem capturesKept_close (s : State) : CapturesKept s s.close := by
  have second := (capturesKept_finishReports s).trans (capturesKept_takeDue _ .second)
  have events := fun l => second.trans ((capturesKept_setDue _ []).trans (CapturesKept.foldl capturesKept_takeEvent l _))
  exact .ite ((events _).trans (capturesKept_admitWants _)) (events _)

theorem capturesKept_takeReopening (s : State) (p : Port) : CapturesKept s (s.takeReopening p) := by
  have resumed : CapturesKept s s.resumeReports := by
    unfold State.resumeReports
    split
    · exact .ite (.refl s) ((capturesKept_setDue s _).trans (capturesKept_handUntilCalm _ _))
    · exact .refl s
  exact .ite (capturesKept_takeDue s _) (.ite (resumed.trans (capturesKept_takeDue _ _)) (.refl s))

/-! ### The slot expiry (R1) -/

theorem capturesKept_stepPorts (s : State) : CapturesKept s s.stepPorts := (onlyIn_stepPorts s).capturesKept (by decide)

theorem capturesKept_meterWork (s : State) (first : Bool) : CapturesKept s (s.meterWork first) :=
  .ite (.refl s) ((capturesKept_stepPorts s).trans (.foldl capturesKept_handReport _ _))

theorem capturesKept_admission (s : State) : CapturesKept s s.admission :=
  (CapturesKept.foldl capturesKept_takeDue _ s).trans (capturesKept_admitWants _)

theorem capturesKept_slotWorks (s : State) (first : Bool) (order : ExpiryOrder) :
    CapturesKept s (s.slotWorks first order) := by
  have events : ∀ (t : State) place, CapturesKept t (t.eventsAt order place) := fun t _ =>
    .ite (capturesKept_close t) (.refl t)
  exact ((events s .before).trans (.ite (capturesKept_admission _) (capturesKept_meterWork _ first))).trans
    ((events _ .between).trans (.ite (capturesKept_meterWork _ first) (capturesKept_admission _)))

theorem capturesKept_leaveWorks (s : State) (first : Bool) : CapturesKept s (s.leaveWorks first) :=
  (CapturesKept.ite (c := first = true) (.refl s)
    ((capturesKept_stepPorts s).trans (capturesKept_handUntilCalm allPorts _))).trans (capturesKept_setDue _ _)

theorem capturesKept_slotExpiry (s : State) (lines : SlotLines) (order : ExpiryOrder) :
    CapturesKept s (s.slotExpiry lines order) := by
  have counted : CapturesKept s (s.close.countSlot lines) :=
    (capturesKept_close s).trans ((onlyIn_countSlot _ lines).capturesKept (by decide))
  exact .ite (counted.trans (capturesKept_leaveWorks _ _))
    (counted.trans ((capturesKept_slotWorks _ _ order).trans (capturesKept_close _)))

end Sys2Proof.Machine
end

section
/-! Every command but POWER_ON, EVIDENCE CLEAR and RESTART keeps every capture: the fabric link, the requests, the frame that
REQUEST_TAKE finds at the head of the queue, and the commands (R130, R133, R134, R137). -/

namespace Sys2Proof.Machine

/-! ### The fabric link (R4 to R19) -/

theorem evidence_receiveRecord (s : State) (bytes : List Byte) (extra : Nat) :
    (s.receiveRecord bytes extra).evidence = s.evidence := by
  have offered : ∀ r, (s.offerRecord r).evidence = s.evidence := fun r => by unfold State.offerRecord; split <;> rfl
  have resynced : s.resync.evidence = s.evidence := by unfold State.resync; dsimp only; split <;> rfl
  have taken : ∀ r, (s.takeGoodRecord r).evidence = s.evidence := fun r => by
    unfold State.takeGoodRecord
    split
    · cases r with
      | fill => rfl
      | good g => exact offered g
      | bad => rfl
    · cases r with
      | fill => exact resynced
      | good _ => rfl
      | bad => rfl
  unfold State.receiveRecord
  split
  · exact taken _
  · split <;> rfl

theorem evidence_dispatchTally (s : State) : s.dispatchTally.evidence = s.evidence := by
  unfold State.dispatchTally; split <;> rfl

theorem evidence_dispatchSample (s : State) : s.dispatchSample.evidence = s.evidence := by
  unfold State.dispatchSample
  split
  · exact onlyIn_learn (s.popFifo _) _ _ .evidence (by decide)
  · rfl

theorem evidence_dispatchLink (s : State) : s.dispatchLink.evidence = s.evidence := by
  unfold State.dispatchLink
  split
  · exact onlyIn_takeLink (s.popFifo _) _ _ .evidence (by decide)
  · rfl

/-- A returned probe may prove a loop, which trips a port (R70 to R75). -/
theorem capturesKept_dispatchProbe (s : State) : CapturesKept s s.dispatchProbe := by
  unfold State.dispatchProbe
  split
  · exact ((onlyIn_popFifo s _).capturesKept (by decide)).trans (capturesKept_takeReturn _ _ _ _ _)
  · exact .refl s

theorem evidence_grantMark (s : State) : s.grantMark.evidence = s.evidence := by
  unfold State.grantMark; split <;> rfl

theorem evidence_grantGate (s : State) : s.grantGate.evidence = s.evidence := by
  unfold State.grantGate
  split
  · split <;> rfl
  · rfl

theorem evidence_grantEmit (s : State) : s.grantEmit.evidence = s.evidence := by
  unfold State.grantEmit
  split
  · split <;> rfl
  · rfl

theorem evidence_grantRefresh (s : State) : s.grantRefresh.evidence = s.evidence := by
  unfold State.grantRefresh; split <;> rfl

/-! ### PROFILE SET and the meters (R39 to R44, R105, R177) -/

theorem onlyIn_applyProfile (s : State) (new : Profile) (roles : Vector Role 40) :
    OnlyIn [.ports, .probes, .control, .trips, .meters, .reports, .mgmt, .sweep, .profile, .panel] s
      (s.applyProfile new roles) := by
  have role : ∀ (t : State) p, OnlyIn [.ports, .probes, .control, .trips, .meters, .reports, .mgmt, .sweep] t
      (t.applyRole roles p) := fun t p => .ite (.refl _ t) (onlyIn_changeRole t p _)
  have lowered : ∀ t : State, OnlyIn [.ports] t t.lowerStrikes := fun t => onlyIn_setPorts t _
  have quiet : ∀ t : State, OnlyIn [.panel] t t.stopBuzzer := fun t => onlyIn_setPanel t _
  simp only [State.applyProfile]
  repeat' split
  all_goals
    repeat with_reducible first
      | apply OnlyIn.refl
      | (apply OnlyIn.step (quiet _); (· decide))
      | (apply OnlyIn.step (onlyIn_setSweep _ _); (· decide))
      | (apply OnlyIn.step (onlyIn_roomChanged _ _); (· decide))
      | (apply OnlyIn.step (lowered _); (· decide))
      | (apply OnlyIn.step (OnlyIn.foldl role _ _); (· decide))
      | (apply OnlyIn.step (onlyIn_setProfile _ _); (· decide))

theorem evidence_reqProfileSet (s : State) (b : ProfileBlock) : (s.reqProfileSet b).1.evidence = s.evidence := by
  unfold State.reqProfileSet
  split
  · exact onlyIn_applyProfile s _ _ .evidence (by decide)
  · rfl

theorem evidence_reqMeterSet (s : State) (b : MeterBlock) : (s.reqMeterSet b).1.evidence = s.evidence := by
  unfold State.reqMeterSet
  split
  · rfl
  · split
    · exact onlyIn_applyMeterSet s _ _ .evidence (by decide)
    · rfl

theorem evidence_reqBaselineSet (s : State) (port cls : Byte) (value : Half) :
    (s.reqBaselineSet port cls value).1.evidence = s.evidence := by
  unfold State.reqBaselineSet
  split
  · rfl
  · rfl
  · dsimp only
    split
    · rfl
    · exact onlyIn_seedBaselines s _ _ _ .evidence (by decide)

theorem evidence_reqGrace (s : State) (d : Half) : (s.reqGrace d).1.evidence = s.evidence := by
  have set : ∀ n, (s.setGrace n).evidence = s.evidence := State.setGrace_evidence s
  unfold State.reqGrace
  dsimp only
  split
  · split
    · exact set 0
    · rfl
  · split
    · exact set d.toNat
    · exact set 120

/-! ### The reads, the panel and the Station Table -/

theorem evidence_reqStatus (s : State) (option : Byte) : (s.reqStatus option).1.evidence = s.evidence := by
  unfold State.reqStatus
  split
  · rfl
  · split <;> rfl

theorem evidence_reqMeterGet (s : State) (cls : Byte) : (s.reqMeterGet cls).1.evidence = s.evidence := by
  unfold State.reqMeterGet; split <;> rfl

theorem evidence_reqPortGet (s : State) (port : Byte) : (s.reqPortGet port).1.evidence = s.evidence := by
  unfold State.reqPortGet; split <;> rfl

theorem evidence_reqEvidenceGet (s : State) (port : Byte) : (s.reqEvidenceGet port).1.evidence = s.evidence := by
  unfold State.reqEvidenceGet; split <;> rfl

theorem evidence_reqStationFind (s : State) (a : Address) : (s.reqStationFind a).1.evidence = s.evidence := by
  unfold State.reqStationFind; split <;> rfl

theorem evidence_reqStationPin (s : State) (a : Address) (port : Byte) :
    (s.reqStationPin a port).1.evidence = s.evidence := by
  unfold State.reqStationPin
  split
  · rfl
  · split <;> rfl

theorem evidence_reqStationUnpin (s : State) (a : Address) : (s.reqStationUnpin a).1.evidence = s.evidence := by
  unfold State.reqStationUnpin
  split
  · rfl
  · dsimp only
    split <;> rfl

theorem evidence_reqStationFlush (s : State) (port : Byte) : (s.reqStationFlush port).1.evidence = s.evidence := by
  unfold State.reqStationFlush; split <;> rfl

theorem evidence_reqPanelSet (s : State) (mask : BitVec 80) (value : Byte) :
    (s.reqPanelSet mask value).1.evidence = s.evidence := by
  unfold State.reqPanelSet
  split
  · rfl
  · exact State.setPanel_evidence s _

theorem evidence_reqPanelReturn (s : State) (mask : BitVec 80) : (s.reqPanelReturn mask).1.evidence = s.evidence :=
  State.setPanel_evidence s _

theorem evidence_reqNoticeMask (s : State) (mask : Half) : (s.reqNoticeMask mask).1.evidence = s.evidence := by
  unfold State.reqNoticeMask; split <;> rfl

/-! ### The requests of ports, checks and sweeps (R79, R106 to R109, R122, R126) -/

theorem evidence_reqPortRole (s : State) (port role : Byte) : (s.reqPortRole port role).1.evidence = s.evidence := by
  unfold State.reqPortRole
  split
  · rfl
  · rfl
  · dsimp only
    split
    · rfl
    · exact onlyIn_changeRole s _ _ .evidence (by decide)

theorem evidence_reqRelease (s : State) (port : Byte) : (s.reqRelease port).1.evidence = s.evidence := by
  unfold State.reqRelease
  split
  · rfl
  · split
    · exact onlyIn_release s _ .evidence (by decide)
    · rfl

theorem evidence_reqRoomRelease (s : State) : s.reqRoomRelease.1.evidence = s.evidence :=
  onlyIn_roomRelease s .evidence (by decide)

theorem evidence_reqCheck (s : State) (tag port : Byte) : (s.reqCheck tag port).1.evidence = s.evidence := by
  have wanted : ∀ p, (s.setWant p (.host tag)).evidence = s.evidence := fun p =>
    onlyIn_setWant s p _ .evidence (by decide)
  unfold State.reqCheck
  split
  · rfl
  · split
    · rfl
    · split
      · split
        · rfl
        · exact wanted _
      · split
        · exact wanted _
        · rfl

theorem evidence_reqSweep (s : State) (tag first last : Byte) : (s.reqSweep tag first last).1.evidence = s.evidence := by
  unfold State.reqSweep
  split
  · split
    · rfl
    · split
      · rfl
      · dsimp only
        split
        · rfl
        · exact Eq.trans (State.setSweep_evidence _ _) (onlyIn_endSweep s _ _ .evidence (by decide))
  · rfl

theorem evidence_reqAbort (s : State) : s.reqAbort.1.evidence = s.evidence := by
  unfold State.reqAbort
  split
  · rfl
  · exact onlyIn_endSweep s _ _ .evidence (by decide)

/-- BLOCK is the one request that trips a port (R106). -/
theorem capturesKept_reqBlock (s : State) (port : Byte) : CapturesKept s (s.reqBlock port).1 := by
  unfold State.reqBlock
  split
  · exact .refl s
  · split
    · exact .refl s
    · exact .refl s
    · exact capturesKept_trip s _ .host .held none none

/-! ### The request at the head of the queue (R158, R159) -/

/-- A frame of any kind but EVIDENCE CLEAR and RESTART keeps every capture. -/
theorem capturesKept_serve (s : State) {f : Frame} (noClear : f.kind ≠ 0x12) (noRestart : f.kind ≠ 0x1A) :
    CapturesKept s (s.serve f).1 := by
  unfold State.serve
  dsimp only
  split
  · exact .of_evidence (evidence_reqStatus s _)
  · exact .refl s
  · exact .of_evidence (evidence_reqProfileSet s _)
  · exact .of_evidence (evidence_reqMeterGet s _)
  · exact .of_evidence (evidence_reqMeterSet s _)
  · exact .of_evidence (evidence_reqBaselineSet s _ _ _)
  · exact .of_evidence (evidence_reqGrace s _)
  · exact .of_evidence (evidence_reqPortGet s _)
  · exact .of_evidence (evidence_reqPortRole s _ _)
  · exact capturesKept_reqBlock s _
  · exact .of_evidence (evidence_reqRelease s _)
  · exact .of_evidence (evidence_reqRoomRelease s)
  · exact .refl s
  · exact .of_evidence (evidence_reqCheck s _ _)
  · exact .of_evidence (evidence_reqSweep s _ _ _)
  · exact .of_evidence (evidence_reqAbort s)
  · exact .of_evidence (evidence_reqEvidenceGet s _)
  · exact absurd (BitVec.eq_of_toNat_eq ‹f.kind.toNat = 0x12›) noClear
  · exact .of_evidence (evidence_reqStationFind s _)
  · exact .of_evidence (evidence_reqStationPin s _ _)
  · exact .of_evidence (evidence_reqStationUnpin s _)
  · exact .of_evidence (evidence_reqStationFlush s _)
  · exact .of_evidence (evidence_reqPanelSet s _ _)
  · exact .of_evidence (evidence_reqPanelReturn s _)
  · exact .of_evidence (evidence_reqNoticeMask s _)
  · exact absurd (BitVec.eq_of_toNat_eq ‹f.kind.toNat = 0x1A›) noRestart
  · exact .refl s

theorem capturesKept_fill (a : Answer) (kind tag : Byte) (flush : Bool) : CapturesKept a.1 (a.fill kind tag flush) :=
  (onlyIn_fill a kind tag flush).capturesKept (by decide)

/-- No EVIDENCE CLEAR and no RESTART frame stands at the head of the request queue. -/
def KeepsEvidenceNext (requests : List Frame) : Prop :=
  ∀ f rest, requests = f :: rest → f.kind ≠ 0x12 ∧ f.kind ≠ 0x1A

theorem capturesKept_takeRequest {s : State} (next : KeepsEvidenceNext s.mgmt.requests) : CapturesKept s s.takeRequest := by
  have answered : ∀ (t : State) {f : Frame}, f.kind ≠ 0x12 → f.kind ≠ 0x1A → CapturesKept t (t.answerFrame f) :=
    fun t f noClear noRestart => by
      unfold State.answerFrame
      split
      · exact capturesKept_fill (t.refuse stBadKind) _ _ _
      · exact .ite ((capturesKept_serve t noClear noRestart).trans (capturesKept_fill _ _ _ _))
          (capturesKept_fill (t.refuse stBadLength) _ _ _)
  unfold State.takeRequest
  split
  · rename_i f rest _ head
    obtain ⟨noClear, noRestart⟩ := next f rest head
    exact ((onlyIn_setMgmt s _).capturesKept (by decide)).trans (answered _ noClear noRestart)
  · exact .refl s

/-! ### The request queue through the closing of an expiry (R158, R164) -/

/-- The request queue of `t` is that of `s`, or a link break has emptied it (R164). -/
def RequestsStand (s t : State) : Prop := t.mgmt.requests = s.mgmt.requests ∨ t.mgmt.requests = []

theorem RequestsStand.refl (s : State) : RequestsStand s s := .inl rfl

theorem RequestsStand.trans {s t u : State} (h : RequestsStand s t) (k : RequestsStand t u) : RequestsStand s u := by
  obtain same | empty := k
  · rw [RequestsStand, same]
    exact h
  · exact .inr empty

theorem RequestsStand.foldl {α : Type} {f : State → α → State} (h : ∀ s a, RequestsStand s (f s a)) :
    ∀ (l : List α) (s : State), RequestsStand s (l.foldl f s)
  | [], s => .refl s
  | a :: l, s => (h s a).trans (RequestsStand.foldl h l (f s a))

theorem OnlyIn.requestsStand {parts : List Part} {s t : State} (frame : OnlyIn parts s t) (out : .mgmt ∉ parts) :
    RequestsStand s t := .inl (congrArg Mgmt.requests (frame .mgmt out))

theorem RequestsStand.of_queues {s t : State} (h : t.ledger.queues = s.ledger.queues) : RequestsStand s t :=
  .inl (congrArg LinkQueues.requests h)

theorem RequestsStand.of_ledger {s t : State} (h : t.ledger = s.ledger) : RequestsStand s t :=
  .of_queues (congrArg Ledger.queues h)

theorem requestsStand_takeProbeExpiry (s : State) (o : Port) : RequestsStand s (s.takeProbeExpiry o) := by
  unfold State.takeProbeExpiry
  split
  · exact ((onlyIn_setProbes s _).requestsStand (by decide)).trans (.of_queues (by rw [ledger_conclude]))
  · exact .refl s

theorem requestsStand_takeSweepTake (s : State) : RequestsStand s s.takeSweepTake := by
  have put : ∀ (t : State) r, RequestsStand t (t.putSweep r) := fun t r => .of_queues (by rw [ledger_putSweep])
  have wanted : ∀ p n, RequestsStand s (s.setWant p (.sweep n)) := fun p n =>
    (onlyIn_wantSweep s p n).requestsStand (by decide)
  have taken : RequestsStand s s.takeSweepPort := by
    unfold State.takeSweepPort
    split
    · exact .refl s
    · split
      · dsimp only
        split
        · exact (wanted _ _).trans (put _ _)
        · exact put s _
      · exact .refl s
  unfold State.takeSweepTake
  split
  · split
    · exact taken
    · exact .refl s
  · exact .refl s

theorem requestsStand_takeLinkBreak (s : State) : RequestsStand s s.takeLinkBreak := by
  unfold State.takeLinkBreak
  split
  · exact .inr rfl
  · exact .refl s

theorem requestsStand_takeEvent (s : State) : ∀ e, RequestsStand s (s.takeEvent e)
  | .second => (onlyIn_takeSecond s).requestsStand (by decide)
  | .fabricLost => .of_ledger (ledger_takeFabricLost s)
  | .calmHold p => .of_ledger (ledger_takeCalmHold s p)
  | .probeExpired o => requestsStand_takeProbeExpiry s o
  | .retireEnd => (onlyIn_takeRetireEnd s).requestsStand (by decide)
  | .holdOff p => .of_ledger (ledger_takeHoldOff s p)
  | .strikeDecay p => .of_ledger (ledger_takeStrikeDecay s p)
  | .grace => .of_ledger (ledger_takeGraceEnd s)
  | .autoSweep => (onlyIn_takeAutoSweep s).requestsStand (by decide)
  | .sweepTake => requestsStand_takeSweepTake s
  | .silPress => .of_ledger (ledger_takeSilPress s)
  | .relPress => .of_ledger (ledger_takeRelPress s)
  | .relRelease => .of_ledger (ledger_takeRelRelease s)
  | .silRelease => .refl s
  | .twoKey => .of_ledger (ledger_takeTwoKey s)
  | .buzzer => .of_ledger (ledger_takeBuzzerExpiry s)
  | .frameTimeout => .of_ledger (ledger_takeFrameTimeout s)
  | .linkBreak => requestsStand_takeLinkBreak s
  | .reports p => .of_ledger (ledger_foldl ledger_handReport (portsAbove p) s)
  | .admission => (onlyIn_admit s).requestsStand (by decide)

theorem requestsStand_takeDue (s : State) (e : Event) : RequestsStand s (s.takeDue e) := by
  unfold State.takeDue
  split
  · exact (RequestsStand.of_ledger (ledger_setDue s _)).trans (requestsStand_takeEvent _ e)
  · exact .refl s

/-- Closing an expiry leaves the request queue as it stands, or empty after a link break. -/
theorem requestsStand_close (s : State) : RequestsStand s s.close := by
  have second : RequestsStand s (s.finishReports.takeDue .second) :=
    (RequestsStand.foldl requestsStand_takeDue _ s).trans (requestsStand_takeDue _ .second)
  have events := fun l => second.trans
    ((RequestsStand.of_ledger (ledger_setDue _ [])).trans (RequestsStand.foldl requestsStand_takeEvent l _))
  unfold State.close
  dsimp only
  split
  · exact (events _).trans ((onlyIn_admit _).requestsStand (by decide))
  · exact events _

/-- The frame that REQUEST_TAKE serves stood at the head of the queue before the expiry was closed. -/
theorem RequestsStand.keepsEvidenceNext {s t : State} (stand : RequestsStand s t)
    (next : KeepsEvidenceNext s.mgmt.requests) : KeepsEvidenceNext t.mgmt.requests := by
  obtain same | empty := stand
  · rw [same]
    exact next
  · intro f rest head
    rw [empty] at head
    cases head

/-! ### The commands -/

theorem capturesKept_closed_request (s : State) (kind tag : Byte) (flush : Bool) {f : State → Answer}
    (h : ∀ t, CapturesKept t (f t).1) : CapturesKept s (s.close.request kind tag flush f) := by
  have heard : CapturesKept s.close (s.close.setMgmt s.close.mgmt.heard) := .of_evidence rfl
  exact (capturesKept_close s).trans (.ite ((heard.trans (h _)).trans (capturesKept_fill _ _ _ _)) (.refl _))

theorem capturesKept_exec {c : Instr} {s t : State} (run : exec c s = .next t) (noPower : ∀ straps, c ≠ .powerOn straps)
    (noClear : ∀ tag port, c ≠ .evidenceClear tag port) (noRestart : ∀ tag mode, c ≠ .restart tag mode)
    (next : c = .requestTake → KeepsEvidenceNext s.mgmt.requests) : CapturesKept s t := by
  have closed : ∀ {u : State}, CapturesKept s.close u → CapturesKept s u := (capturesKept_close s).trans
  have kept : ∀ {u : State}, u.evidence = s.close.evidence → CapturesKept s u := fun h => closed (.of_evidence h)
  have request := capturesKept_closed_request s
  have edit : ∀ (kind tag : Byte) {f : State → Answer}, (∀ u, (f u).1.evidence = u.evidence) →
      CapturesKept s (s.close.request kind tag false f) := fun kind tag _ h =>
    request kind tag false fun u => .of_evidence (h u)
  cases c <;> obtain rfl := Host.Outcome.next.inj run
  case powerOn straps => exact absurd rfl (noPower straps)
  case evidenceClear tag port => exact absurd rfl (noClear tag port)
  case restart tag mode => exact absurd rfl (noRestart tag mode)
  case slotExpiry lines order => exact capturesKept_slotExpiry s lines order
  case secondExpiry => exact capturesKept_takeAfterReports s _
  case fabricLost | retirePeriodEnd | holdOffExpiry | strikeDecay | graceExpiry | autoSweepTimerExpiry | sweepTakePort |
      silPress | relPress | relRelease | keyReleaseSil | twoKeyRoomRelease | buzzerExpiry | frameTimeout | linkBreak =>
    exact capturesKept_takeDue s _
  case calmHoldReached p => exact capturesKept_takeReopening s p
  case probeExpiry o =>
    split
    · exact capturesKept_takeAfterReports s _
    · exact .refl s
  case sightingRecordReceive bytes extra => exact kept (evidence_receiveRecord _ bytes extra)
  case tallyDispatch => exact kept (evidence_dispatchTally _)
  case sampleDispatch => exact kept (evidence_dispatchSample _)
  case probeDispatch => exact closed (capturesKept_dispatchProbe _)
  case linkDispatch => exact kept (evidence_dispatchLink _)
  case slotMarkGrant => exact kept (evidence_grantMark _)
  case gateChangeGrant => exact kept (evidence_grantGate _)
  case emitGrant => exact kept (evidence_grantEmit _)
  case refreshGateGrant => exact kept (evidence_grantRefresh _)
  case mlCharacterReceive | breakWaitEnd | replySent | noticeSend | noticeFrameEnd | scanNextCommon => exact kept rfl
  case requestTake =>
    exact closed (capturesKept_takeRequest ((requestsStand_close s).keepsEvidenceNext (next rfl)))
  case status tag option => exact edit _ _ fun u => evidence_reqStatus u option
  case profileGet | tripList => exact edit _ _ fun _ => rfl
  case profileSet tag b => exact edit _ _ fun u => evidence_reqProfileSet u b
  case meterGet tag cls => exact edit _ _ fun u => evidence_reqMeterGet u cls
  case meterSet tag b => exact edit _ _ fun u => evidence_reqMeterSet u b
  case baselineSet tag port cls value => exact edit _ _ fun u => evidence_reqBaselineSet u port cls value
  case grace tag d => exact edit _ _ fun u => evidence_reqGrace u d
  case portGet tag port => exact edit _ _ fun u => evidence_reqPortGet u port
  case portRole tag port role => exact edit _ _ fun u => evidence_reqPortRole u port role
  case block tag port => exact request _ _ _ fun u => capturesKept_reqBlock u port
  case release tag port => exact edit _ _ fun u => evidence_reqRelease u port
  case roomRelease => exact edit _ _ evidence_reqRoomRelease
  case check tag port => exact edit _ _ fun u => evidence_reqCheck u tag port
  case sweep tag first last => exact edit _ _ fun u => evidence_reqSweep u tag first last
  case abort => exact edit _ _ evidence_reqAbort
  case evidenceGet tag port => exact edit _ _ fun u => evidence_reqEvidenceGet u port
  case stationFind tag a => exact edit _ _ fun u => evidence_reqStationFind u a
  case stationPin tag a port => exact edit _ _ fun u => evidence_reqStationPin u a port
  case stationUnpin tag a => exact edit _ _ fun u => evidence_reqStationUnpin u a
  case stationFlush tag port => exact edit _ _ fun u => evidence_reqStationFlush u port
  case panelSet tag mask value => exact edit _ _ fun u => evidence_reqPanelSet u mask value
  case panelReturn tag mask => exact edit _ _ fun u => evidence_reqPanelReturn u mask
  case noticeMask tag mask => exact edit _ _ fun u => evidence_reqNoticeMask u mask

/-- Settles O11: a trip counts a repeat on a latched record, every other operation of these commands leaves the evidence as it
stands, and closing the expiry leaves the frame that REQUEST_TAKE serves at the head of the queue. -/
theorem latchedEvidenceStaysUntilCleared : Obligations.LatchedEvidenceStaysUntilCleared :=
  fun _ _ _ run noPower noClear noRestart next _ _ latched =>
    (capturesKept_exec run noPower noClear noRestart next).capture latched

end Sys2Proof.Machine
end

section
/-! The cells of the teacher panel and the scan that drives them (R139 to R143). -/

namespace Sys2Proof.Machine

/-! ### Bits gathered by summing their weights (R139, R144) -/

theorem sum_weights_eq_ofBits : ∀ {n : Nat} (f : Fin n → Bool),
    ((List.finRange n).map fun k => if f k then 2 ^ k.val else 0).sum = Nat.ofBits f
  | 0, _ => rfl
  | n + 1, f => by
    have weight : ∀ k : Fin n, (if f k.succ then 2 ^ k.succ.val else 0) = 2 * if f k.succ then 2 ^ k.val else 0 := fun k => by
      rw [Fin.val_succ, Nat.pow_succ', mul_ite, mul_zero]
    have higher : (((List.finRange n).map Fin.succ).map fun k => if f k then 2 ^ k.val else 0).sum =
        2 * Nat.ofBits (f ∘ Fin.succ) := by
      rw [List.map_map, ← sum_weights_eq_ofBits, ← List.sum_map_mul_left]
      exact congrArg List.sum (List.map_congr_left fun k _ => weight k)
    have lowest : (if f 0 then 2 ^ (0 : Fin (n + 1)).val else 0) = (f 0).toNat := by cases f 0 <;> rfl
    rw [List.finRange_succ, List.map_cons, List.sum_cons, higher, lowest, Nat.ofBits_succ, Nat.add_comm]

theorem getLsbD_sum_weights {n : Nat} (f : Fin n → Bool) (i : Fin n) :
    (BitVec.ofNat n ((List.finRange n).map fun k => if f k then 2 ^ k.val else 0).sum).getLsbD i.val = f i := by
  rw [sum_weights_eq_ofBits, BitVec.getLsbD_ofNat, Nat.testBit_ofBits_lt f i.val i.isLt, decide_eq_true i.isLt, Bool.true_and]

theorem hostMask_bit (cells : Vector Cell 80) (c : Fin 80) : (hostMask cells).getLsbD c.val = cells[c].hostOwned :=
  getLsbD_sum_weights (fun n => cells[n].hostOwned) c

/-! ### The scan (R139 to R143) -/

theorem segments_bit (s : State) (c : Nat) {k : Nat} (low : k < 10) : (s.segments c).getLsbD k = s.segmentDriven c k := by
  have range : (List.range 10).map (fun k => if s.segmentDriven c k then 2 ^ k else 0) =
      (List.finRange 10).map fun k : Fin 10 => if s.segmentDriven c k.val then 2 ^ k.val else 0 := rfl
  rw [State.segments, range]
  exact getLsbD_sum_weights (fun k : Fin 10 => s.segmentDriven c k.val) ⟨k, low⟩

theorem segmentDriven_iff (s : State) (c k : Nat) : s.segmentDriven c k = true ↔
    ∃ h : 10 * c + k < 80, lit (s.cellValue ⟨10 * c + k, h⟩) s.timer.slotCount = true := by
  unfold State.segmentDriven
  split
  · exact ⟨fun driven => ⟨‹_›, driven⟩, fun ⟨_, driven⟩ => driven⟩
  · exact ⟨nofun, fun ⟨h, _⟩ => absurd h ‹_›⟩

theorem cellValue_of_host {s : State} {n : Fin 80} (host : s.panel.cells[n].hostOwned = true) :
    s.cellValue n = s.panel.cells[n].value := if_pos host

theorem cellValue_of_auto {s : State} {n : Fin 80} (auto : s.panel.cells[n].hostOwned = false) :
    s.cellValue n = s.autoValue n := if_neg (by rw [auto]; exact Bool.false_ne_true)

theorem autoValue_red (s : State) (p : Port) : s.autoValue ⟨p.val, by omega⟩ = redValue (s.port p).state := dif_pos p.isLt

theorem autoValue_green (s : State) (p : Port) : s.autoValue ⟨40 + p.val, by omega⟩ = greenValue (s.port p).state := by
  have own : (⟨40 + p.val - 40, by omega⟩ : Port) = p := Fin.ext (Nat.add_sub_cancel_left 40 p.val)
  rw [State.autoValue, dif_neg (by simp), own]

theorem scanNext_of_within {s : State} (within : s.panel.scan.common + 1 < s.panel.scan.duty) :
    s.scanNext = s.setPanel { s.panel with scan := { s.panel.scan with
      common := s.panel.scan.common + 1, segments := s.segments (s.panel.scan.common + 1) } } := by
  simp [State.scanNext, Nat.not_le.2 within]

theorem scanNext_of_last {s : State} (last : s.panel.scan.duty ≤ s.panel.scan.common + 1) :
    s.scanNext = s.setPanel { s.panel with
      scan := { common := 0, duty := s.profile.panelDuty, segments := s.segments 0 } } := by
  simp [State.scanNext, last]

theorem exec_scanNextCommon {s : State} (due : s.due = []) : exec .scanNextCommon s = .next s.scanNext := by
  rw [← congrArg State.scanNext (close_of_due_nil s due)]
  rfl

/-- Settles O43: a segment is the bit of its cell, a cell is read by its owner, and the scan goes on or wraps. -/
theorem scanDrivesLitCells : Obligations.ScanDrivesLitCells := by
  refine ⟨fun s c k low => ⟨?_, fun n => cellValue_of_host, fun p auto => ?_, fun p auto => ?_, fun x => ⟨?_, ?_, rfl, rfl⟩⟩,
    fun s due => ⟨fun within => ?_, fun last => ?_⟩, fun x => ?_⟩
  · rw [segments_bit s c low]
    exact segmentDriven_iff s c k
  · exact (cellValue_of_auto (n := ⟨p.val, by omega⟩) auto).trans (autoValue_red s p)
  · exact (cellValue_of_auto (n := ⟨40 + p.val, by omega⟩) auto).trans (autoValue_green s p)
  · exact decide_eq_true_iff
  · exact decide_eq_true_iff
  · rw [exec_scanNextCommon due, scanNext_of_within within]; rfl
  · rw [exec_scanNextCommon due, scanNext_of_last last]; rfl
  · cases x <;> rfl

end Sys2Proof.Machine
end

section
/-! The requests of the panel cells and of the notice mask (R144, R145, R172). -/

namespace Sys2Proof.Machine

/-! ### PANEL SET and PANEL RETURN (R144, R145) -/

theorem cellValueOf_of_ge {b : Byte} (high : 4 ≤ b.toNat) : cellValueOf b = none := by
  unfold cellValueOf
  split
  · omega
  · omega
  · omega
  · omega
  · rfl

theorem getElem_lendCells (mask : BitVec 80) (v : CellValue) (cells : Vector Cell 80) (c : Fin 80) :
    (lendCells mask v cells)[c] = if mask.getLsbD c.val then { hostOwned := true, value := v } else cells[c] :=
  Vector.getElem_ofFn ..

theorem getElem_returnCells (mask : BitVec 80) (cells : Vector Cell 80) (c : Fin 80) :
    (returnCells mask cells)[c] = if mask.getLsbD c.val then { hostOwned := false, value := .off } else cells[c] :=
  Vector.getElem_ofFn ..

theorem countCells_all (mask : BitVec 80) (cells : Vector Cell 80) : countCells mask (fun _ => true) cells =
    ((List.finRange 80).filter fun c : Fin 80 => mask.getLsbD c.val).length := by
  simp only [countCells, Bool.and_true]

theorem reqPanelSet_of_unknown (s : State) (mask : BitVec 80) {value : Byte} (unknown : cellValueOf value = none) :
    s.reqPanelSet mask value = (s, [10]) := by
  rw [State.reqPanelSet, unknown]; rfl

theorem reqPanelSet_of_known (s : State) (mask : BitVec 80) {value : Byte} {v : CellValue}
    (known : cellValueOf value = some v) : s.reqPanelSet mask value =
      (s.setPanel { s.panel with cells := lendCells mask v s.panel.cells },
        [0, natByte ((List.finRange 80).filter fun c : Fin 80 => mask.getLsbD c.val).length] ++
          cellMaskBytes (hostMask (lendCells mask v s.panel.cells))) := by
  rw [State.reqPanelSet, known, ← countCells_all mask s.panel.cells]; rfl

/-! ### NOTICE MASK (R172) -/

/-- No flag of a mask is outside the eleven kinds exactly when none stands from bit 11 on. -/
theorem mask_within_kinds (mask : Half) : mask &&& ~~~fullMask = 0 ↔ ∀ j, 11 ≤ j → mask.getLsbD j = false := by
  have outside : ∀ j < 16, (~~~fullMask).getLsbD j = decide (11 ≤ j) := by decide
  have clear : ∀ j, (0 : Half).getLsbD j = false := fun _ => BitVec.getLsbD_zero
  constructor
  · intro none j high
    by_cases wide : j < 16
    · have bit := congrArg (BitVec.getLsbD · j) none
      simpa only [BitVec.getLsbD_and, outside j wide, high, decide_true, Bool.and_true, clear] using bit
    · exact BitVec.getLsbD_of_ge mask j (Nat.not_lt.1 wide)
  · intro low
    refine BitVec.eq_of_getLsbD_eq fun j wide => ?_
    rw [BitVec.getLsbD_and, outside j wide, clear]
    by_cases high : 11 ≤ j
    · rw [low j high, Bool.false_and]
    · rw [decide_eq_false high, Bool.and_false]

theorem reqNoticeMask_of_outside (s : State) {mask : Half} (outside : ∃ j, 11 ≤ j ∧ mask.getLsbD j = true) :
    s.reqNoticeMask mask = (s, [10]) := by
  obtain ⟨j, high, flag⟩ := outside
  exact if_neg fun within => Bool.false_ne_true ((mask_within_kinds mask |>.1 within j high).symm.trans flag)

theorem reqNoticeMask_of_kinds (s : State) {mask : Half} (kinds : ∀ j, 11 ≤ j → mask.getLsbD j = false) :
    s.reqNoticeMask mask = (s.setMgmt (s.mgmt.setMask mask),
      [0] ++ halfBytes mask ++ [natByte (s.mgmt.queue.filter fun q => !kindEnabled mask q.notice).length]) :=
  if_pos ((mask_within_kinds mask).2 kinds)

/-- A request whose answer leaves other cells: the panel keeps all else, and the reply fills the slot. -/
theorem closed_request_sets_cells {s : State} (takes : TakesRequests s) (kind tag : Byte) {f : State → Answer}
    {cells : Vector Cell 80} {body : List Byte}
    (answer : f (s.setMgmt s.mgmt.heard) = ((s.setMgmt s.mgmt.heard).setPanel { s.panel with cells := cells }, body)) :
    (s.close.request kind tag false f).panel = { s.panel with cells := cells } ∧
    (s.close.request kind tag false f).mgmt =
      s.mgmt.heard.fillReply { kind := kind + 0x80, tag := tag, body := body, flush := false } ∧
    OnlyIn [.panel, .mgmt] s (s.close.request kind tag false f) := by
  rw [closed_request_of_takes takes, answer]
  exact ⟨rfl, rfl, onlyIn_answered _ tag false ((onlyIn_setPanel _ _).mono (by decide)) (by decide)⟩

/-- Settles O59: each request by the branch of its operands, the reply's mask being that of the cells it leaves. -/
theorem cellsAndNoticeMaskAreSet : Obligations.CellsAndNoticeMaskAreSet := by
  intro s tag takes
  refine ⟨fun mask value high => ?_, fun mask value v known => ?_, fun mask => ?_, fun mask outside => ?_, fun mask kinds => ?_⟩
  · exact congrArg Host.Outcome.next (closed_request_replied takes 0x17 tag
      (reqPanelSet_of_unknown _ mask (cellValueOf_of_ge high)))
  · obtain ⟨panel, mgmt, frame⟩ := closed_request_sets_cells takes 0x17 tag
      (f := fun t => t.reqPanelSet mask value) (reqPanelSet_of_known _ mask known)
    refine ⟨_, _, hostMask (lendCells mask v s.panel.cells), rfl, ?_, fun c => ?_, mgmt, rfl, fun c => ?_, frame⟩
    · rw [panel]
    · rw [panel]; exact getElem_lendCells mask v s.panel.cells c
    · rw [panel]; exact hostMask_bit _ c
  · obtain ⟨panel, mgmt, frame⟩ := closed_request_sets_cells takes 0x18 tag
      (f := fun t => t.reqPanelReturn mask) (cells := returnCells mask s.panel.cells) rfl
    refine ⟨_, _, hostMask (returnCells mask s.panel.cells), rfl, ?_, fun c => ?_, mgmt, rfl, fun c => ?_, frame⟩
    · rw [panel]
    · rw [panel]; exact getElem_returnCells mask s.panel.cells c
    · rw [panel]; exact hostMask_bit _ c
  · exact congrArg Host.Outcome.next (closed_request_replied takes 0x19 tag (reqNoticeMask_of_outside _ outside))
  · exact congrArg Host.Outcome.next (closed_request_replied takes 0x19 tag (t := s.setMgmt (s.mgmt.setMask mask))
      (reqNoticeMask_of_kinds _ kinds))

end Sys2Proof.Machine
end

section
/-! The key filters, the counters of the keys and the buzzer at a slot expiry, the events that they bring about, and the SIL key
(R146 to R152). -/

namespace Sys2Proof.Machine

/-! ### The SIL key (R148) -/

theorem exec_silPress (s : State) : exec .silPress s = .next (s.takeDue .silPress) := rfl

theorem exec_keyReleaseSil (s : State) : exec .keyReleaseSil s = .next (s.takeDue .silRelease) := rfl

/-- Settles O40: each row takes its event from the due list, and only the press has an effect. -/
theorem silenceKeyStopsBuzzer : Obligations.SilenceKeyStopsBuzzer := by
  intro s
  refine ⟨fun due => ?_, fun due => ?_⟩
  · rw [exec_silPress, takeDue_of_mem due]; rfl
  · rw [exec_keyReleaseSil, takeDue_of_mem due]; rfl

/-! ### Key filters (R146) -/

theorem sample_same (f : KeyFilter) : f.sample f.pressed = ({ f with run := 0 }, false) := if_pos rfl

theorem sample_against_of_short {f : KeyFilter} (short : f.run + 1 < 20) :
    f.sample (!f.pressed) = ({ f with run := f.run + 1 }, false) := by
  rw [KeyFilter.sample, if_neg (Bool.not_ne_self _), if_neg (Nat.not_le.2 short)]

theorem sample_against_of_twentieth {f : KeyFilter} (twentieth : 20 ≤ f.run + 1) :
    f.sample (!f.pressed) = ({ pressed := !f.pressed, run := 0 }, true) := by
  rw [KeyFilter.sample, if_neg (Bool.not_ne_self _), if_pos twentieth]

/-- Fewer than twenty samples against the level make the change run and leave the level. -/
theorem iterate_sample_against {f : KeyFilter} (fresh : f.run = 0) : ∀ n < 20,
    (fun g : KeyFilter => (g.sample (!f.pressed)).1)^[n] f = { pressed := f.pressed, run := n }
  | 0, _ => by cases f; cases fresh; rfl
  | n + 1, short => by
    rw [Function.iterate_succ_apply', iterate_sample_against fresh n (Nat.lt_of_succ_lt short)]
    exact congrArg Prod.fst (sample_against_of_short (f := { pressed := f.pressed, run := n }) short)

/-! ### The counters of the keys (R147, R149, R150) -/

theorem Panel.countKeys_eq (edge : Bool) (p : Panel) : p.countKeys edge = { p with
    pressCounter := if p.rel.pressed = true ∧ edge = false then min (p.pressCounter + 1) 8000 else p.pressCounter,
    comboCounter := if p.rel.pressed = true ∧ p.sil.pressed = true then min (p.comboCounter + 1) 8000 else 0,
    comboMark := if p.rel.pressed = true ∧ p.sil.pressed = true then true else p.comboMark,
    doneMark := if p.rel.pressed = false ∧ p.sil.pressed = false then false else p.doneMark } := by
  simp [Panel.countKeys]

/-- The panel once the keys of a slot have been sampled and counted. -/
def Panel.keyed (lines : SlotLines) (p : Panel) : Panel :=
  ({ p with rel := (p.rel.sample lines.relDown).1, sil := (p.sil.sample lines.silDown).1 } : Panel).countKeys
    (p.rel.sample lines.relDown).2

theorem keyed_eq (lines : SlotLines) (p : Panel) :
    let rel := p.rel.sample lines.relDown
    let sil := p.sil.sample lines.silDown
    p.keyed lines = { p with
      rel := rel.1, sil := sil.1,
      pressCounter := if rel.1.pressed = true ∧ rel.2 = false then min (p.pressCounter + 1) 8000 else p.pressCounter,
      comboCounter := if rel.1.pressed = true ∧ sil.1.pressed = true then min (p.comboCounter + 1) 8000 else 0,
      comboMark := if rel.1.pressed = true ∧ sil.1.pressed = true then true else p.comboMark,
      doneMark := if rel.1.pressed = false ∧ sil.1.pressed = false then false else p.doneMark } :=
  Panel.countKeys_eq _ _

/-- The two-key release, when the combination has reached the authorise time. -/
def twoKeyEvents (authorise : Nat) (p : Panel) : List Event :=
  if p.rel.pressed = true ∧ p.sil.pressed = true ∧ authorise * 1000 ≤ p.comboCounter ∧ p.doneMark = false then [.twoKey]
  else []

/-- The buzzer's expiry, in its last slot (R152). -/
def buzzerEvents : Option Buzzer → List Event
  | some b => if b.remaining ≤ 1 then [.buzzer] else []
  | none => []

/-- What falls due of the panel at a slot expiry, in the order in which it falls due. -/
def State.panelEvents (s : State) (lines : SlotLines) : List Event :=
  silEdgeEvent (s.panel.sil.sample lines.silDown).2 (s.panel.sil.sample lines.silDown).1.pressed ++
    relEdgeEvent (s.panel.rel.sample lines.relDown).2 (s.panel.rel.sample lines.relDown).1.pressed ++
    twoKeyEvents s.profile.authoriseTime (s.panel.keyed lines) ++ buzzerEvents s.panel.buzzer

theorem countKeys_panel (s : State) (lines : SlotLines) : (s.countKeys lines).panel = s.panel.keyed lines := rfl

theorem countKeys_due (s : State) (lines : SlotLines) : (s.countKeys lines).due = s.due ++
    silEdgeEvent (s.panel.sil.sample lines.silDown).2 (s.panel.sil.sample lines.silDown).1.pressed ++
    relEdgeEvent (s.panel.rel.sample lines.relDown).2 (s.panel.rel.sample lines.relDown).1.pressed ++
    twoKeyEvents s.profile.authoriseTime (s.panel.keyed lines) := by
  have reached : twoKeyEvents s.profile.authoriseTime (s.panel.keyed lines) =
      if (s.panel.keyed lines).rel.pressed && (s.panel.keyed lines).sil.pressed &&
        decide (s.profile.authoriseTime * 1000 ≤ (s.panel.keyed lines).comboCounter) && !(s.panel.keyed lines).doneMark
      then [.twoKey] else [] := by
    simp only [twoKeyEvents, Bool.and_eq_true, decide_eq_true_eq, Bool.not_eq_true', and_assoc]
  rw [reached]
  rfl

theorem countBuzzer_of_off {s : State} (off : s.panel.buzzer = none) : s.countBuzzer = s := by
  unfold State.countBuzzer
  rw [off]

theorem countBuzzer_of_sounding {s : State} {b : Buzzer} (sounding : s.panel.buzzer = some b) :
    s.countBuzzer.panel = { s.panel with buzzer := some { remaining := b.remaining - 1, elapsed := b.elapsed + 1 } } ∧
    s.countBuzzer.due = s.due ++ if b.remaining - 1 = 0 then [.buzzer] else [] := by
  unfold State.countBuzzer
  rw [sounding]
  dsimp only
  split
  · exact ⟨rfl, rfl⟩
  · exact ⟨rfl, (List.append_nil _).symm⟩

theorem countBuzzer_panel (s : State) : s.countBuzzer.panel = { s.panel with
    buzzer := s.panel.buzzer.map fun b => { remaining := b.remaining - 1, elapsed := b.elapsed + 1 } } := by
  cases state : s.panel.buzzer with
  | none => rw [countBuzzer_of_off state, Option.map_none, ← state]
  | some b => exact (countBuzzer_of_sounding state).1

theorem countBuzzer_due (s : State) : s.countBuzzer.due = s.due ++ buzzerEvents s.panel.buzzer := by
  cases state : s.panel.buzzer with
  | none => rw [countBuzzer_of_off state, buzzerEvents, List.append_nil]
  | some b =>
    rw [(countBuzzer_of_sounding state).2, buzzerEvents]
    exact congrArg _ (if_congr Nat.sub_eq_zero_iff_le rfl rfl)

/-! ### The panel's events among those of the expiry -/

/-- The events of the keys and of the buzzer. -/
def Event.ofPanel : Event → Bool
  | .silPress | .silRelease | .relPress | .relRelease | .twoKey | .buzzer => true
  | _ => false

/-- The events of the management link's receiver. -/
def Event.ofLine : Event → Bool
  | .frameTimeout | .linkBreak => true
  | _ => false

theorem dueGrows_countFrameAge_ofLine (s : State) : DueGrows Event.ofLine s s.countFrameAge := by
  unfold State.countFrameAge
  dsimp only
  repeat' split
  · exact .push rfl rfl
  all_goals exact .of_eq rfl

theorem dueGrows_countBreak_ofLine (s : State) (low : Bool) : DueGrows Event.ofLine s (s.countBreak low) := by
  unfold State.countBreak
  dsimp only
  split
  · exact .of_eq rfl
  · generalize (if low = true then s.mgmt.breakCount + 1 else 0) = n
    split
    · exact .push rfl rfl
    · exact .of_eq rfl

theorem onlyIn_countBlocks (s : State) : OnlyIn [.timer, .control, .receiver, .probes, .sweep, .due] s s.countBlocks :=
  OnlyIn.step (onlyIn_countPacing _) (by decide) <| OnlyIn.step (onlyIn_countRetire _) (by decide) <|
    OnlyIn.step (onlyIn_countProbes _) (by decide) <| OnlyIn.step (onlyIn_countHunt _) (by decide) <|
      (onlyIn_opened s).mono (by decide)

/-- The panel after the counts of a slot: keys counted, and a SOUNDING buzzer one slot on. -/
theorem countSlot_panel (s : State) (lines : SlotLines) : (s.countSlot lines).panel = { s.panel.keyed lines with
    buzzer := s.panel.buzzer.map fun b => { remaining := b.remaining - 1, elapsed := b.elapsed + 1 } } := by
  have blocks : s.countBlocks.panel = s.panel := onlyIn_countBlocks s .panel (by decide)
  have line : (s.countSlot lines).panel = (s.countBlocks.countKeys lines).countBuzzer.panel :=
    Eq.trans (onlyIn_countBreak _ _ .panel (by decide)) (onlyIn_countFrameAge _ .panel (by decide))
  rw [line, countBuzzer_panel, countKeys_panel, blocks]
  rfl

theorem mem_silEdgeEvent {edge pressed : Bool} {e : Event} : e ∈ silEdgeEvent edge pressed ↔
    edge = true ∧ (pressed = true ∧ e = .silPress ∨ pressed = false ∧ e = .silRelease) := by
  cases edge <;> cases pressed <;> simp [silEdgeEvent]

theorem mem_relEdgeEvent {edge pressed : Bool} {e : Event} : e ∈ relEdgeEvent edge pressed ↔
    edge = true ∧ (pressed = true ∧ e = .relPress ∨ pressed = false ∧ e = .relRelease) := by
  cases edge <;> cases pressed <;> simp [relEdgeEvent]

/-- With REL PRESSED the done mark stands as the keys are counted (R150). -/
theorem keyed_doneMark {lines : SlotLines} {p : Panel} (pressed : (p.rel.sample lines.relDown).1.pressed = true) :
    (p.keyed lines).doneMark = p.doneMark := by
  rw [keyed_eq]
  exact if_neg fun released => Bool.false_ne_true (released.1.symm.trans pressed)

theorem mem_twoKeyEvents {authorise : Nat} {lines : SlotLines} {p : Panel} {e : Event} :
    e ∈ twoKeyEvents authorise (p.keyed lines) ↔
      ((p.rel.sample lines.relDown).1.pressed = true ∧ (p.sil.sample lines.silDown).1.pressed = true ∧
        p.doneMark = false ∧ authorise * 1000 ≤ (p.keyed lines).comboCounter) ∧ e = .twoKey := by
  rw [twoKeyEvents, List.mem_ite_nil_right, List.mem_singleton]
  refine and_congr_left' (and_congr_right fun pressed => and_congr_right fun _ => ?_)
  rw [keyed_doneMark pressed, and_comm]

theorem mem_buzzerEvents {o : Option Buzzer} {e : Event} :
    e ∈ buzzerEvents o ↔ ∃ b, o = some b ∧ b.remaining ≤ 1 ∧ e = .buzzer := by
  cases o <;> simp [buzzerEvents]

theorem mem_panelEvents {s : State} {lines : SlotLines} {e : Event} :
    let rel := s.panel.rel.sample lines.relDown
    let sil := s.panel.sil.sample lines.silDown
    e ∈ s.panelEvents lines ↔
      sil.2 = true ∧ (sil.1.pressed = true ∧ e = .silPress ∨ sil.1.pressed = false ∧ e = .silRelease) ∨
      rel.2 = true ∧ (rel.1.pressed = true ∧ e = .relPress ∨ rel.1.pressed = false ∧ e = .relRelease) ∨
      (rel.1.pressed = true ∧ sil.1.pressed = true ∧ s.panel.doneMark = false ∧
        s.profile.authoriseTime * 1000 ≤ (s.panel.keyed lines).comboCounter) ∧ e = .twoKey ∨
      ∃ b, s.panel.buzzer = some b ∧ b.remaining ≤ 1 ∧ e = .buzzer := by
  simp only [State.panelEvents, List.mem_append, or_assoc, mem_silEdgeEvent, mem_relEdgeEvent, mem_twoKeyEvents,
    mem_buzzerEvents]

theorem panelEvents_ofPanel (s : State) (lines : SlotLines) : ∀ e ∈ s.panelEvents lines, e.ofPanel = true := fun e he => by
  obtain ⟨-, ⟨-, rfl⟩ | ⟨-, rfl⟩⟩ | ⟨-, ⟨-, rfl⟩ | ⟨-, rfl⟩⟩ | ⟨-, rfl⟩ | ⟨_, -, -, rfl⟩ := mem_panelEvents.1 he <;> rfl

/-- Of the panel, a slot that nothing waits for brings about the events of its keys and of its buzzer. -/
theorem ofPanel_countSlot {s : State} (lines : SlotLines) (due : s.due = []) :
    (s.countSlot lines).due.filter Event.ofPanel = s.panelEvents lines := by
  have blocks := onlyIn_countBlocks s
  have panel : s.countBlocks.panel = s.panel := blocks .panel (by decide)
  have profile : s.countBlocks.profile = s.profile := blocks .profile (by decide)
  have counted : s.countBlocks.due = s.slotEvents := by rw [countBlocks_due, due]; rfl
  have keyed : (s.countBlocks.countKeys lines).countBuzzer.due = s.slotEvents ++ s.panelEvents lines := by
    rw [countBuzzer_due, countKeys_due, counted, countKeys_panel, panel, profile]
    simp only [State.panelEvents, List.append_assoc]
    rfl
  have others : s.slotEvents.filter Event.ofPanel = [] := List.filter_eq_nil_iff.2 fun e he => by
    have kind := slotEvents_counted s e he
    cases e <;> simp_all [Event.counted, Event.ofPanel]
  have line : DueGrows Event.ofLine (s.countBlocks.countKeys lines).countBuzzer (s.countSlot lines) :=
    (dueGrows_countFrameAge_ofLine _).trans (dueGrows_countBreak_ofLine _ lines.rxLow)
  rw [line.filter_eq (other := Event.ofPanel) fun e kind => by cases e <;> simp_all [Event.ofLine, Event.ofPanel], keyed,
    List.filter_append, others, List.nil_append, List.filter_eq_self.2 (panelEvents_ofPanel s lines)]

theorem mem_due_ofPanel {s : State} (lines : SlotLines) (admitFirst : Bool) (due : s.due = []) {e : Event}
    (kind : e.ofPanel = true) : e ∈ (s.slotExpiry lines ⟨.ownRows, admitFirst⟩).due ↔ e ∈ s.panelEvents lines := by
  have apart : ∀ e : Event, e.ofWorks = true → e.ofPanel = false := fun e works => by
    cases e <;> simp_all [Event.ofWorks, Event.ofReports, Event.ofPanel]
  rw [← ofPanel_countSlot lines due, ← (dueGrows_leaveWorks (s.countSlot lines) s.timer.first).filter_eq apart,
    slotExpiry_ownRows, close_of_due_nil s due, List.mem_filter, kind]
  exact (and_iff_left rfl).symm

end Sys2Proof.Machine
end

section
/-! The panel through the step reports of an expiry, which start the buzzer at most, and the panel's work of a slot expiry as a
whole (R30, R99, R153). -/

namespace Sys2Proof.Machine

/-! ### The buzzer through the step reports (R99, R153) -/

/-- Of the panel the buzzer alone may differ. -/
def BuzzerOnly (s t : State) : Prop := t.panel = { s.panel with buzzer := t.panel.buzzer }

theorem BuzzerOnly.of_panel {s t : State} (h : t.panel = s.panel) : BuzzerOnly s t := by rw [BuzzerOnly, h]

theorem BuzzerOnly.trans {s t u : State} (h : BuzzerOnly s t) (k : BuzzerOnly t u) : BuzzerOnly s u := by
  rw [BuzzerOnly] at h k ⊢
  rw [k, h]

theorem port_primingExit_of_ne (s : State) (p : Port) : OtherPortsKept p s (s.primingExit p) := fun q other => by
  unfold State.primingExit
  split
  · split
    · rfl
    · exact port_enter_of_ne s .opened other
    · exact port_enter_of_ne s .opened other
    · exact (State.port_congr (trip_ports s p _ _ _ _) q).trans (port_enter_of_ne s .limited other)
  · rfl

/-- A step report may put a blocking trip on the port: a desk in OPEN, LIMITED or TESTING (R94 to R96). -/
def PortRecord.Blockable (r : PortRecord) : Prop :=
  r.role = .desk ∧ (r.state = .opened ∨ r.state = .limited ∨ r.state = .testing)

/-- A step report puts a blocking trip on a port that one may block, or leaves the panel as it stands. -/
theorem judgeReport_blocks_or_spares (s : State) (p : Port) (r : StepReport) :
    ((s.port p).Blockable ∧ ∃ c, s.judgeReport p r = s.blockingTrip p c none none) ∨
      (s.judgeReport p r).panel = s.panel ∧ OtherPortsKept p s (s.judgeReport p r) := by
  have kept : s.panel = s.panel ∧ OtherPortsKept p s s := ⟨rfl, fun _ _ => rfl⟩
  unfold State.judgeReport
  split
  case h_1 opened =>
    split
    case h_1 severe => exact .inl ⟨⟨desk_of_severeClass severe, .inl opened⟩, _, rfl⟩
    case h_2 =>
      split
      · split
        · exact .inr kept
        · exact .inr ⟨stormTrip_panel s p _, port_stormTrip_of_ne s p _⟩
      · exact .inr kept
  case h_2 limited =>
    split
    case h_1 severe => exact .inl ⟨⟨desk_of_severeClass severe, .inr (.inl limited)⟩, _, rfl⟩
    case h_2 => exact .inr ⟨rfl, fun q other => State.port_setPort_of_ne s p q _ other.symm⟩
  case h_3 testing =>
    split
    case h_1 severe => exact .inl ⟨⟨desk_of_severeClass severe, .inr (.inr testing)⟩, _, rfl⟩
    case h_2 => exact .inr kept
  case h_4 => exact .inr ⟨onlyIn_primingExit s p .panel (by decide), port_primingExit_of_ne s p⟩
  all_goals exact .inr kept

theorem buzzerOnly_judgeReport (s : State) (p : Port) (r : StepReport) : BuzzerOnly s (s.judgeReport p r) := by
  obtain ⟨-, c, blocks⟩ | ⟨panel, -⟩ := judgeReport_blocks_or_spares s p r
  · rw [BuzzerOnly, blocks, blockingTrip_panel]; rfl
  · exact .of_panel panel

theorem buzzerOnly_handUntilCalm : ∀ (l : List Port) (s : State), BuzzerOnly s (s.handUntilCalm l)
  | [], _ => .of_panel rfl
  | p :: l, s => by
    rw [State.handUntilCalm]
    split
    · dsimp only
      split
      · exact buzzerOnly_judgeReport s p _
      · exact (buzzerOnly_judgeReport s p _).trans (buzzerOnly_handUntilCalm l _)
    · exact buzzerOnly_handUntilCalm l s

/-- With no port among them that a report may block, the reports handed over leave the panel as it stands. -/
theorem handUntilCalm_panel : ∀ (l : List Port) (s : State), l.Nodup → (∀ p ∈ l, ¬(s.port p).Blockable) →
    (s.handUntilCalm l).panel = s.panel
  | [], _, _, _ => rfl
  | p :: l, s, distinct, calm => by
    obtain ⟨fresh, distinct⟩ := List.nodup_cons.1 distinct
    rw [State.handUntilCalm]
    split
    · rename_i r _
      obtain ⟨blockable, -⟩ | ⟨panel, others⟩ := judgeReport_blocks_or_spares s p r
      · exact absurd blockable (calm p List.mem_cons_self)
      · have still : ∀ q ∈ l, ¬((s.judgeReport p r).port q).Blockable := fun q hq => by
          rw [others q fun same => fresh (same ▸ hq)]
          exact calm q (List.mem_cons_of_mem _ hq)
        dsimp only
        split
        · exact panel
        · exact (handUntilCalm_panel l _ distinct still).trans panel
    · exact handUntilCalm_panel l s distinct fun q hq => calm q (List.mem_cons_of_mem _ hq)

/-- The works of an expiry left to its own rows hand over no report at the first one after a reset (R30). -/
theorem leaveWorks_panel_eq (s : State) (first : Bool) : (s.leaveWorks first).panel =
    if first then s.panel else (s.stepPorts.handUntilCalm allPorts).panel := by
  unfold State.leaveWorks
  exact Eq.trans (onlyIn_pushDue _ .admission .panel (by decide)) (apply_ite State.panel (first = true) _ _)

theorem buzzerOnly_leaveWorks (s : State) (first : Bool) : BuzzerOnly s (s.leaveWorks first) := by
  have panel := leaveWorks_panel_eq s first
  split at panel
  · exact .of_panel panel
  · have handed := (BuzzerOnly.of_panel (onlyIn_stepPorts s .panel (by decide))).trans (buzzerOnly_handUntilCalm allPorts _)
    rw [BuzzerOnly] at handed ⊢
    rw [panel, handed]

theorem leaveWorks_panel {s : State} (calm : ∀ p, ¬(s.port p).Blockable) (first : Bool) :
    (s.leaveWorks first).panel = s.panel := by
  have stepped := onlyIn_stepPorts s
  have handed : (s.stepPorts.handUntilCalm allPorts).panel = s.panel :=
    (handUntilCalm_panel allPorts s.stepPorts nodup_allPorts fun p _ => by
      rw [State.port_congr (stepped .ports (by decide))]
      exact calm p).trans (stepped .panel (by decide))
  rw [leaveWorks_panel_eq, handed, ite_self]

/-! ### The slot expiry -/

/-- Settles O39: the filters by their samples, the panel by its counts, which the reports leave but for the buzzer, and the
events by the lists that the counts bring about. -/
theorem keyFilterTakesTwentySlots : Obligations.KeyFilterTakesTwentySlots := by
  refine ⟨fun f fresh => ⟨iterate_sample_against fresh, ?_, fun n => sample_same { f with run := n }⟩,
    fun s lines admitFirst due => ?_⟩
  · rw [iterate_sample_against fresh 19 (by decide)]
    exact sample_against_of_twentieth (f := { pressed := f.pressed, run := 19 }) (Nat.le_refl 20)
  · have state : s.slotExpiry lines ⟨.ownRows, admitFirst⟩ = (s.countSlot lines).leaveWorks s.timer.first := by
      rw [slotExpiry_ownRows, close_of_due_nil s due]
    have event := fun (e : Event) (kind : e.ofPanel = true) =>
      (mem_due_ofPanel lines admitFirst due kind).trans mem_panelEvents
    refine ⟨_, exec_slotExpiry s lines _, ?_, ?_, ?_, ?_, ?_, ?_, ?_, fun calm => ?_⟩
    · have works := buzzerOnly_leaveWorks (s.countSlot lines) s.timer.first
      rw [BuzzerOnly, ← state, countSlot_panel, keyed_eq] at works
      exact works
    · rw [event _ rfl]; simp
    · rw [event _ rfl]; simp
    · rw [event _ rfl]; simp
    · rw [event _ rfl]; simp
    · rw [event _ rfl, keyed_eq]; simp
    · rw [event _ rfl]; simp
    · have quiet : ∀ p, ¬((s.countSlot lines).port p).Blockable := fun p ⟨desk, exposed⟩ => by
        rw [port_countSlot] at desk exposed
        obtain ⟨opened, limited, testing⟩ := calm p desk
        exact exposed.elim opened (·.elim limited testing)
      rw [state, leaveWorks_panel quiet, countSlot_panel]

end Sys2Proof.Machine
end

section
/-! The notice queue through what the management link itself does: notices sent, masked, emptied out, and what leaves it
alone (R155 to R158, R161, R164, R171 to R173). -/

namespace Sys2Proof.Machine

/-! ### A queue that loses notices -/

/-- A sound queue that only loses notices stays sound, as long as the kinds of those that stay are enabled. -/
theorem NoticeQueueSound.of_sublist {m n : Mgmt} (h : NoticeQueueSound m) (sub : n.queue.Sublist m.queue)
    (enabled : ∀ q ∈ n.queue, kindEnabled n.mask q.notice = true) : NoticeQueueSound n := by
  obtain ⟨length, keys, fields⟩ := h
  refine ⟨sub.length_le.trans length, keys.sublist sub, fun q mem => ?_⟩
  obtain ⟨least, most, -⟩ := fields q (sub.subset mem)
  exact ⟨least, most, enabled q mem⟩

/-- The same under a mask that stands, which enables the kinds that it enabled before. -/
theorem NoticeQueueSound.of_sublist_of_mask {m n : Mgmt} (h : NoticeQueueSound m) (sub : n.queue.Sublist m.queue)
    (mask : n.mask = m.mask) : NoticeQueueSound n := by
  refine h.of_sublist sub fun q mem => ?_
  obtain ⟨-, -, fields⟩ := h
  obtain ⟨-, -, enabled⟩ := fields q (sub.subset mem)
  rw [mask]
  exact enabled

theorem noticeQueueSound_of_empty {m : Mgmt} (empty : m.queue = []) : NoticeQueueSound m := by
  rw [NoticeQueueSound, empty]
  exact ⟨Nat.zero_le _, .nil, nofun⟩

theorem withoutNext_sublist (l : List QueuedNotice) : (withoutNext l).Sublist l := List.eraseP_sublist

theorem setMask_sound {m : Mgmt} (h : NoticeQueueSound m) (mask : Half) : NoticeQueueSound (m.setMask mask) :=
  h.of_sublist List.filter_sublist fun _ mem => (List.mem_filter.1 mem).2

theorem sendNotice_sound {m : Mgmt} (h : NoticeQueueSound m) : NoticeQueueSound m.sendNotice := by
  unfold Mgmt.sendNotice
  split
  · split
    · exact h.of_sublist_of_mask (withoutNext_sublist _) rfl
    · exact h
  · exact h

/-- The end of a reply leaves the queue, or empties it when it was that of a RESTART (R173). -/
theorem replySent_sound {m : Mgmt} (h : NoticeQueueSound m) : NoticeQueueSound m.replySent := by
  unfold Mgmt.replySent
  split
  · rename_i r _ _
    cases r.flush
    · exact h
    · exact noticeQueueSound_of_empty rfl
  · exact h

/-! ### A queue and a mask that stand -/

/-- What `NoticeQueueSound` reads of the management link. -/
def Mgmt.notices (m : Mgmt) : List QueuedNotice × Half := (m.queue, m.mask)

theorem NoticeQueueSound.of_notices {m n : Mgmt} (same : n.notices = m.notices) (h : NoticeQueueSound m) :
    NoticeQueueSound n := by
  obtain ⟨queue, mask⟩ := Prod.mk.inj same
  exact h.of_sublist_of_mask (queue ▸ .refl _) mask

theorem noticeEnd_notices (m : Mgmt) : m.noticeEnd.notices = m.notices := by
  unfold Mgmt.noticeEnd
  split
  · split <;> rfl
  · rfl

theorem breakWaitEnd_notices (m : Mgmt) : m.breakWaitEnd.notices = m.notices := by
  unfold Mgmt.breakWaitEnd; split <;> rfl

theorem goodFrame_notices (f : Frame) (m : Mgmt) : (m.goodFrame f).notices = m.notices := by
  unfold Mgmt.goodFrame; dsimp only; split <;> rfl

theorem takeByte_notices (taken : List Byte) (age : Nat) (b : Byte) (m : Mgmt) :
    (m.takeByte taken age b).notices = m.notices := by
  unfold Mgmt.takeByte
  dsimp only
  split
  · rfl
  · split
    · rfl
    · split
      · exact goodFrame_notices _ m
      · rfl

theorem character_notices (b : Byte) (stopHigh : Bool) (m : Mgmt) : (m.character b stopHigh).notices = m.notices := by
  unfold Mgmt.character
  split
  · split <;> rfl
  · split
    · exact takeByte_notices _ _ b m
    · rfl
  · rfl

theorem countUse_notices (m : Mgmt) (late held : Bool) : (m.countUse late held).notices = m.notices := by
  cases late <;> cases held <;> rfl

/-! ### Changes of the state that keep the queue sound -/

/-- A change from `s` to `t` keeps the notice queue sound. -/
structure NoticesKept (s t : State) : Prop where
  sound : NoticeQueueSound s.mgmt → NoticeQueueSound t.mgmt

theorem NoticesKept.refl (s : State) : NoticesKept s s := ⟨id⟩

theorem NoticesKept.trans {s t u : State} (h : NoticesKept s t) (k : NoticesKept t u) : NoticesKept s u :=
  ⟨k.sound ∘ h.sound⟩

theorem NoticesKept.ite {s t u : State} {c : Prop} [Decidable c] (h : NoticesKept s t) (k : NoticesKept s u) :
    NoticesKept s (if c then t else u) := by
  split
  · exact h
  · exact k

theorem NoticesKept.foldl {α : Type} {f : State → α → State} (h : ∀ s a, NoticesKept s (f s a)) :
    ∀ (l : List α) (s : State), NoticesKept s (l.foldl f s)
  | [], s => .refl s
  | a :: l, s => (h s a).trans (NoticesKept.foldl h l (f s a))

theorem NoticesKept.of_notices {s t : State} (same : t.mgmt.notices = s.mgmt.notices) : NoticesKept s t := ⟨.of_notices same⟩

theorem NoticesKept.of_mgmt {s t : State} (same : t.mgmt = s.mgmt) : NoticesKept s t := .of_notices (congrArg _ same)

theorem NoticesKept.of_raise {s t : State} {n : Notice} (raised : t.mgmt = s.mgmt.raise n) : NoticesKept s t :=
  ⟨fun h => raised ▸ raise_sound n s.mgmt h⟩

/-- A change within a frame that spares the management link. -/
theorem OnlyIn.noticesKept {parts : List Part} {s t : State} (frame : OnlyIn parts s t) (out : Part.mgmt ∉ parts) :
    NoticesKept s t := .of_mgmt (frame .mgmt out)

end Sys2Proof.Machine
end

section
/-! The operations of the ports, the probes, the stations and the sweeps touch the notice queue by the notices that they raise
and in no other way (R78, R80, R98, R116, R120, R169). -/

namespace Sys2Proof.Machine

/-! ### Trips and step reports (R93 to R99, R103, R116) -/

theorem noticesKept_raise (s : State) (n : Notice) : NoticesKept s (s.raise n) := .of_raise rfl

theorem noticesKept_setPort (s : State) (p : Port) (v : PortRecord) : NoticesKept s (s.setPort p v) := .of_mgmt rfl

theorem noticesKept_setProbes (s : State) (v : ProbeEngine) : NoticesKept s (s.setProbes v) := .of_mgmt rfl

theorem noticesKept_setControl (s : State) (v : Control) : NoticesKept s (s.setControl v) := .of_mgmt rfl

theorem noticesKept_enter (s : State) (p : Port) (new : PortState) : NoticesKept s (s.enter p new) :=
  (onlyIn_enter s p new).noticesKept (by decide)

/-- A trip sets TRIPPED, and raises TRIP when its record was not latched. -/
theorem noticesKept_trip (s : State) (p : Port) (c : Cause) (e : PortState) (q : Option Port) (r : Option Half) :
    NoticesKept s (s.trip p c e q r) := by
  refine ⟨fun h => ?_⟩
  have flagged : NoticeQueueSound s.mgmt.flagTripped := h
  rw [trip_mgmt]
  split
  · exact raise_sound _ _ flagged
  · exact flagged

theorem noticesKept_blockingTrip (s : State) (p : Port) (c : Cause) (q : Option Port) (r : Option Half) :
    NoticesKept s (s.blockingTrip p c q r) := by
  have struck : ∀ v e, NoticesKept s ((s.setPort p v).trip p c e q r) := fun v e =>
    (noticesKept_setPort s p v).trans (noticesKept_trip _ p c e q r)
  exact .ite (struck _ _) ((struck _ _).trans (noticesKept_setPort _ p _))

theorem noticesKept_limitingTrip (s : State) (p : Port) (c : Cause) (q : Option Port) :
    NoticesKept s (s.limitingTrip p c q) := by
  have tripped := noticesKept_trip s p c .limited q none
  unfold State.limitingTrip
  dsimp only
  split
  · exact tripped.trans ((onlyIn_wantStorm _ p).noticesKept (by decide))
  · exact tripped

theorem noticesKept_primingExit (s : State) (p : Port) : NoticesKept s (s.primingExit p) := by
  unfold State.primingExit
  split
  · split
    · exact .refl s
    · exact noticesKept_enter s p .opened
    · exact noticesKept_enter s p .opened
    · exact noticesKept_limitingTrip s p .trunkLoop none
  · exact .refl s

theorem noticesKept_reopen (s : State) (p : Port) : NoticesKept s (s.reopen p) := .of_raise (reopen_mgmt s p)

theorem noticesKept_judgeReport (s : State) (p : Port) (r : StepReport) : NoticesKept s (s.judgeReport p r) := by
  unfold State.judgeReport
  split
  case h_1 =>
    split
    · exact noticesKept_blockingTrip s p _ none none
    · split
      · exact .ite (.refl s) (noticesKept_limitingTrip s p _ none)
      · exact .refl s
  case h_2 =>
    split
    · exact noticesKept_blockingTrip s p _ none none
    · exact (onlyIn_countCalm s p r).noticesKept (by decide)
  case h_3 =>
    split
    · exact noticesKept_blockingTrip s p _ none none
    · exact .refl s
  case h_4 => exact noticesKept_primingExit s p
  all_goals exact .refl s

theorem noticesKept_takeCalmHold (s : State) (p : Port) : NoticesKept s (s.takeCalmHold p) :=
  .ite (noticesKept_reopen s p) (.refl s)

theorem noticesKept_handReport (s : State) (p : Port) : NoticesKept s (s.handReport p) := by
  have judged := noticesKept_judgeReport s p
  have acted : ∀ r, NoticesKept s (s.actOnReport p r) := fun r =>
    .ite ((judged r).trans (noticesKept_takeCalmHold _ p)) (judged r)
  unfold State.handReport
  split
  · exact acted _
  · exact .refl s

theorem noticesKept_handUntilCalm : ∀ (l : List Port) (s : State), NoticesKept s (s.handUntilCalm l)
  | [], s => .refl s
  | p :: rest, s => by
    unfold State.handUntilCalm
    split
    · exact (noticesKept_judgeReport s p _).trans (.ite (.of_mgmt rfl) (noticesKept_handUntilCalm rest _))
    · exact noticesKept_handUntilCalm rest s

/-! ### Wants and sweeps (R80, R120, R123 to R125) -/

theorem noticesKept_setWant (s : State) (p : Port) (w : Want) : NoticesKept s (s.setWant p w) := by
  have superseded : ∀ u, NoticesKept s (s.supersede p w u) := fun u => by
    unfold State.supersede
    split
    · exact noticesKept_raise s _
    · exact .refl s
  unfold State.setWant
  split
  · exact (superseded _).trans (noticesKept_setProbes _ _)
  · exact (superseded _).trans (noticesKept_setPort _ p _)

theorem noticesKept_endSweep (s : State) (r : SweepRecord) (e : SweepEnd) : NoticesKept s (s.endSweep r e) :=
  .of_raise (endSweep_mgmt s r e)

theorem noticesKept_putSweep (s : State) (r : SweepRecord) : NoticesKept s (s.putSweep r) := by
  have put : NoticesKept s (s.setSweep { s.sweep with record := some r }) := .of_mgmt rfl
  exact .ite (put.trans (noticesKept_endSweep _ r .done)) put

theorem noticesKept_takeSweepPort (s : State) : NoticesKept s s.takeSweepPort := by
  unfold State.takeSweepPort
  split
  · exact .refl s
  · split
    · exact .ite ((noticesKept_setWant s _ _).trans (noticesKept_putSweep _ _)) (noticesKept_putSweep s _)
    · exact .refl s

/-! ### Conclusions (R77, R78, R81, R92) -/

theorem noticesKept_concludeSweep (s : State) (u : Purposes) (o : ProbeOutcome) : NoticesKept s (s.concludeSweep u o) := by
  unfold State.concludeSweep
  split
  · unfold State.deliverSweep
    split
    · exact .ite (noticesKept_putSweep s _) (.refl s)
    · exact .refl s
  · exact .refl s

theorem noticesKept_concludeHost (s : State) (p : Port) (u : Purposes) (o : ProbeOutcome) (a : Option Port) :
    NoticesKept s (s.concludeHost p u o a) := by
  unfold State.concludeHost
  split
  · exact noticesKept_raise s _
  · exact .refl s

theorem noticesKept_conclude (s : State) (p : Port) (u : Purposes) (o : ProbeOutcome) (a : Option Port) :
    NoticesKept s (s.conclude p u o a) := by
  have linkup : NoticesKept s (s.concludeLinkup p u o) :=
    .ite ((noticesKept_setPort s p _).trans (noticesKept_primingExit _ p)) (.refl s)
  have recover : ∀ t : State, NoticesKept t (t.concludeRecover p u o) := fun t => .ite (noticesKept_reopen t p) (.refl t)
  exact (linkup.trans (noticesKept_concludeSweep _ u o)).trans ((recover _).trans (noticesKept_concludeHost _ p u o a))

theorem noticesKept_voidWants (s : State) (p : Port) : NoticesKept s (s.voidWants p) :=
  (noticesKept_setPort s p _).trans (noticesKept_conclude _ p _ _ _)

theorem noticesKept_removeQueued (s : State) (p : Port) : NoticesKept s (s.removeQueued p) := by
  unfold State.removeQueued
  split
  · exact (noticesKept_setProbes s _).trans ((noticesKept_setControl _ _).trans (noticesKept_conclude _ p _ .void none))
  · exact .refl s

/-! ### Links and roles (R90 to R92, R110) -/

theorem noticesKept_takeLink (s : State) (p : Port) (up : Bool) : NoticesKept s (s.takeLink p up) := by
  have closed : NoticesKept s (s.linkDown p) :=
    ((noticesKept_enter s p .down).trans (noticesKept_setPort _ p _)).trans
      ((noticesKept_voidWants _ p).trans (noticesKept_removeQueued _ p))
  have down : NoticesKept s (if up then s else s.linkDown p) := .ite (.refl s) closed
  unfold State.takeLink
  split
  case h_1 => exact noticesKept_setPort s p _
  case h_2 => exact noticesKept_setPort s p _
  case h_3 => exact .ite ((onlyIn_linkUp s p).noticesKept (by decide)) (.refl s)
  all_goals exact down

theorem noticesKept_changeRole (s : State) (p : Port) (role : Role) : NoticesKept s (s.changeRole p role) := by
  have voided : NoticesKept s (s.roleVoided p) :=
    (noticesKept_setPort s p _).trans ((noticesKept_voidWants _ p).trans (noticesKept_removeQueued _ p))
  have entered := (onlyIn_roleEntered (s.roleVoided p) p role).noticesKept (by decide)
  exact voided.trans (entered.trans ((onlyIn_changeRole_of_entered s p role).noticesKept (by decide)))

theorem noticesKept_release (s : State) (p : Port) : NoticesKept s (s.release p) := (onlyIn_release s p).noticesKept (by decide)

theorem noticesKept_roomRelease (s : State) : NoticesKept s s.roomRelease := (onlyIn_roomRelease s).noticesKept (by decide)

/-! ### Returns (R70 to R75) -/

theorem noticesKept_limitTrunk (s : State) (p : Port) (q : Option Port) : NoticesKept s (s.limitTrunk p q) :=
  .ite (noticesKept_limitingTrip s p .trunkLoop q) (.refl s)

theorem noticesKept_trunkLoop (s : State) (o x : Port) : NoticesKept s (s.trunkLoop o x) := by
  have raised := noticesKept_raise s (.trunkLoop o x s.second)
  have both : ∀ a b, NoticesKept s (((s.raise (.trunkLoop o x s.second)).limitTrunk a (some b)).limitTrunk b (some a)) :=
    fun a b => (raised.trans (noticesKept_limitTrunk _ a _)).trans (noticesKept_limitTrunk _ b _)
  exact .ite (raised.trans (noticesKept_limitTrunk _ o none)) (.ite (both o x) (both x o))

theorem noticesKept_resolve (s : State) (o x : Port) (recover : Bool) : NoticesKept s (s.resolve o x recover).1 := by
  unfold State.resolve
  dsimp only
  split
  · exact .refl s
  split
  · exact noticesKept_blockingTrip s o _ _ none
  split
  · exact .refl s
  split
  · split
    · split
      · exact noticesKept_blockingTrip s x _ none none
      · exact noticesKept_blockingTrip s x _ _ none
    · exact .refl s
  split
  · exact noticesKept_blockingTrip s o _ _ none
  · exact noticesKept_trunkLoop s o x

theorem noticesKept_foreignReturn (s : State) (x : Port) (room : Half) : NoticesKept s (s.foreignReturn x room) := by
  have counted := noticesKept_setProbes s { s.probes with foreign := sat16 s.probes.foreign }
  unfold State.foreignReturn
  dsimp only
  split
  · exact (counted.trans (.ite (noticesKept_blockingTrip _ x .foreign none (some room)) (.refl _))).trans (noticesKept_raise _ _)
  · exact counted

theorem noticesKept_takeReturn (s : State) (x : Port) (room : Half) (origin : Byte) (tag : Half) :
    NoticesKept s (s.takeReturn x room origin tag) := by
  have matched : ∀ e, NoticesKept s (s.matchedReturn e x) := fun e =>
    ((noticesKept_setProbes s _).trans (noticesKept_resolve _ _ x _)).trans (noticesKept_conclude _ _ _ _ _)
  have unmatched : NoticesKept s (s.unmatchedReturn x origin tag) := by
    have counted := noticesKept_setProbes s (s.probes.countUnmatched tag)
    unfold State.unmatchedReturn
    dsimp only
    split
    · exact .ite (counted.trans (noticesKept_resolve _ _ x false)) counted
    · exact counted
  unfold State.takeReturn
  split
  · split
    · exact matched _
    · exact unmatched
  · exact .ite (noticesKept_setProbes s _) (noticesKept_foreignReturn s x room)

/-! ### Samples (R49 to R54) -/

theorem noticesKept_learn (s : State) (p : Port) (a : Address) : NoticesKept s (s.learn p a) := by
  have set : ∀ l, NoticesKept s (s.setStations l) := fun _ => .of_mgmt rfl
  have moved : ∀ e, NoticesKept s (s.moveStation e p) := fun e =>
    .ite ((set _).trans (.of_raise (flap_mgmt _ _ _ _))) (set _)
  unfold State.learn
  split
  · split
    · exact set _
    · exact .ite (set _) (moved _)
  · exact .refl s

end Sys2Proof.Machine
end

section
/-! The expiries, the fabric link, the requests and the commands keep the notice queue sound (R164, R168 to R173). -/

namespace Sys2Proof.Machine

/-! ### The events of an expiry -/

theorem noticesKept_takeFabricLost (s : State) : NoticesKept s s.takeFabricLost := .ite (.of_raise rfl) (.refl s)

theorem noticesKept_takeProbeExpiry (s : State) (o : Port) : NoticesKept s (s.takeProbeExpiry o) := by
  unfold State.takeProbeExpiry
  split
  · exact (noticesKept_setProbes s _).trans (noticesKept_conclude _ o _ .clear none)
  · exact .refl s

theorem noticesKept_takeSweepTake (s : State) : NoticesKept s s.takeSweepTake := by
  unfold State.takeSweepTake
  split
  · exact .ite (noticesKept_takeSweepPort s) (.refl s)
  · exact .refl s

theorem noticesKept_takeSilPress (s : State) : NoticesKept s s.takeSilPress :=
  have flagged : NoticesKept s s.flagKey.stopBuzzer := .of_notices rfl
  flagged.trans (noticesKept_raise _ _)

theorem noticesKept_takeRelRelease (s : State) : NoticesKept s s.takeRelRelease := by
  have headed : NoticesKept s s.releaseHead := by
    unfold State.releaseHead
    split
    · exact .ite ((noticesKept_release s _).trans (noticesKept_raise _ _)) (noticesKept_raise s _)
    · exact noticesKept_raise s _
  exact .ite (.refl s) headed

theorem noticesKept_takeTwoKey (s : State) : NoticesKept s s.takeTwoKey := by
  have marked : NoticesKept s (s.setPanel { s.panel with doneMark := true }) := .of_mgmt rfl
  unfold State.takeTwoKey
  split
  · dsimp only
    split
    · exact (marked.trans (noticesKept_roomRelease _)).trans (noticesKept_raise _ _)
    · exact marked
  · exact .refl s

theorem noticesKept_takeFrameTimeout (s : State) : NoticesKept s s.takeFrameTimeout := by
  unfold State.takeFrameTimeout
  split
  · exact .ite (.of_notices rfl) (.refl s)
  · exact .refl s

/-- A management link break empties the queue (R164). -/
theorem noticesKept_takeLinkBreak (s : State) : NoticesKept s s.takeLinkBreak :=
  .ite ⟨fun _ => noticeQueueSound_of_empty rfl⟩ (.refl s)

theorem noticesKept_takeEvent (s : State) : ∀ e, NoticesKept s (s.takeEvent e)
  | .second => (onlyIn_takeSecond s).noticesKept (by decide)
  | .fabricLost => noticesKept_takeFabricLost s
  | .calmHold p => noticesKept_takeCalmHold s p
  | .probeExpired o => noticesKept_takeProbeExpiry s o
  | .retireEnd => (onlyIn_takeRetireEnd s).noticesKept (by decide)
  | .holdOff p => (onlyIn_takeHoldOff s p).noticesKept (by decide)
  | .strikeDecay p => (onlyIn_takeStrikeDecay s p).noticesKept (by decide)
  | .grace => noticesKept_raise s _
  | .autoSweep => (onlyIn_takeAutoSweep s).noticesKept (by decide)
  | .sweepTake => noticesKept_takeSweepTake s
  | .silPress => noticesKept_takeSilPress s
  | .relPress => .of_notices rfl
  | .relRelease => noticesKept_takeRelRelease s
  | .silRelease => .refl s
  | .twoKey => noticesKept_takeTwoKey s
  | .buzzer => (onlyIn_takeBuzzerExpiry s).noticesKept (by decide)
  | .frameTimeout => noticesKept_takeFrameTimeout s
  | .linkBreak => noticesKept_takeLinkBreak s
  | .reports p => .foldl noticesKept_handReport (portsAbove p) s
  | .admission => (onlyIn_admit s).noticesKept (by decide)

theorem noticesKept_setDue (s : State) (l : List Event) : NoticesKept s (s.setDue l) := .of_mgmt rfl

theorem noticesKept_takeDue (s : State) (e : Event) : NoticesKept s (s.takeDue e) :=
  .ite ((noticesKept_setDue s _).trans (noticesKept_takeEvent _ e)) (.refl s)

theorem noticesKept_finishReports (s : State) : NoticesKept s s.finishReports := .foldl noticesKept_takeDue _ s

theorem noticesKept_takeAfterReports (s : State) (e : Event) : NoticesKept s (s.takeAfterReports e) :=
  .ite ((noticesKept_finishReports s).trans (noticesKept_takeDue _ e)) (.refl s)

theorem noticesKept_admitWants (s : State) : NoticesKept s s.admitWants := (onlyIn_admit s).noticesKept (by decide)

theorem noticesKept_close (s : State) : NoticesKept s s.close := by
  have second := (noticesKept_finishReports s).trans (noticesKept_takeDue _ .second)
  have events := fun l => second.trans ((noticesKept_setDue _ []).trans (NoticesKept.foldl noticesKept_takeEvent l _))
  exact .ite ((events _).trans (noticesKept_admitWants _)) (events _)

theorem noticesKept_takeReopening (s : State) (p : Port) : NoticesKept s (s.takeReopening p) := by
  have resumed : NoticesKept s s.resumeReports := by
    unfold State.resumeReports
    split
    · exact .ite (.refl s) ((noticesKept_setDue s _).trans (noticesKept_handUntilCalm _ _))
    · exact .refl s
  exact .ite (noticesKept_takeDue s _) (.ite (resumed.trans (noticesKept_takeDue _ _)) (.refl s))

/-! ### The slot expiry (R1) -/

theorem noticesKept_countFrameAge (s : State) : NoticesKept s s.countFrameAge := by
  unfold State.countFrameAge
  split
  · exact .ite (.of_notices rfl) (.of_notices rfl)
  · exact .refl s

theorem noticesKept_countBreak (s : State) (low : Bool) : NoticesKept s (s.countBreak low) :=
  .ite (.refl s) (.ite (.of_notices rfl) (.of_notices rfl))

theorem noticesKept_countSlot (s : State) (lines : SlotLines) : NoticesKept s (s.countSlot lines) := by
  have blocks := (onlyIn_countBlocks s).noticesKept (by decide)
  have keys := (onlyIn_countKeys s.countBlocks lines).noticesKept (by decide)
  have buzzer := (onlyIn_countBuzzer (s.countBlocks.countKeys lines)).noticesKept (by decide)
  rw [countSlot_eq]
  exact ((blocks.trans keys).trans buzzer).trans ((noticesKept_countFrameAge _).trans (noticesKept_countBreak _ _))

theorem noticesKept_stepPort (slot : Byte) (baseline : Bool) (s : State) (p : Port) :
    NoticesKept s (State.stepPort slot baseline s p) :=
  .of_notices (by rw [mgmt_stepPort, countUse_notices])

theorem noticesKept_stepPorts (s : State) : NoticesKept s s.stepPorts := by
  unfold State.stepPorts
  exact .foldl (noticesKept_stepPort _ _) allPorts s

theorem noticesKept_meterWork (s : State) (first : Bool) : NoticesKept s (s.meterWork first) :=
  .ite (.refl s) ((noticesKept_stepPorts s).trans (.foldl noticesKept_handReport _ _))

theorem noticesKept_admission (s : State) : NoticesKept s s.admission :=
  (NoticesKept.foldl noticesKept_takeDue _ s).trans (noticesKept_admitWants _)

theorem noticesKept_slotWorks (s : State) (first : Bool) (order : ExpiryOrder) :
    NoticesKept s (s.slotWorks first order) := by
  have events : ∀ (t : State) place, NoticesKept t (t.eventsAt order place) := fun t _ =>
    .ite (noticesKept_close t) (.refl t)
  exact ((events s .before).trans (.ite (noticesKept_admission _) (noticesKept_meterWork _ first))).trans
    ((events _ .between).trans (.ite (noticesKept_meterWork _ first) (noticesKept_admission _)))

theorem noticesKept_leaveWorks (s : State) (first : Bool) : NoticesKept s (s.leaveWorks first) :=
  (NoticesKept.ite (c := first = true) (.refl s)
    ((noticesKept_stepPorts s).trans (noticesKept_handUntilCalm allPorts _))).trans (noticesKept_setDue _ _)

theorem noticesKept_slotExpiry (s : State) (lines : SlotLines) (order : ExpiryOrder) :
    NoticesKept s (s.slotExpiry lines order) := by
  have counted := (noticesKept_close s).trans (noticesKept_countSlot _ lines)
  exact .ite (counted.trans (noticesKept_leaveWorks _ _))
    (counted.trans ((noticesKept_slotWorks _ _ order).trans (noticesKept_close _)))

/-! ### The fabric link (R4 to R19) -/

theorem noticesKept_receiveRecord (s : State) (bytes : List Byte) (extra : Nat) :
    NoticesKept s (s.receiveRecord bytes extra) := by
  have lost : NoticesKept s s.loseRecord := .of_notices rfl
  have offered : ∀ r, NoticesKept s (s.offerRecord r) := fun r => .ite (.of_mgmt rfl) (.of_notices rfl)
  have resynced : NoticesKept s s.resync := .ite (.of_raise rfl) (.of_mgmt rfl)
  have taken : ∀ r, NoticesKept s (s.takeGoodRecord r) := fun r => by
    unfold State.takeGoodRecord
    cases r with
    | fill => exact .ite (.refl s) resynced
    | good g => exact .ite (offered g) lost
    | bad => exact .ite lost lost
  exact .ite (taken _) (.ite (.of_notices rfl) lost)

theorem noticesKept_popFifo (s : State) (rest : List SightingRecord) : NoticesKept s (s.popFifo rest) := .of_mgmt rfl

theorem noticesKept_dispatchTally (s : State) : NoticesKept s s.dispatchTally := by
  unfold State.dispatchTally
  split
  · exact .of_mgmt rfl
  · exact .refl s

theorem noticesKept_dispatchSample (s : State) : NoticesKept s s.dispatchSample := by
  unfold State.dispatchSample
  split
  · exact (noticesKept_popFifo s _).trans (noticesKept_learn _ _ _)
  · exact .refl s

theorem noticesKept_dispatchProbe (s : State) : NoticesKept s s.dispatchProbe := by
  unfold State.dispatchProbe
  split
  · exact (noticesKept_popFifo s _).trans (noticesKept_takeReturn _ _ _ _ _)
  · exact .refl s

theorem noticesKept_dispatchLink (s : State) : NoticesKept s s.dispatchLink := by
  unfold State.dispatchLink
  split
  · exact (noticesKept_popFifo s _).trans (noticesKept_takeLink _ _ _)
  · exact .refl s

theorem noticesKept_grantGate (s : State) : NoticesKept s s.grantGate := by
  unfold State.grantGate
  split
  · split
    · exact .of_mgmt rfl
    · exact .refl s
  · exact .refl s

theorem noticesKept_grantEmit (s : State) : NoticesKept s s.grantEmit := by
  unfold State.grantEmit
  split
  · split
    · exact .of_mgmt rfl
    · exact .refl s
  · exact .refl s

/-! ### PROFILE SET (R177) -/

theorem noticesKept_roomChanged (s : State) (old : Half) : NoticesKept s (s.roomChanged old) := by
  have concluded : ∀ (t : State) (l : List ProbeEntry),
      NoticesKept t (l.foldl (fun t e => t.conclude e.origin e.purposes .void none) t) := fun t l =>
    .foldl (fun t e => noticesKept_conclude t e.origin e.purposes .void none) l t
  have renewed : ∀ t : State, NoticesKept t (allPorts.foldl State.renewWant t) :=
    NoticesKept.foldl (fun t p => (onlyIn_renewWant t p).noticesKept (by decide)) allPorts
  unfold State.roomChanged
  exact ((noticesKept_setProbes s _).trans (noticesKept_setControl _ _)).trans ((concluded _ _).trans (renewed _))

theorem noticesKept_applyProfile (s : State) (new : Profile) (roles : Vector Role 40) :
    NoticesKept s (s.applyProfile new roles) := by
  have profile : NoticesKept s (s.setProfile new) := .of_mgmt rfl
  have strikes : ∀ t : State, NoticesKept t t.lowerStrikes := fun t => .of_mgmt (State.setPorts_mgmt t _)
  have timer : ∀ (t : State) n, NoticesKept t (t.setSweep { t.sweep with timer := n }) := fun _ _ => .of_mgmt rfl
  have quiet : ∀ t : State, NoticesKept t t.stopBuzzer := fun t => .of_mgmt (State.setPanel_mgmt t _)
  have role : ∀ (t : State) p, NoticesKept t (t.applyRole roles p) := fun t p => .ite (.refl t) (noticesKept_changeRole t p _)
  have roled := profile.trans (.foldl role allPorts _)
  have lowered := roled.trans (.ite (c := new.strikeLimit < s.profile.strikeLimit) (strikes _) (.refl _))
  have moved := lowered.trans (.ite (c := new.roomId = s.profile.roomId) (.refl _) (noticesKept_roomChanged _ s.profile.roomId))
  have timed := moved.trans (.ite (c := new.sweepPeriod = s.profile.sweepPeriod) (.refl _) (timer _ new.sweepPeriod))
  exact timed.trans (.ite (c := new.buzzTime = 0) (quiet _) (.refl _))

/-! ### The requests that leave the link to its reply -/

theorem mgmt_reqMeterGet (s : State) (cls : Byte) : (s.reqMeterGet cls).1.mgmt = s.mgmt := by
  unfold State.reqMeterGet; split <;> rfl

theorem mgmt_reqMeterSet (s : State) (b : MeterBlock) : (s.reqMeterSet b).1.mgmt = s.mgmt := by
  unfold State.reqMeterSet
  split
  · rfl
  · split
    · exact onlyIn_applyMeterSet s _ _ .mgmt (by decide)
    · rfl

theorem mgmt_reqBaselineSet (s : State) (port cls : Byte) (value : Half) :
    (s.reqBaselineSet port cls value).1.mgmt = s.mgmt := by
  unfold State.reqBaselineSet
  split
  · rfl
  · rfl
  · dsimp only
    split
    · rfl
    · exact onlyIn_seedBaselines s _ _ _ .mgmt (by decide)

theorem mgmt_reqPortGet (s : State) (port : Byte) : (s.reqPortGet port).1.mgmt = s.mgmt := by
  unfold State.reqPortGet; split <;> rfl

theorem mgmt_reqRelease (s : State) (port : Byte) : (s.reqRelease port).1.mgmt = s.mgmt := by
  unfold State.reqRelease
  split
  · rfl
  · split
    · exact onlyIn_release s _ .mgmt (by decide)
    · rfl

theorem mgmt_reqEvidenceGet (s : State) (port : Byte) : (s.reqEvidenceGet port).1.mgmt = s.mgmt := by
  unfold State.reqEvidenceGet; split <;> rfl

theorem mgmt_reqEvidenceClear (s : State) (port : Byte) : (s.reqEvidenceClear port).1.mgmt = s.mgmt := by
  have cleared : ∀ ports, OnlyIn [.evidence] s (s.clearEvidence ports) := fun ports =>
    .foldl (fun t p => onlyIn_setEvidenceOf t p _) ports s
  unfold State.reqEvidenceClear
  split
  · rfl
  · exact cleared _ .mgmt (by decide)

theorem mgmt_reqStationFind (s : State) (a : Address) : (s.reqStationFind a).1.mgmt = s.mgmt := by
  unfold State.reqStationFind; split <;> rfl

theorem mgmt_reqStationPin (s : State) (a : Address) (port : Byte) : (s.reqStationPin a port).1.mgmt = s.mgmt := by
  unfold State.reqStationPin
  split
  · rfl
  · split <;> rfl

theorem mgmt_reqStationUnpin (s : State) (a : Address) : (s.reqStationUnpin a).1.mgmt = s.mgmt := by
  unfold State.reqStationUnpin
  split
  · rfl
  · dsimp only
    split <;> rfl

theorem mgmt_reqStationFlush (s : State) (port : Byte) : (s.reqStationFlush port).1.mgmt = s.mgmt := by
  unfold State.reqStationFlush; split <;> rfl

theorem mgmt_reqPanelSet (s : State) (mask : BitVec 80) (value : Byte) : (s.reqPanelSet mask value).1.mgmt = s.mgmt := by
  unfold State.reqPanelSet
  split
  · rfl
  · exact State.setPanel_mgmt s _

theorem mgmt_reqPanelReturn (s : State) (mask : BitVec 80) : (s.reqPanelReturn mask).1.mgmt = s.mgmt :=
  State.setPanel_mgmt s _

/-- RESTART keeps the management link, and with it the notice queue and the mask (R179). -/
theorem mgmt_reqRestart (s : State) (mode : Byte) : (s.reqRestart mode).1.mgmt = s.mgmt := by
  unfold State.reqRestart
  split
  · rfl
  · split <;> rfl

/-! ### The requests that raise notices, clear flags or set the mask -/

theorem noticesKept_reqStatus (s : State) (option : Byte) : NoticesKept s (s.reqStatus option).1 := by
  unfold State.reqStatus
  split
  · exact .refl s
  · split
    · exact .of_notices rfl
    · exact .refl s

theorem noticesKept_reqProfileSet (s : State) (b : ProfileBlock) : NoticesKept s (s.reqProfileSet b).1 := by
  unfold State.reqProfileSet
  split
  · exact noticesKept_applyProfile s _ _
  · exact .refl s

theorem noticesKept_reqGrace (s : State) (d : Half) : NoticesKept s (s.reqGrace d).1 := by
  unfold State.reqGrace
  dsimp only
  split
  · split
    · exact .of_raise rfl
    · exact .refl s
  · split <;> exact .of_mgmt rfl

theorem noticesKept_reqPortRole (s : State) (port role : Byte) : NoticesKept s (s.reqPortRole port role).1 := by
  unfold State.reqPortRole
  split
  · exact .refl s
  · exact .refl s
  · exact .ite (.refl s) (noticesKept_changeRole s _ _)

theorem noticesKept_reqBlock (s : State) (port : Byte) : NoticesKept s (s.reqBlock port).1 := by
  unfold State.reqBlock
  split
  · exact .refl s
  · split
    · exact .refl s
    · exact .refl s
    · exact noticesKept_trip s _ .host .held none none

theorem noticesKept_reqCheck (s : State) (tag port : Byte) : NoticesKept s (s.reqCheck tag port).1 := by
  unfold State.reqCheck
  split
  · exact .refl s
  · split
    · exact .refl s
    · split
      · split
        · exact .refl s
        · exact noticesKept_setWant s _ _
      · split
        · exact noticesKept_setWant s _ _
        · exact .refl s

theorem noticesKept_reqSweep (s : State) (tag first last : Byte) : NoticesKept s (s.reqSweep tag first last).1 := by
  have started : ∀ (t : State) f l, NoticesKept t (t.startSweep (some tag) f l) := fun _ _ _ => .of_mgmt rfl
  unfold State.reqSweep
  split
  · split
    · exact .refl s
    · split
      · exact started s _ _
      · dsimp only
        split
        · exact .refl s
        · exact (noticesKept_endSweep s _ .preempted).trans (started _ _ _)
  · exact .refl s

theorem noticesKept_reqAbort (s : State) : NoticesKept s s.reqAbort.1 := by
  unfold State.reqAbort
  split
  · exact .refl s
  · exact noticesKept_endSweep s _ .aborted

/-- NOTICE MASK takes the notices of the disabled kinds out of the queue (R172). -/
theorem noticesKept_reqNoticeMask (s : State) (mask : Half) : NoticesKept s (s.reqNoticeMask mask).1 := by
  unfold State.reqNoticeMask
  split
  · exact ⟨fun h => setMask_sound h mask⟩
  · exact .refl s

/-! ### Requests taken (R158, R159) -/

theorem noticesKept_serve (s : State) (f : Frame) : NoticesKept s (s.serve f).1 := by
  unfold State.serve
  dsimp only
  split
  · exact noticesKept_reqStatus s _
  · exact .refl s
  · exact noticesKept_reqProfileSet s _
  · exact .of_mgmt (mgmt_reqMeterGet s _)
  · exact .of_mgmt (mgmt_reqMeterSet s _)
  · exact .of_mgmt (mgmt_reqBaselineSet s _ _ _)
  · exact noticesKept_reqGrace s _
  · exact .of_mgmt (mgmt_reqPortGet s _)
  · exact noticesKept_reqPortRole s _ _
  · exact noticesKept_reqBlock s _
  · exact .of_mgmt (mgmt_reqRelease s _)
  · exact noticesKept_roomRelease s
  · exact .refl s
  · exact noticesKept_reqCheck s _ _
  · exact noticesKept_reqSweep s _ _ _
  · exact noticesKept_reqAbort s
  · exact .of_mgmt (mgmt_reqEvidenceGet s _)
  · exact .of_mgmt (mgmt_reqEvidenceClear s _)
  · exact .of_mgmt (mgmt_reqStationFind s _)
  · exact .of_mgmt (mgmt_reqStationPin s _ _)
  · exact .of_mgmt (mgmt_reqStationUnpin s _)
  · exact .of_mgmt (mgmt_reqStationFlush s _)
  · exact .of_mgmt (mgmt_reqPanelSet s _ _)
  · exact .of_mgmt (mgmt_reqPanelReturn s _)
  · exact noticesKept_reqNoticeMask s _
  · exact .of_mgmt (mgmt_reqRestart s _)
  · exact .refl s

theorem noticesKept_fill (a : Answer) (kind tag : Byte) (flush : Bool) : NoticesKept a.1 (a.fill kind tag flush) :=
  .of_notices rfl

theorem noticesKept_takeRequest (s : State) : NoticesKept s s.takeRequest := by
  have answered : ∀ (t : State) (f : Frame), NoticesKept t (t.answerFrame f) := fun t f => by
    unfold State.answerFrame
    split
    · exact noticesKept_fill (t.refuse stBadKind) _ _ _
    · exact .ite ((noticesKept_serve t f).trans (noticesKept_fill _ _ _ _)) (noticesKept_fill (t.refuse stBadLength) _ _ _)
  unfold State.takeRequest
  split
  · rename_i f rest _ _
    have taken : NoticesKept s (s.setMgmt { s.mgmt with requests := rest }) := .of_notices rfl
    exact taken.trans (answered _ f)
  · exact .refl s

theorem noticesKept_closed_request (s : State) (kind tag : Byte) (flush : Bool) {f : State → Answer}
    (h : ∀ t, NoticesKept t (f t).1) : NoticesKept s (s.close.request kind tag flush f) := by
  have heard : NoticesKept s.close (s.close.setMgmt s.close.mgmt.heard) := .of_notices rfl
  exact (noticesKept_close s).trans (.ite ((heard.trans (h _)).trans (noticesKept_fill _ _ _ _)) (.refl _))

/-! ### The step -/

theorem noticesKept_exec (c : Instr) (s t : State) (run : exec c s = .next t) : NoticesKept s t := by
  have closed : ∀ {u : State}, NoticesKept s.close u → NoticesKept s u := (noticesKept_close s).trans
  have link : ∀ {m}, m.notices = s.close.mgmt.notices → NoticesKept s (s.close.setMgmt m) := fun same =>
    closed (.of_notices same)
  have request := noticesKept_closed_request s
  have read : ∀ (kind tag : Byte) (flush : Bool) {f : State → Answer}, (∀ u, (f u).1.mgmt = u.mgmt) →
      NoticesKept s (s.close.request kind tag flush f) := fun kind tag flush _ h =>
    request kind tag flush fun u => .of_mgmt (h u)
  cases c <;> obtain rfl := Host.Outcome.next.inj run
  case powerOn straps => exact ⟨fun _ => noticeQueueSound_of_empty rfl⟩
  case slotExpiry lines order => exact noticesKept_slotExpiry s lines order
  case secondExpiry => exact noticesKept_takeAfterReports s _
  case fabricLost | retirePeriodEnd | holdOffExpiry | strikeDecay | graceExpiry | autoSweepTimerExpiry | sweepTakePort |
      silPress | relPress | relRelease | keyReleaseSil | twoKeyRoomRelease | buzzerExpiry | frameTimeout | linkBreak =>
    exact noticesKept_takeDue s _
  case calmHoldReached p => exact noticesKept_takeReopening s p
  case probeExpiry o =>
    split
    · exact noticesKept_takeAfterReports s _
    · exact .refl s
  case sightingRecordReceive bytes extra => exact closed (noticesKept_receiveRecord _ bytes extra)
  case tallyDispatch => exact closed (noticesKept_dispatchTally _)
  case sampleDispatch => exact closed (noticesKept_dispatchSample _)
  case probeDispatch => exact closed (noticesKept_dispatchProbe _)
  case linkDispatch => exact closed (noticesKept_dispatchLink _)
  case slotMarkGrant | refreshGateGrant => exact closed (.ite (.of_mgmt rfl) (.refl _))
  case gateChangeGrant => exact closed (noticesKept_grantGate _)
  case emitGrant => exact closed (noticesKept_grantEmit _)
  case mlCharacterReceive b stopHigh => exact link (character_notices b stopHigh _)
  case breakWaitEnd => exact link (breakWaitEnd_notices _)
  case noticeFrameEnd => exact link (noticeEnd_notices _)
  case replySent => exact closed ⟨replySent_sound⟩
  case noticeSend => exact closed ⟨sendNotice_sound⟩
  case scanNextCommon => exact closed (.of_mgmt rfl)
  case requestTake => exact closed (noticesKept_takeRequest _)
  case status tag option => exact request _ _ _ fun u => noticesKept_reqStatus u option
  case profileGet | tripList => exact read _ _ _ fun _ => rfl
  case profileSet tag b => exact request _ _ _ fun u => noticesKept_reqProfileSet u b
  case meterGet tag cls => exact read _ _ _ fun u => mgmt_reqMeterGet u cls
  case meterSet tag b => exact read _ _ _ fun u => mgmt_reqMeterSet u b
  case baselineSet tag port cls value => exact read _ _ _ fun u => mgmt_reqBaselineSet u port cls value
  case grace tag d => exact request _ _ _ fun u => noticesKept_reqGrace u d
  case portGet tag port => exact read _ _ _ fun u => mgmt_reqPortGet u port
  case portRole tag port role => exact request _ _ _ fun u => noticesKept_reqPortRole u port role
  case block tag port => exact request _ _ _ fun u => noticesKept_reqBlock u port
  case release tag port => exact read _ _ _ fun u => mgmt_reqRelease u port
  case roomRelease => exact request _ _ _ noticesKept_roomRelease
  case check tag port => exact request _ _ _ fun u => noticesKept_reqCheck u tag port
  case sweep tag first last => exact request _ _ _ fun u => noticesKept_reqSweep u tag first last
  case abort => exact request _ _ _ noticesKept_reqAbort
  case evidenceGet tag port => exact read _ _ _ fun u => mgmt_reqEvidenceGet u port
  case evidenceClear tag port => exact read _ _ _ fun u => mgmt_reqEvidenceClear u port
  case stationFind tag a => exact read _ _ _ fun u => mgmt_reqStationFind u a
  case stationPin tag a port => exact read _ _ _ fun u => mgmt_reqStationPin u a port
  case stationUnpin tag a => exact read _ _ _ fun u => mgmt_reqStationUnpin u a
  case stationFlush tag port => exact read _ _ _ fun u => mgmt_reqStationFlush u port
  case panelSet tag mask value => exact read _ _ _ fun u => mgmt_reqPanelSet u mask value
  case panelReturn tag mask => exact read _ _ _ fun u => mgmt_reqPanelReturn u mask
  case noticeMask tag mask => exact request _ _ _ fun u => noticesKept_reqNoticeMask u mask
  case restart tag mode => exact read _ _ _ fun u => mgmt_reqRestart u mode

/-- Settles O8: a raised notice keeps the queue sound by its key, the mask and the drop rule, a new mask and a notice sent only
take notices out, a link break and the end of a RESTART's reply empty it, and nothing else touches the queue or the mask. -/
theorem noticeQueueStaysSound : Obligations.NoticeQueueStaysSound := by
  intro s t sound run
  unfold step at run
  split at run
  · obtain rfl := Host.Outcome.next.inj run
    exact sound
  · rename_i c rest _
    have taken : NoticesKept { s with pending := rest } t := noticesKept_exec c _ t run
    exact taken.sound sound

end Sys2Proof.Machine
end

section
/-! The power-on state: what `State.start` puts into each port-indexed block, and POWER_ON. -/

namespace Sys2Proof.Machine

/-! ### What each port starts with (R12, R17, R21, R87, R130) -/

section Start

variable {straps : BitVec 2} {roles : Vector Role 40} {profile : Profile} {pending : List Instr} (p : Port)

theorem tally_start : (State.start straps roles profile pending).tally p = PortTally.start := by
  simp [State.start, State.tally]

theorem evidenceOf_start : (State.start straps roles profile pending).evidenceOf p = EvidenceRecord.empty := by
  simp [State.start, State.evidenceOf]

theorem portMeters_start (k : TrafficClass) : ((State.start straps roles profile pending).portMeters p).get k =
    Meter.restartedWith (profile.meters.get k) 0 :=
  portMeters_restartWith (State.start straps roles profile pending) profile roles p k

theorem pendingGate_start : (State.start straps roles profile pending).control.pendingGate[p] =
    some (gateOf (startState roles[p])) :=
  pendingGate_restartWith (State.start straps roles profile pending) profile roles p

end Start

/-! ### The factory roles (R87, R88, R174) -/

theorem factoryRoles_get (p : Port) : factoryRoles[p] = factoryRole p := by simp [factoryRoles]

/-- No port is OFF under its factory role, so every port starts DOWN. -/
theorem startState_factoryRole (p : Port) : startState (factoryRole p) = .down := by
  unfold factoryRole
  split <;> rfl

theorem start_factoryRole (p : Port) : PortRecord.start (factoryRole p) =
    { role := if p.val < 36 then .desk else .trunk, state := .down, linkUp := false, strikes := 0, holdOff := 0, calm := 0,
      decay := 0, wants := Purposes.empty, linkup := .unset } := by
  unfold PortRecord.start
  rw [startState_factoryRole]
  rfl

/-! ### POWER_ON (R178) -/

theorem exec_powerOn (straps : BitVec 2) (s : State) :
    exec (.powerOn straps) s = .next (State.start straps factoryRoles factoryProfile s.pending) := rfl

theorem cells_start (duty : Nat) (n : Fin 80) : (Panel.start duty).cells[n] = Cell.auto := by simp [Panel.start]

/-- Settles O3: POWER_ON answers `State.start` under the factory profile and roles, whose blocks outside the ports are written
down as they start; the ports, meters, gates and cells are read off by the lemmas above. -/
theorem powerOnStartsEveryBlock : Obligations.PowerOnStartsEveryBlock := by
  refine ⟨fun straps s => ⟨_, exec_powerOn straps s, rfl, rfl, tally_start, rfl, rfl, rfl, rfl, fun p => ?gate,
    portMeters_start, rfl, rfl, rfl, rfl, fun p => ?port, rfl, evidenceOf_start, cells_start _,
    rfl, rfl, rfl, rfl, rfl, rfl, rfl, rfl, rfl, rfl⟩, fun s idle => ?reset⟩
  case gate => rw [pendingGate_start, factoryRoles_get, startState_factoryRole, gateOf]
  case port => rw [port_start, factoryRoles_get, start_factoryRole]
  case reset => rw [exec_powerOn, idle, State.reset, Config.resetStraps]

end Sys2Proof.Machine
end

section
/-! The queue of waiting commands: a step takes the command at its front (log 17), and every command keeps what waits behind it,
the events of an expiry, the fabric link, the requests and the two restarts (log 16) alike. -/

namespace Sys2Proof.Machine

/-! ### The step (00_scope.md, Events and blocks) -/

theorem step_of_pending_cons {c : Instr} {rest : List Instr} {s : State} (front : s.pending = c :: rest) :
    step s = exec c { s with pending := rest } := by
  unfold step; rw [front]

theorem step_of_pending_nil {s : State} (idle : s.pending = []) : step s = .next s := by
  unfold step; rw [idle]

/-- Settles O1, by the two cases of the queue in the definition of the step. -/
theorem stepRunsFrontCommand : Obligations.StepRunsFrontCommand :=
  ⟨fun _ _ _ front => step_of_pending_cons front, fun _ idle => step_of_pending_nil idle⟩

/-! ### The events of an expiry (R1, logs 3 and 4) -/

theorem pending_takeDue (s : State) (e : Event) : (s.takeDue e).pending = s.pending := onlyIn_takeDue s e .pending (by decide)

theorem pending_takeAfterReports (s : State) (e : Event) : (s.takeAfterReports e).pending = s.pending :=
  onlyIn_takeAfterReports s e .pending (by decide)

theorem pending_resumeReports (s : State) : s.resumeReports.pending = s.pending := by
  unfold State.resumeReports
  split
  · split
    · rfl
    · exact onlyIn_handUntilCalm _ _ .pending (by decide)
  · rfl

theorem pending_takeReopening (s : State) (p : Port) : (s.takeReopening p).pending = s.pending := by
  unfold State.takeReopening
  split
  · exact pending_takeDue s _
  · split
    · exact (pending_takeDue _ _).trans (pending_resumeReports s)
    · rfl

/-! ### The fabric link (R4 to R19) -/

theorem pending_takeGoodRecord (s : State) (r : ParsedRecord) : (s.takeGoodRecord r).pending = s.pending := by
  have offered : ∀ g, (s.offerRecord g).pending = s.pending := fun g => by unfold State.offerRecord; split <;> rfl
  have resynced : s.resync.pending = s.pending := by unfold State.resync; dsimp only; split <;> rfl
  unfold State.takeGoodRecord
  split
  · cases r with
    | fill => rfl
    | good g => exact offered g
    | bad => rfl
  · cases r with
    | fill => exact resynced
    | good _ => rfl
    | bad => rfl

theorem pending_receiveRecord (s : State) (bytes : List Byte) (extra : Nat) :
    (s.receiveRecord bytes extra).pending = s.pending := by
  unfold State.receiveRecord
  split
  · exact pending_takeGoodRecord s _
  · split <;> rfl

theorem pending_dispatchTally (s : State) : s.dispatchTally.pending = s.pending := by
  unfold State.dispatchTally; split <;> rfl

theorem pending_dispatchSample (s : State) : s.dispatchSample.pending = s.pending := by
  unfold State.dispatchSample
  split
  · exact onlyIn_learn (s.popFifo _) _ _ .pending (by decide)
  · rfl

theorem pending_dispatchProbe (s : State) : s.dispatchProbe.pending = s.pending := by
  unfold State.dispatchProbe
  split
  · exact onlyIn_takeReturn (s.popFifo _) _ _ _ _ .pending (by decide)
  · rfl

theorem pending_dispatchLink (s : State) : s.dispatchLink.pending = s.pending := by
  unfold State.dispatchLink
  split
  · exact onlyIn_takeLink (s.popFifo _) _ _ .pending (by decide)
  · rfl

theorem pending_grantMark (s : State) : s.grantMark.pending = s.pending := by
  unfold State.grantMark; split <;> rfl

theorem pending_grantGate (s : State) : s.grantGate.pending = s.pending := by
  unfold State.grantGate
  split
  · split <;> rfl
  · rfl

theorem pending_grantEmit (s : State) : s.grantEmit.pending = s.pending := by
  unfold State.grantEmit
  split
  · split <;> rfl
  · rfl

theorem pending_grantRefresh (s : State) : s.grantRefresh.pending = s.pending := by
  unfold State.grantRefresh; split <;> rfl

/-! ### The requests of the profile, the meters and grace (R39 to R45, R166, R176) -/

theorem pending_reqStatus (s : State) (option : Byte) : (s.reqStatus option).1.pending = s.pending := by
  unfold State.reqStatus
  split
  · rfl
  · split <;> rfl

theorem pending_reqProfileSet (s : State) (b : ProfileBlock) : (s.reqProfileSet b).1.pending = s.pending := by
  unfold State.reqProfileSet
  split
  · exact onlyIn_applyProfile s _ _ .pending (by decide)
  · rfl

theorem pending_reqMeterGet (s : State) (cls : Byte) : (s.reqMeterGet cls).1.pending = s.pending := by
  unfold State.reqMeterGet; split <;> rfl

theorem pending_reqMeterSet (s : State) (b : MeterBlock) : (s.reqMeterSet b).1.pending = s.pending := by
  unfold State.reqMeterSet
  split
  · rfl
  · split
    · exact onlyIn_applyMeterSet s _ _ .pending (by decide)
    · rfl

theorem pending_reqBaselineSet (s : State) (port cls : Byte) (value : Half) :
    (s.reqBaselineSet port cls value).1.pending = s.pending := by
  unfold State.reqBaselineSet
  split
  · rfl
  · rfl
  · dsimp only
    split
    · rfl
    · exact onlyIn_seedBaselines s _ _ _ .pending (by decide)

theorem pending_reqGrace (s : State) (d : Half) : (s.reqGrace d).1.pending = s.pending := by
  unfold State.reqGrace
  dsimp only
  split
  · split <;> rfl
  · split <;> rfl

/-! ### The requests of ports, checks and sweeps (R79, R106 to R109, R115, R122, R126) -/

theorem pending_reqPortGet (s : State) (port : Byte) : (s.reqPortGet port).1.pending = s.pending := by
  unfold State.reqPortGet; split <;> rfl

theorem pending_reqPortRole (s : State) (port role : Byte) : (s.reqPortRole port role).1.pending = s.pending := by
  unfold State.reqPortRole
  split
  · rfl
  · rfl
  · dsimp only
    split
    · rfl
    · exact onlyIn_changeRole s _ _ .pending (by decide)

theorem pending_reqBlock (s : State) (port : Byte) : (s.reqBlock port).1.pending = s.pending := by
  unfold State.reqBlock
  split
  · rfl
  · split
    · rfl
    · rfl
    · exact onlyIn_trip s _ .host .held none none .pending (by decide)

theorem pending_reqRelease (s : State) (port : Byte) : (s.reqRelease port).1.pending = s.pending := by
  unfold State.reqRelease
  split
  · rfl
  · split
    · exact onlyIn_release s _ .pending (by decide)
    · rfl

theorem pending_reqRoomRelease (s : State) : s.reqRoomRelease.1.pending = s.pending := onlyIn_roomRelease s .pending (by decide)

theorem pending_reqCheck (s : State) (tag port : Byte) : (s.reqCheck tag port).1.pending = s.pending := by
  have wanted : ∀ p, (s.setWant p (.host tag)).pending = s.pending := fun p => onlyIn_setWant s p _ .pending (by decide)
  unfold State.reqCheck
  split
  · rfl
  · split
    · rfl
    · split
      · split
        · rfl
        · exact wanted _
      · split
        · exact wanted _
        · rfl

theorem pending_reqSweep (s : State) (tag first last : Byte) : (s.reqSweep tag first last).1.pending = s.pending := by
  unfold State.reqSweep
  split
  · split
    · rfl
    · split
      · rfl
      · dsimp only
        split
        · rfl
        · exact Eq.trans (State.setSweep_pending _ _) (onlyIn_endSweep s _ _ .pending (by decide))
  · rfl

theorem pending_reqAbort (s : State) : s.reqAbort.1.pending = s.pending := by
  unfold State.reqAbort
  split
  · rfl
  · exact onlyIn_endSweep s _ _ .pending (by decide)

/-! ### The requests of the evidence, the Station Table, the panel and the notices (R57 to R60, R136, R137, R144, R145, R172) -/

theorem pending_reqEvidenceGet (s : State) (port : Byte) : (s.reqEvidenceGet port).1.pending = s.pending := by
  unfold State.reqEvidenceGet; split <;> rfl

theorem pending_reqEvidenceClear (s : State) (port : Byte) : (s.reqEvidenceClear port).1.pending = s.pending := by
  have cleared : ∀ ports, OnlyIn [.evidence] s (s.clearEvidence ports) := fun ports =>
    .foldl (fun t p => onlyIn_setEvidenceOf t p _) ports s
  unfold State.reqEvidenceClear
  split
  · rfl
  · exact cleared _ .pending (by decide)

theorem pending_reqStationFind (s : State) (a : Address) : (s.reqStationFind a).1.pending = s.pending := by
  unfold State.reqStationFind; split <;> rfl

theorem pending_reqStationPin (s : State) (a : Address) (port : Byte) : (s.reqStationPin a port).1.pending = s.pending := by
  unfold State.reqStationPin
  split
  · rfl
  · split <;> rfl

theorem pending_reqStationUnpin (s : State) (a : Address) : (s.reqStationUnpin a).1.pending = s.pending := by
  unfold State.reqStationUnpin
  split
  · rfl
  · dsimp only
    split <;> rfl

theorem pending_reqStationFlush (s : State) (port : Byte) : (s.reqStationFlush port).1.pending = s.pending := by
  unfold State.reqStationFlush; split <;> rfl

theorem pending_reqPanelSet (s : State) (mask : BitVec 80) (value : Byte) :
    (s.reqPanelSet mask value).1.pending = s.pending := by
  unfold State.reqPanelSet
  split
  · rfl
  · exact State.setPanel_pending s _

theorem pending_reqPanelReturn (s : State) (mask : BitVec 80) : (s.reqPanelReturn mask).1.pending = s.pending :=
  State.setPanel_pending s _

theorem pending_reqNoticeMask (s : State) (mask : Half) : (s.reqNoticeMask mask).1.pending = s.pending := by
  unfold State.reqNoticeMask; split <;> rfl

/-- RESTART keeps the waiting commands (log 16). -/
theorem pending_reqRestart (s : State) (mode : Byte) : (s.reqRestart mode).1.pending = s.pending := by
  unfold State.reqRestart
  split
  · rfl
  · split <;> rfl

/-! ### Requests taken (R158, R159) -/

theorem pending_serve (s : State) (f : Frame) : (s.serve f).1.pending = s.pending := by
  unfold State.serve
  dsimp only
  split
  · exact pending_reqStatus s _
  · rfl
  · exact pending_reqProfileSet s _
  · exact pending_reqMeterGet s _
  · exact pending_reqMeterSet s _
  · exact pending_reqBaselineSet s _ _ _
  · exact pending_reqGrace s _
  · exact pending_reqPortGet s _
  · exact pending_reqPortRole s _ _
  · exact pending_reqBlock s _
  · exact pending_reqRelease s _
  · exact pending_reqRoomRelease s
  · rfl
  · exact pending_reqCheck s _ _
  · exact pending_reqSweep s _ _ _
  · exact pending_reqAbort s
  · exact pending_reqEvidenceGet s _
  · exact pending_reqEvidenceClear s _
  · exact pending_reqStationFind s _
  · exact pending_reqStationPin s _ _
  · exact pending_reqStationUnpin s _
  · exact pending_reqStationFlush s _
  · exact pending_reqPanelSet s _ _
  · exact pending_reqPanelReturn s _
  · exact pending_reqNoticeMask s _
  · exact pending_reqRestart s _
  · rfl

theorem pending_answerFrame (s : State) (f : Frame) : (s.answerFrame f).pending = s.pending := by
  unfold State.answerFrame
  split
  · rfl
  · split
    · exact pending_serve s f
    · rfl

theorem pending_takeRequest (s : State) : s.takeRequest.pending = s.pending := by
  unfold State.takeRequest
  split
  · exact pending_answerFrame _ _
  · rfl

/-- A request whose answer keeps the waiting commands keeps them, taken or waiting (log 5). -/
theorem pending_request (s : State) (kind tag : Byte) (flush : Bool) {f : State → Answer}
    (kept : ∀ t, (f t).1.pending = t.pending) : (s.request kind tag flush f).pending = s.pending := by
  unfold State.request
  split
  · exact kept _
  · rfl

/-! ### The commands -/

/-- Every command answers a next state with the same commands waiting. -/
theorem exec_keeps_pending (c : Instr) (s : State) : ∃ t, exec c s = .next t ∧ t.pending = s.pending := by
  have closed : ∀ {u : State}, u.pending = s.close.pending → u.pending = s.pending := fun kept => kept.trans (close_pending s)
  have request : ∀ (kind tag : Byte) (flush : Bool) {f : State → Answer}, (∀ u, (f u).1.pending = u.pending) →
      (s.close.request kind tag flush f).pending = s.pending := fun kind tag flush _ kept =>
    closed (pending_request s.close kind tag flush kept)
  cases c <;> refine ⟨_, rfl, ?_⟩
  case powerOn straps => rfl
  case slotExpiry lines order => exact onlyIn_slotExpiry s lines order .pending (by decide)
  case secondExpiry => exact pending_takeAfterReports s _
  case fabricLost | retirePeriodEnd | holdOffExpiry | strikeDecay | graceExpiry | autoSweepTimerExpiry | sweepTakePort |
      silPress | relPress | relRelease | keyReleaseSil | twoKeyRoomRelease | buzzerExpiry | frameTimeout | linkBreak =>
    exact pending_takeDue s _
  case calmHoldReached p => exact pending_takeReopening s p
  case probeExpiry o =>
    split
    · exact pending_takeAfterReports s _
    · rfl
  case sightingRecordReceive bytes extra => exact closed (pending_receiveRecord _ bytes extra)
  case tallyDispatch => exact closed (pending_dispatchTally _)
  case sampleDispatch => exact closed (pending_dispatchSample _)
  case probeDispatch => exact closed (pending_dispatchProbe _)
  case linkDispatch => exact closed (pending_dispatchLink _)
  case slotMarkGrant => exact closed (pending_grantMark _)
  case gateChangeGrant => exact closed (pending_grantGate _)
  case emitGrant => exact closed (pending_grantEmit _)
  case refreshGateGrant => exact closed (pending_grantRefresh _)
  case mlCharacterReceive | breakWaitEnd | replySent | noticeSend | noticeFrameEnd =>
    exact closed (State.setMgmt_pending _ _)
  case scanNextCommon => exact closed (State.setPanel_pending _ _)
  case requestTake => exact closed (pending_takeRequest _)
  case status tag option => exact request _ _ _ fun u => pending_reqStatus u option
  case profileGet | tripList => exact request _ _ _ fun _ => rfl
  case profileSet tag b => exact request _ _ _ fun u => pending_reqProfileSet u b
  case meterGet tag cls => exact request _ _ _ fun u => pending_reqMeterGet u cls
  case meterSet tag b => exact request _ _ _ fun u => pending_reqMeterSet u b
  case baselineSet tag port cls value => exact request _ _ _ fun u => pending_reqBaselineSet u port cls value
  case grace tag d => exact request _ _ _ fun u => pending_reqGrace u d
  case portGet tag port => exact request _ _ _ fun u => pending_reqPortGet u port
  case portRole tag port role => exact request _ _ _ fun u => pending_reqPortRole u port role
  case block tag port => exact request _ _ _ fun u => pending_reqBlock u port
  case release tag port => exact request _ _ _ fun u => pending_reqRelease u port
  case roomRelease => exact request _ _ _ pending_reqRoomRelease
  case check tag port => exact request _ _ _ fun u => pending_reqCheck u tag port
  case sweep tag first last => exact request _ _ _ fun u => pending_reqSweep u tag first last
  case abort => exact request _ _ _ pending_reqAbort
  case evidenceGet tag port => exact request _ _ _ fun u => pending_reqEvidenceGet u port
  case evidenceClear tag port => exact request _ _ _ fun u => pending_reqEvidenceClear u port
  case stationFind tag a => exact request _ _ _ fun u => pending_reqStationFind u a
  case stationPin tag a port => exact request _ _ _ fun u => pending_reqStationPin u a port
  case stationUnpin tag a => exact request _ _ _ fun u => pending_reqStationUnpin u a
  case stationFlush tag port => exact request _ _ _ fun u => pending_reqStationFlush u port
  case panelSet tag mask value => exact request _ _ _ fun u => pending_reqPanelSet u mask value
  case panelReturn tag mask => exact request _ _ _ fun u => pending_reqPanelReturn u mask
  case noticeMask tag mask => exact request _ _ _ fun u => pending_reqNoticeMask u mask
  case restart tag mode => exact request _ _ _ fun u => pending_reqRestart u mode

/-! ### Closing the expiry before a command (log 3) -/

/-- A command that acts on the closed expiry alone does to a state what it does to the state closed. -/
theorem exec_close_of_closed {c : Instr} {f : State → State} (acts : ∀ s, exec c s = .next (f s.close)) (s : State) :
    exec c s = exec c s.close := by
  rw [acts, acts, close_close]

/-- A slot expiry closes the expiry before it first. -/
theorem slotExpiry_close (s : State) (lines : SlotLines) (order : ExpiryOrder) :
    s.close.slotExpiry lines order = s.slotExpiry lines order := by
  unfold State.slotExpiry; rw [close_close]

/-- Every command but the events' own rows does to a state what it does to the state closed. -/
theorem exec_close {c : Instr} (closes : closesExpiry c = true) (s : State) : exec c s = exec c s.close := by
  cases c
  case secondExpiry | fabricLost | calmHoldReached | probeExpiry | retirePeriodEnd | holdOffExpiry | strikeDecay | graceExpiry |
      autoSweepTimerExpiry | sweepTakePort | silPress | relPress | relRelease | keyReleaseSil | twoKeyRoomRelease |
      buzzerExpiry | frameTimeout | linkBreak => exact absurd closes Bool.false_ne_true
  case powerOn straps =>
    have start := congrArg (State.start straps factoryRoles factoryProfile) (close_pending s)
    exact congrArg Host.Outcome.next start.symm
  case slotExpiry lines order => exact congrArg Host.Outcome.next (slotExpiry_close s lines order).symm
  case tallyDispatch | sampleDispatch | probeDispatch | linkDispatch | slotMarkGrant | gateChangeGrant | emitGrant |
      refreshGateGrant | requestTake | scanNextCommon => exact exec_close_of_closed (fun _ => rfl) s
  case sightingRecordReceive bytes extra =>
    exact exec_close_of_closed (f := fun u => u.receiveRecord bytes extra) (fun _ => rfl) s
  case mlCharacterReceive b stopHigh =>
    exact exec_close_of_closed (f := fun u => u.setMgmt (u.mgmt.character b stopHigh)) (fun _ => rfl) s
  case breakWaitEnd => exact exec_close_of_closed (f := fun u => u.setMgmt u.mgmt.breakWaitEnd) (fun _ => rfl) s
  case replySent => exact exec_close_of_closed (f := fun u => u.setMgmt u.mgmt.replySent) (fun _ => rfl) s
  case noticeSend => exact exec_close_of_closed (f := fun u => u.setMgmt u.mgmt.sendNotice) (fun _ => rfl) s
  case noticeFrameEnd => exact exec_close_of_closed (f := fun u => u.setMgmt u.mgmt.noticeEnd) (fun _ => rfl) s
  case status | profileGet | profileSet | meterGet | meterSet | baselineSet | grace | portGet | portRole | block | release |
      roomRelease | tripList | check | sweep | abort | evidenceGet | evidenceClear | stationFind | stationPin | stationUnpin |
      stationFlush | panelSet | panelReturn | noticeMask | restart =>
    exact exec_close_of_closed (f := fun u => u.request _ _ _ _) (fun _ => rfl) s

/-- Settles O2: no command's effect touches the queue, by the lemmas on each effect, and closing a closed expiry does nothing. -/
theorem everyCommandKeepsTheQueue : Obligations.EveryCommandKeepsTheQueue :=
  ⟨exec_keeps_pending, fun _ s closes => exec_close closes s⟩

end Sys2Proof.Machine
end
